-- ==== Sys2Proof/Word.lean ====
section
/-! DEFINITION. The plain bit-vector types of the part: bytes, two-byte fields, pixel colours and 24-bit colours. -/

namespace Sys2Proof

/-- One byte of a frame, a request, a reply, a cell or an image. -/
abbrev Byte := BitVec 8

/-- A two-byte field, most significant byte first on every port (R196). -/
abbrev Word16 := BitVec 16

/-- A sequence of bytes in the order in which they are carried. -/
abbrev Bytes := List Byte

/-- A layer colour, 0 to 3 (R115). -/
abbrev Colour := BitVec 2

/-- A 24-bit colour of a palette: red in bits 23 to 16, green in 15 to 8, blue in 7 to 0 (R137). -/
abbrev Rgb := BitVec 24

/-- A set of the twelve face events, bit n for row n of the table of R158 (R198). -/
abbrev EventSet := BitVec 12

/-- A waypoint in its 4-byte trunk form: x in bits 31 to 20, y in bits 19 to 8, level in bits 2 to 0 (R202). -/
abbrev Waypoint := BitVec 32

/-- One of faces 0 to 3. -/
abbrev Face := Fin 4

/-- The bytes of a 16-bit value, most significant first (R196). -/
def Word16.bytes (w : Word16) : Bytes :=
  [w.extractLsb' 8 8, w.extractLsb' 0 8]

/-- A number below 256 as a byte. -/
def byteOf (n : Nat) : Byte := BitVec.ofNat 8 n

/-- A number below 65536 as two bytes, most significant first (R196). -/
def word16Of (n : Nat) : Bytes := Word16.bytes (BitVec.ofNat 16 n)

end Sys2Proof
end

