-- ==== Sys2Proof/Config.lean ====
section
/-! DEFINITION. What the part fixes: the sizes of its stores, the face geometry and the fixed times. The spec leaves no
result value open, so there is no free value here (log 24). -/

namespace Sys2Proof.Config

/-- Columns of a face, x 0 to 1079 (00_scope.md, Coordinates). -/
def faceWidth : Nat := 1080
/-- Rows of a face, y 0 to 1919 (00_scope.md, Coordinates). -/
def faceHeight : Nat := 1920
/-- Bytes of one face's region in each plane (R133). -/
def faceRegion : Nat := 259200
/-- Bytes of one plane (R133). -/
def planeBytes : Nat := 1036800
/-- Directory entries (R1). -/
def entryCount : Nat := 1024
/-- Route blocks (R10). -/
def blockCount : Nat := 512
/-- Waypoint cells of a block (R10). -/
def blockCells : Nat := 8
/-- Most waypoints of a route (R11). -/
def maxWaypoints : Nat := 64
/-- Glyph pages (R17). -/
def glyphPages : Nat := 64
/-- Bytes of a glyph page (R17). -/
def glyphPageBytes : Nat := 4608
/-- Bytes of one glyph cell (R17). -/
def glyphBytes : Nat := 72
/-- Pixels of a glyph's side at scale 1 (R17, R120). -/
def glyphSide : Nat := 24
/-- Templates (R95). -/
def templateCount : Nat := 64
/-- Bytes of a template image (R200). -/
def templateBytes : Nat := 256
/-- Bytes of an entry image (R201). -/
def entryBytes : Nat := 217
/-- Bytes of a language image (R201). -/
def languageBytes : Nat := 4
/-- Bytes of an evacuation plan image (R201). -/
def planBytes : Nat := 315
/-- Bytes of a face's image buffer (R68). -/
def imageBytes : Nat := 4096
/-- Cells of a ring and of a template (R83, R95). -/
def ringCells : Nat := 16
/-- Bytes of a cell (R84). -/
def cellBytes : Nat := 16
/-- Most include-stack levels (R96). -/
def maxDepth : Nat := 4
/-- Cells a level may run (R98). -/
def levelBudget : Nat := 32
/-- Most pixels of a pixel group (R113). -/
def groupPixels : Nat := 32
/-- The greatest wait count (R109). -/
def maxWaitCount : Nat := 15
/-- The limit of the configuration read, in ms (R192). -/
def loadLimitMs : Nat := 50
/-- The cut-off time, in ms (R174). -/
def cutoffMs : Nat := 40
/-- The EVAC line's time held low before the source asserts, in ms (R172). -/
def lineLowMs : Nat := 20
/-- The EVAC line's time held high before the source clears, in ms (R172). -/
def lineHighMs : Nat := 200
/-- Feed samples in a bit time (R186). -/
def samplesPerBit : Nat := 16
/-- Samples with no accepted edge that drop a frame (R187). -/
def timeoutSamples : Nat := 48
/-- The shortest 1 dip, in samples (R186). -/
def oneDip : Nat := 8
/-- The shortest sync dip, in samples (R186). -/
def syncDip : Nat := 24

end Sys2Proof.Config
end

