-- ==== Sys2Proof/Syntax.lean ====
section
/-! DEFINITION. The commands of the part: one constructor for each row of spec/opcode_table.json, with the row's operands. -/

namespace Sys2Proof

/-- A run of consecutive samples of the supply feed that agree on one level (R186): low while the head-end dips it. -/
structure FeedRun where
  low : Bool
  samples : Nat
  deriving DecidableEq, Repr

/-- What the head-end does on the feed, sampled 16 times per bit time, oldest run first (R186; log 3). -/
abbrev Feed := List FeedRun

/-- What a face controller shifts in after the first byte of a port transaction (R69): whole bytes, and the number of
bits clocked after the last whole byte, which the port discards. -/
structure Transfer where
  bytes : Bytes
  tailBits : Fin 8
  deriving DecidableEq, Repr

/-- The commands of spec/opcode_table.json, in the table's order. -/
inductive Instr where
  /-- FULL_RESET (R192). -/
  | fullReset
  /-- RESET_RELEASE (R192). -/
  | resetRelease
  /-- CONFIG_READ_COMPLETE (R192) with the 32 bytes received (R203). -/
  | configReadComplete (bytes : Vector Byte 32)
  /-- CONFIG_NO_ACKNOWLEDGE (R192). -/
  | configNoAcknowledge
  /-- CONFIG_LIMIT_EXPIRY (R192). -/
  | configLimitExpiry
  /-- PLANE_CLEAR_DONE (R133). -/
  | planeClearDone
  /-- OPEN (R25): a trunk frame of kind 01h, as the feed carries it. -/
  | openFrame (feed : Feed)
  /-- CHUNK (R28): kind 02h. -/
  | chunkFrame (feed : Feed)
  /-- WAYPOINTS (R29): kind 03h. -/
  | waypointsFrame (feed : Feed)
  /-- CLOSE (R32): kind 04h. -/
  | closeFrame (feed : Feed)
  /-- ABANDON (R42): kind 05h. -/
  | abandonFrame (feed : Feed)
  /-- PURGE (R43): kind 09h. -/
  | purgeFrame (feed : Feed)
  /-- ALARM (R173): kind 07h. -/
  | alarmFrame (feed : Feed)
  /-- ALL_CLEAR (R173): kind 08h. -/
  | allClearFrame (feed : Feed)
  /-- POLL (R191): kind 06h. -/
  | pollFrame (feed : Feed)
  /-- UNKNOWN_FRAME_KIND (R189): a frame whose kind code names no kind. -/
  | unknownFrameKind (feed : Feed)
  /-- TRUNK_FRAME_DROPPED (R188): feed activity that ends without a taken frame. -/
  | trunkFrameDropped (feed : Feed)
  /-- TRUNK_FRAME_TIMEOUT (R187): feed activity, then 3 bit times with no accepted edge. -/
  | trunkFrameTimeout (feed : Feed)
  /-- TURNAROUND_END (R190). -/
  | turnaroundEnd
  /-- REPLY_END (R190). -/
  | replyEnd
  /-- STATUS (R76), code 01h. -/
  | status (f : Face) (x : Transfer)
  /-- KICK (R163), code 02h. -/
  | kick (f : Face) (x : Transfer)
  /-- READ_EVENTS (R160), code 03h. -/
  | readEvents (f : Face) (x : Transfer)
  /-- SET_MASK (R161), code 04h. -/
  | setMask (f : Face) (x : Transfer)
  /-- READ_ENTRY (R57), code 10h. -/
  | readEntry (f : Face) (x : Transfer)
  /-- LIST_WINDOW (R60), code 11h. -/
  | listWindow (f : Face) (x : Transfer)
  /-- FIND_PREFIX (R62), code 12h. -/
  | findPrefix (f : Face) (x : Transfer)
  /-- WRITE_CELLS (R85), code 20h. -/
  | writeCells (f : Face) (x : Transfer)
  /-- START (R87), code 21h. -/
  | start (f : Face) (x : Transfer)
  /-- APPEND (R88), code 22h. -/
  | append (f : Face) (x : Transfer)
  /-- STOP (R89), code 23h. -/
  | stop (f : Face) (x : Transfer)
  /-- READ_FAULT (R94), code 24h. -/
  | readFault (f : Face) (x : Transfer)
  /-- WRITE_IMAGE (R80), code 25h. -/
  | writeImage (f : Face) (x : Transfer)
  /-- SET_MAP (R79), code 30h. -/
  | setMap (f : Face) (x : Transfer)
  /-- SET_LANGUAGE (R78), code 31h. -/
  | setLanguage (f : Face) (x : Transfer)
  /-- SET_PALETTE (R139), code 32h. -/
  | setPalette (f : Face) (x : Transfer)
  /-- READ_SLOTS (R156), code 40h. -/
  | readSlots (f : Face) (x : Transfer)
  /-- HIT_TEST (R157), code 41h. -/
  | hitTest (f : Face) (x : Transfer)
  /-- RESET_FACE (R81), code 50h. -/
  | resetFace (f : Face) (x : Transfer)
  /-- FETCH (R73), code 80h, with the number of whole bytes clocked after the FETCH code. -/
  | fetch (f : Face) (clocked : Nat)
  /-- UNKNOWN_REQUEST_CODE (R74): a request transaction whose code names no request. -/
  | unknownRequestCode (f : Face) (code : Byte) (x : Transfer)
  /-- FACE_GRANT (R107). -/
  | faceGrant
  /-- TEMPLATE_CELL_STEP (R98). -/
  | templateCellStep
  /-- PIXEL_GROUP_WRITE (R113) of a group of up to `count` pixels. -/
  | pixelGroupWrite (count : Nat)
  /-- ROUTE_ERASE_DONE (R130). -/
  | routeEraseDone
  /-- SEGMENT_COMPLETION (R114). -/
  | segmentCompletion
  /-- SEGMENT_FAULT (R103). -/
  | segmentFault
  /-- REPOSITION_DONE (R52). -/
  | repositionDone
  /-- GLYPH_COPY_DONE (R36). -/
  | glyphCopyDone
  /-- TEMPLATE_COPY_DONE (R37). -/
  | templateCopyDone
  /-- PURGE_GRANT (R44). -/
  | purgeGrant
  /-- PURGE_END (R45). -/
  | purgeEnd
  /-- FRAME_START (R136) of one face. -/
  | frameStart (f : Face)
  /-- WAIT_TIME_EXPIRY (R165) of one face. -/
  | waitTimeExpiry (f : Face)
  /-- PULSE_TIME_EXPIRY (R166) of one face. -/
  | pulseTimeExpiry (f : Face)
  /-- RECOVERY_WINDOW_EXPIRY (R167) of one face. -/
  | recoveryWindowExpiry (f : Face)
  /-- EVAC_LINE_CHANGE (R172). -/
  | evacLineChange
  /-- LINE_DEBOUNCE_EXPIRY (R172). -/
  | lineDebounceExpiry
  /-- CUTOFF_EXPIRY (R176). -/
  | cutoffExpiry
  /-- EC_GRANT (R177). -/
  | ecGrant
  /-- VIEW_DRAWING_END (R180). -/
  | viewDrawingEnd
  /-- CYCLE_TIMER_EXPIRY (R182). -/
  | cycleTimerExpiry
  /-- BAND_DRAWING_END (R182). -/
  | bandDrawingEnd
  /-- BLANK_DRAWING_END (R183). -/
  | blankDrawingEnd
  deriving DecidableEq, Repr

end Sys2Proof
end

