-- ==== Sys2Proof/Machine/Sparse.lean ====
section
/-! DEFINITION. Stores held as lists of address and value pairs in one canonical form: addresses strictly rising, and no
pair whose value is what an unlisted address reads as. -/

namespace Sys2Proof.Machine

/-- A store of values by address, listing only the addresses that differ from the default. -/
abbrev Sparse (β : Type) := List (Nat × β)

/-- A byte store: an unlisted address reads 0 (R68, R83, R133; log 23). -/
abbrev Mem := List Host.Cell

/-- The value at an address; `d` where none is listed. -/
def Sparse.read {β : Type} (d : β) : Sparse β → Nat → β
  | [], _ => d
  | (k, v) :: m, a => if k = a then v else Sparse.read d m a

/-- The store with a pair placed in address order. -/
def Sparse.put {β : Type} : Sparse β → Nat → β → Sparse β
  | [], a, v => [(a, v)]
  | (k, w) :: m, a, v =>
    if a < k then (a, v) :: (k, w) :: m
    else if a = k then (k, v) :: m
    else (k, w) :: Sparse.put m a v

/-- The store after a write; writing the default value leaves no pair. -/
def Sparse.write {β : Type} [DecidableEq β] (d : β) (m : Sparse β) (a : Nat) (v : β) : Sparse β :=
  if v = d then m.filter (fun c => c.1 != a) else Sparse.put m a v

/-- Addresses strictly rise. -/
def Sparse.rising {β : Type} : Sparse β → Bool
  | [] => true
  | [_] => true
  | c :: e :: m => decide (c.1 < e.1) && Sparse.rising (e :: m)

/-- The canonical form. -/
def Sparse.wf {β : Type} [DecidableEq β] (d : β) (m : Sparse β) : Bool :=
  Sparse.rising m && m.all (fun c => c.2 != d)

/-- The canonical form of a byte store. -/
def Memory.wf (m : Mem) : Bool := Sparse.wf (0 : Byte) m

/-- The byte at an address. -/
def Mem.read (m : Mem) (a : Nat) : Byte := Sparse.read 0 m a

/-- The byte store after a write of one byte. -/
def Mem.write (m : Mem) (a : Nat) (v : Byte) : Mem := Sparse.write 0 m a v

/-- Bytes written from an address onward, in order. -/
def Mem.writeBytes : Mem → Nat → Bytes → Mem
  | m, _, [] => m
  | m, a, b :: bs => Mem.writeBytes (m.write a b) (a + 1) bs

/-- `n` bytes from an address onward. -/
def Mem.readBytes (m : Mem) (a n : Nat) : Bytes := (List.range n).map (fun i => m.read (a + i))

/-- A byte as a number. -/
def Mem.num (m : Mem) (a : Nat) : Nat := (m.read a).toNat

/-- A two-byte field, most significant byte first (R196). -/
def Mem.num16 (m : Mem) (a : Nat) : Nat := m.num a * 256 + m.num (a + 1)

/-- A list of `n` two-byte codes from an address onward. -/
def Mem.codes (m : Mem) (a n : Nat) : List Nat := (List.range n).map (fun i => m.num16 (a + 2 * i))

/-- One bit of the byte at an address; bit 7 is the most significant. -/
def Mem.bit (m : Mem) (a i : Nat) : Bool := (m.read a).getLsbD i

/-- The byte store with one bit of one byte set to a value. -/
def Mem.writeBit (m : Mem) (a i : Nat) (v : Bool) : Mem :=
  let mask : Byte := 1#8 <<< i
  m.write a (if v then m.read a ||| mask else m.read a &&& ~~~mask)

/-- A function applied to every place of a vector. -/
def vmap {α β : Type} {n : Nat} (f : α → β) (v : Vector α n) : Vector β n :=
  Vector.ofFn (fun i => f v[i])

end Sys2Proof.Machine
end

