-- ==== Sys2Proof/Machine/Types.lean ====
section
/-! DEFINITION. The types of the part's state, block by block, in the spec's names. -/

namespace Sys2Proof.Machine

/-! ### Directory Table and Route Store (chapter 1) -/

/-- The state of a directory entry (R1). -/
inductive EntryState where
  | free | live | hidden
  deriving DecidableEq, Repr

/-- A route chain: its blocks in travel order and its waypoint count (R11). -/
structure Chain where
  blocks : List Nat
  count : Nat
  deriving DecidableEq, Repr

/-- A directory entry (R2). The content fields stand in the 217-byte image as last committed (R197, R201), which lists no
byte while the entry is FREE; the route is the chain, or absent. -/
structure Entry where
  state : EntryState
  generation : Byte
  image : Mem
  route : Option Chain
  deriving DecidableEq, Repr

/-- The Route Store (R10, R12): the blocks out of the free set, in ascending order, and the waypoint cells, cell c of block b
at 8 b + c. -/
structure RouteStore where
  allocated : List Nat
  cells : Sparse Waypoint
  deriving DecidableEq, Repr

/-- The Glyph Store (R17, R18): its pages, BLANK (`none`) or LOADED with their bytes, and the page being copied into. -/
structure GlyphStore where
  pages : Sparse (Option Mem)
  copying : Option Nat
  deriving DecidableEq, Repr

/-- A template (R95): EMPTY (`none`) or DEFINED with its 16 cells, and its use count. -/
structure Template where
  cells : Option Mem
  use : Nat
  deriving DecidableEq, Repr

/-- The Template Store (R34, R37, R95): its templates, the one being copied into, and the set of templates entered by the
segment that holds the engine. -/
structure TemplateStore where
  table : Sparse Template
  copying : Option Nat
  entered : List Nat
  deriving DecidableEq, Repr

/-! ### Update Controller (chapter 2) -/

/-- UC state (R22). -/
inductive UcState where
  | idle | staging | committing | deferred
  deriving DecidableEq, Repr

/-- Target kind of a transaction (R24). -/
inductive TargetKind where
  | entry | template | glyphPage | language | evacPlan
  deriving DecidableEq, Repr

/-- Operation of a transaction (R24). -/
inductive Op where
  | put | patch | hide | show | remove | load | clear
  deriving DecidableEq, Repr

/-- Reason of a REFUSED outcome (R22). -/
inductive RefusalReason where
  | format | check | space | state
  deriving DecidableEq, Repr

/-- Outcome of a transaction (R22). -/
inductive TxnOutcome where
  | none | committed | refused (r : RefusalReason) | abandoned | displaced | purged
  deriving DecidableEq, Repr

/-- The current transaction (R22). -/
structure Txn where
  tag : Word16
  kind : TargetKind
  number : Nat
  op : Op
  deriving DecidableEq, Repr

/-- A staged image: its size in bytes and its bytes (R22, R24). -/
structure Image where
  size : Nat
  bytes : Mem
  deriving DecidableEq, Repr

/-- The Update Controller (R22). -/
structure Update where
  state : UcState
  txn : Option Txn
  image : Option Image
  chain : Chain
  purging : Bool
  recordTag : Word16
  recordOutcome : TxnOutcome
  count : Word16
  cold : Bool
  deriving DecidableEq, Repr

/-- NAK reason (R190, R198). -/
inductive NakReason where
  | busy | state | range | format | check | space
  deriving DecidableEq, Repr

/-! ### Order Lists (chapter 3) -/

/-- A reposition in flight: the entry and its states before and after the commit (R51). -/
structure Reposition where
  entry : Nat
  old : EntryState
  new : EntryState
  deriving DecidableEq, Repr

/-- The Order Lists (R48, R52). -/
structure Orders where
  lists : Vector (List Nat) 4
  reposition : Option Reposition
  deriving DecidableEq, Repr

/-! ### Face contexts and face ports (chapters 3, 4) -/

/-- A map window (R67, R175). -/
structure MapWindow where
  cx : Nat
  cy : Nat
  mx : Nat
  my : Nat
  level : Nat
  scale : Nat
  deriving DecidableEq, Repr

/-- Orientation of a face, clockwise on the glass (R65). -/
inductive Orientation where
  | deg0 | deg90 | deg180 | deg270
  deriving DecidableEq, Repr

/-- Reply code (R198). -/
inductive ReplyCode where
  | ok | busy | state | range | notLive | withdrawn | evac | format | notReady
  deriving DecidableEq, Repr

/-- A reply: its code, the code of the request it answers, and its results (R73, R197). -/
structure Reply where
  code : ReplyCode
  request : Byte
  results : Bytes
  deriving DecidableEq, Repr

/-- A request that its owner may hold, with its parameters (R71). -/
inductive HeldRequest where
  | readEntry (entry : Nat) (language : Fin 4)
  | listWindow (language : Fin 4) (start : Nat) (count : Nat) (filter : Option Nat)
  | findPrefix (language : Fin 4) (codes : List Nat)
  | readSlots
  | hitTest (x y : Nat)
  | resetFace
  deriving DecidableEq, Repr

/-- A face port (R69, R71): the request in progress, the reply slot, and the bytes its last transaction shifted out. -/
structure Port where
  inProgress : Option HeldRequest
  reply : Option Reply
  dataOut : Bytes
  deriving DecidableEq, Repr

/-- Port state (R70). -/
inductive PortState where
  | ready | working | replyWaiting | notReady | absent
  deriving DecidableEq, Repr

/-! ### Queues and templates (chapter 5) -/

/-- Queue state (R86). -/
inductive QueueState where
  | idle | pending | running | waiting | halted
  deriving DecidableEq, Repr

/-- Halt reason of a HALTED queue (R83). -/
inductive HaltReason where
  | fault | evac | withdrawn | purged
  deriving DecidableEq, Repr

/-- A non-empty active range: its next and its last cell (R83). -/
structure ActiveRange where
  next : Fin 16
  last : Fin 16
  deriving DecidableEq, Repr

/-- One include-stack level (R96): template, cell, return cell (none for a level entered from queue level), origin, budget. -/
structure Level where
  template : Nat
  cell : Fin 16
  ret : Option (Fin 16)
  x : Nat
  y : Nat
  budget : Nat
  deriving DecidableEq, Repr

/-- Fault reason (R103). -/
inductive FaultReason where
  | badKind | range | notLive | noTemplate | depth | context | nestedCard | runaway | imageRange | cut
  deriving DecidableEq, Repr

/-- A filled fault record (R104): `top` is the template and cell of the top level, absent at depth 0. -/
structure FaultRecord where
  cell : Fin 16
  depth : Nat
  top : Option (Nat × Fin 16)
  reason : FaultReason
  deriving DecidableEq, Repr

/-- The queue record of a face (R83); the stack's head is its top level. -/
structure Queue where
  ring : Mem
  state : QueueState
  halt : Option HaltReason
  range : Option ActiveRange
  stop : Bool
  stack : List Level
  fault : Option FaultRecord
  deriving DecidableEq, Repr

/-- Segment kind (R84). -/
inductive Kind where
  | fill | frame | image | call | card | route | clearRoute | clearSlot | waitFrame | textField | select | goto | endLevel
  deriving DecidableEq, Repr

/-- Layer (R198). -/
inductive Layer where
  | map | card
  deriving DecidableEq, Repr

/-- Combine (R115). -/
inductive Combine where
  | replace | and | or | xor
  deriving DecidableEq, Repr

/-- A rectangle: top-left pixel, width, height. -/
structure Rect where
  x : Nat
  y : Nat
  w : Nat
  h : Nat
  deriving DecidableEq, Repr

/-- Text field (R84). -/
inductive TextSource where
  | name | unit
  deriving DecidableEq, Repr

/-- Selector (R100). -/
inductive Selector where
  | openMark | category | level | hasName
  deriving DecidableEq, Repr

/-- A segment record whose fields are all in range (R84, R200). -/
inductive Seg where
  | fill (layer : Layer) (combine : Combine) (colour : Colour) (r : Rect)
  | frame (layer : Layer) (combine : Combine) (colour : Colour) (thickness : Nat) (r : Rect)
  | image (layer : Layer) (combine : Combine) (keyed : Bool) (r : Rect) (offset : Nat)
  | call (template : Nat) (x y : Nat)
  | card (entry : Nat) (slot : Fin 12) (template : Nat) (r : Rect)
  | route (entry : Nat) (colour : Colour) (width : Nat)
  | clearRoute
  | clearSlot (slot : Fin 12) (colour : Colour)
  | waitFrame
  | textField (field : TextSource) (combine : Combine) (colour : Colour) (scale : Nat) (x y : Nat) (maxWidth : Nat)
  | select (selector : Selector) (n : Nat)
  | goto (cell : Fin 16)
  | endLevel
  deriving DecidableEq, Repr

/-! ### Draw Engine and Engine Arbiter (chapter 6) -/

/-- Open mark (R2). -/
inductive OpenMark where
  | absent | opened | closed
  deriving DecidableEq, Repr

/-- The entry snapshot (R112). -/
structure Snapshot where
  entry : Nat
  state : EntryState
  generation : Byte
  unit : List Nat
  level : Nat
  category : Nat
  openMark : OpenMark
  names : Vector (Option (List Nat)) 4
  deriving DecidableEq, Repr

/-- A waypoint placed on the glass (R127): whether it is on the map level, and its face pixel. -/
structure Placed where
  onLevel : Bool
  x : Int
  y : Int
  deriving DecidableEq, Repr

/-- What decides, for each pixel of a job's box, whether the mask lets it be written and with which source (R115). -/
inductive Shape where
  /-- Every pixel, in one colour (FILL, CLEAR_SLOT, the evacuation view). -/
  | solid (colour : Colour)
  /-- The pixels within a thickness of the box's edge (FRAME, R117). -/
  | outline (thickness : Nat) (colour : Colour)
  /-- The pixels of the face's image buffer from an offset (IMAGE, R118). -/
  | image (offset : Nat) (keyed : Bool)
  /-- The covered pixels of a glyph cell at a scale (R123). -/
  | glyph (cell : Bytes) (scale : Nat) (colour : Colour)
  /-- The route set of placed waypoints at a width (R128). -/
  | route (points : List Placed) (width : Nat) (colour : Colour)
  deriving DecidableEq, Repr

/-- A shape being written: `passed` pixels of its box are behind the engine, row by row from the top-left (R117). -/
structure Plot where
  face : Face
  layer : Layer
  combine : Combine
  shape : Shape
  box : Rect
  passed : Nat
  deriving DecidableEq, Repr

/-- A text field under way (R121 to R123): the positions still to draw, each a glyph code and a left edge. -/
structure TextRun where
  face : Face
  combine : Combine
  colour : Colour
  scale : Nat
  y : Nat
  rest : List (Nat × Nat)
  deriving DecidableEq, Repr

/-- Work of the draw engine. -/
inductive Job where
  | plot (p : Plot)
  | text (t : TextRun)
  /-- The evacuation message on a face, whose field has not started (R179). -/
  | message (face : Face) (language : Fin 4) (codes : List Nat)
  deriving DecidableEq, Repr

/-- Where the current segment stands (log 14). -/
inductive Stage where
  /-- FILL, FRAME or IMAGE at queue level: its pixels are being written. -/
  | drawing
  /-- CLEAR_SLOT: the fill is being written (R126). -/
  | clearing (slot : Fin 12)
  /-- ROUTE or CLEAR_ROUTE: the erase pass (R130, R131). -/
  | erasing
  /-- ROUTE: the draw pass (R130). -/
  | routing
  /-- CARD or CALL: template cells run (R98). -/
  | expanding
  /-- A push waits for the copy into its template (R97, R113). -/
  | pushing (template : Nat) (x y : Nat) (ret : Option (Fin 16))
  /-- The queue-level cell has done its work; the completion is due. -/
  | finished
  /-- A check or a piece of work has failed; the fault is due (R103). -/
  | failed (reason : FaultReason)
  deriving DecidableEq, Repr

/-- The current segment (R111): `kind` is none for a code that names no kind; `card` is the card slot once the snapshot is
taken, `routed` tells that the ROUTE snapshot is taken, `pulsed` that the face's supervisor entered PULSE during the
segment (R90). -/
structure Segment where
  face : Face
  cell : Fin 16
  kind : Option Kind
  language : Fin 4
  stage : Stage
  card : Option (Fin 12)
  routed : Bool
  pulsed : Bool
  deriving DecidableEq, Repr

/-- The Draw Engine: the current segment, the pixel work, and whether a glyph request is held (R111, R113). -/
structure Engine where
  segment : Option Segment
  jobs : List Job
  glyphHeld : Bool
  deriving DecidableEq, Repr

/-- A claimant or holder of the engine (R105, R106). -/
inductive Claimant where
  | face (f : Face) | purge | ec
  deriving DecidableEq, Repr

/-- A grant decision (R107): the chosen claimant and the faces that claimed at the decision. -/
structure Decision where
  chosen : Claimant
  claims : List Face
  deriving DecidableEq, Repr

/-- The Engine Arbiter (R105); the wait counts stand in the face contexts. -/
structure Arbiter where
  holder : Option Claimant
  lastServed : Option Face
  decision : Option Decision
  deriving DecidableEq, Repr

/-! ### Scan-out (chapter 7) -/

/-- Palette source (R138). -/
inductive PaletteSource where
  | face | evacuation
  deriving DecidableEq, Repr

/-- The palette state of a face (R138). -/
structure PaletteState where
  own : Vector Rgb 16
  pending : Vector (Option Rgb) 16
  evacuation : Vector Rgb 16
  source : PaletteSource
  shown : Vector Rgb 16
  deriving DecidableEq, Repr

/-- What a face's pixel output is doing (R136, R137, R143). -/
inductive Scan where
  /-- Blank output. -/
  | blank
  /-- The sync interval of a frame start. -/
  | sync
  /-- A pixel is driven with its colour. -/
  | pixel (x y : Nat) (colour : Rgb)
  /-- Between row `y` and the next. -/
  | rowGap (y : Nat)
  /-- Between the last row and the next frame start. -/
  | frameGap
  deriving DecidableEq, Repr

/-! ### Slot Tracker (chapter 8) -/

/-- State of a card slot that is not EMPTY (R144). -/
inductive CardState where
  | drawing | current | stale | gone | broken
  deriving DecidableEq, Repr

/-- The record of a card slot (R144); an EMPTY slot is `none`. -/
structure Card where
  state : CardState
  entry : Nat
  generation : Byte
  rect : Rect
  deriving DecidableEq, Repr

/-- State of a route slot that is not NONE (R145). -/
inductive RouteState where
  | drawing | drawn | stale | gone | disturbed
  deriving DecidableEq, Repr

/-- The record of a route slot (R145); a NONE slot is `none`. -/
structure RouteRecord where
  state : RouteState
  entry : Nat
  generation : Byte
  colour : Colour
  width : Nat
  copy : List Waypoint
  deriving DecidableEq, Repr

/-! ### Events and supervision (chapter 9) -/

/-- The twelve events, in the order of the table of R158. -/
inductive Event where
  | replyReady | segmentDone | queueIdle | segmentFault | slotChanged | routeChanged
  | directoryChanged | glyphsChanged | templateChanged | evacOn | evacOff | recovered
  deriving DecidableEq, Repr

/-- A timer: stopped, or running a period in milliseconds (log 7). -/
inductive Timer where
  | stopped
  | running (ms : Nat)
  deriving DecidableEq, Repr

/-- Supervisor state (R162). -/
inductive SupState where
  | off | watch | pulse | recovery | disabled
  deriving DecidableEq, Repr

/-- The supervisor record of a face (R162). -/
structure Supervisor where
  state : SupState
  timer : Timer
  pulses : Nat
  deriving DecidableEq, Repr

/-- A face context (R64). Enabled, orientation and priority stand in the settings (R65). -/
structure FaceContext where
  language : Fin 4
  window : MapWindow
  image : Mem
  port : Port
  palette : PaletteState
  queue : Queue
  snapshot : Option Snapshot
  cards : Vector (Option Card) 12
  route : Option RouteRecord
  latch : EventSet
  mask : EventSet
  supervisor : Supervisor
  waitCount : Nat
  scan : Scan
  deriving DecidableEq, Repr

/-! ### Evacuation Controller (chapter 10) -/

/-- Evacuation state (R171). -/
inductive EvacState where
  | normal | takeover | showing | releasing
  deriving DecidableEq, Repr

/-- The drawing EC has in flight (R171). -/
inductive Drawing where
  | view | band | blank
  deriving DecidableEq, Repr

/-- The Evacuation Controller (R171): `asserted` is the line source, `lineLow` the level of the EVAC pin. -/
structure Evac where
  state : EvacState
  asserted : Bool
  lineLow : Bool
  debounce : Timer
  trunkZone : Option (Fin 8)
  drawnZone : Option (Fin 8)
  language : Option (Fin 4)
  redraw : Bool
  drawing : Option Drawing
  cutoff : Timer
  cycle : Timer
  plans : Vector (Option Mem) 8
  deriving DecidableEq, Repr

/-! ### Trunk Interface (chapter 11) -/

/-- Receiver state (R187), or off before the end of the load (R185). -/
inductive RxState where
  | off | idle | sync | body | check | turnaround | reply
  deriving DecidableEq, Repr

/-- A pulse of the load sink, in quarter bit times on and then off (R190). -/
structure Pulse where
  on : Nat
  off : Nat
  deriving DecidableEq, Repr

/-- The Trunk Interface (R185, R186). `low` is the accepted feed level (none until one is accepted), `run` the samples since
its first sample, `quiet` the samples since it was accepted (R187), `other` the samples in a row of another level that are not yet
accepted, at level `otherLow`. -/
structure Trunk where
  rx : RxState
  low : Option Bool
  run : Nat
  quiet : Nat
  otherLow : Bool
  other : Nat
  frame : Bytes
  bits : Byte
  bitCount : Nat
  reply : Option Bytes
  sink : List Pulse
  deriving DecidableEq, Repr

/-- A frame that TI has taken (R188). -/
structure Frame where
  address : Byte
  kind : Byte
  data : Bytes
  deriving DecidableEq, Repr

/-- A reply of the trunk link (R190, R202). -/
inductive TrunkReply where
  | ack (tag : Word16) (state : UcState)
  | nak (tag : Word16) (reason : NakReason)
  | state (page : Bytes)
  deriving DecidableEq, Repr

/-! ### Configuration Loader (chapter 12) -/

/-- Loader state (R192). -/
inductive LoaderState where
  | loading | loaded | defaulted
  deriving DecidableEq, Repr

/-- How far the load is (R192). -/
inductive LoadPhase where
  /-- RESET is asserted: the load has not begun. -/
  | held
  /-- The read is under way. -/
  | reading
  /-- The read has ended and the clearing of Plane Memory has not. -/
  | clearing
  /-- The load has ended. -/
  | ended
  deriving DecidableEq, Repr

/-- The settings (R193). Times are in milliseconds, the bit time in microseconds. -/
structure Settings where
  address : Byte
  bitTimeUs : Nat
  debounce : Nat
  enabled : Vector Bool 4
  orientation : Vector Orientation 4
  priority : Vector (Fin 4) 4
  ageLimit : Nat
  lineZone : Fin 8
  waitMs : Option Nat
  pulseMs : Nat
  windowMs : Nat
  pulseLimit : Nat
  cycleMs : Nat
  deriving DecidableEq, Repr

/-- The Configuration Loader (R192). `taken` is what the read fixed, in force from the end of the load. -/
structure Loader where
  state : LoaderState
  phase : LoadPhase
  limit : Timer
  clearing : Bool
  taken : Settings
  deriving DecidableEq, Repr

end Sys2Proof.Machine
end

