-- ==== Sys2Proof/Machine/Codes.lean ====
section
/-! DEFINITION. The member codes of the enumerations (R198), as they are sent and as they are read. -/

namespace Sys2Proof.Machine

/-- Reply codes (R198). -/
def ReplyCode.code : ReplyCode → Byte
  | .ok => 0 | .busy => 1 | .state => 2 | .range => 3 | .notLive => 4
  | .withdrawn => 5 | .evac => 6 | .format => 7 | .notReady => 8

/-- Port states, status byte bits 2 to 0 (R198). -/
def PortState.code : PortState → Byte
  | .ready => 0 | .working => 1 | .replyWaiting => 2 | .notReady => 3 | .absent => 4

/-- Entry states (R198). -/
def EntryState.code : EntryState → Byte
  | .free => 0 | .live => 1 | .hidden => 2

/-- Queue states (R198). -/
def QueueState.code : QueueState → Byte
  | .idle => 0 | .pending => 1 | .running => 2 | .waiting => 3 | .halted => 4

/-- Halt reasons, none coded 00h (R198). -/
def haltCode : Option HaltReason → Byte
  | none => 0 | some .fault => 1 | some .evac => 2 | some .withdrawn => 3 | some .purged => 4

/-- Supervisor states (R198). -/
def SupState.code : SupState → Byte
  | .off => 0 | .watch => 1 | .pulse => 2 | .recovery => 3 | .disabled => 4

/-- Evacuation states (R198). -/
def EvacState.code : EvacState → Byte
  | .normal => 0 | .takeover => 1 | .showing => 2 | .releasing => 3

/-- Card slot states, EMPTY coded 00h (R198). -/
def cardStateCode : Option Card → Byte
  | none => 0
  | some c =>
    match c.state with
    | .drawing => 1 | .current => 2 | .stale => 3 | .gone => 4 | .broken => 5

/-- Route slot states, NONE coded 00h (R198). -/
def routeStateCode : Option RouteRecord → Byte
  | none => 0
  | some r =>
    match r.state with
    | .drawing => 1 | .drawn => 2 | .stale => 3 | .gone => 4 | .disturbed => 5

/-- Fault reasons (R198). -/
def FaultReason.code : FaultReason → Byte
  | .badKind => 0 | .range => 1 | .notLive => 2 | .noTemplate => 3 | .depth => 4
  | .context => 5 | .nestedCard => 6 | .runaway => 7 | .imageRange => 8 | .cut => 9

/-- UC states (R198). -/
def UcState.code : UcState → Byte
  | .idle => 0 | .staging => 1 | .committing => 2 | .deferred => 3

/-- Outcomes (R198). -/
def TxnOutcome.code : TxnOutcome → Byte
  | .none => 0 | .committed => 1 | .refused _ => 2 | .abandoned => 3 | .displaced => 4 | .purged => 5

/-- Refusal reasons of an outcome, none coded 00h (R198). -/
def TxnOutcome.reasonCode : TxnOutcome → Byte
  | .refused .format => 1 | .refused .check => 2 | .refused .space => 3 | .refused .state => 4
  | .none | .committed | .abandoned | .displaced | .purged => 0

/-- NAK reasons (R198). -/
def NakReason.code : NakReason → Byte
  | .busy => 0 | .state => 1 | .range => 2 | .format => 3 | .check => 4 | .space => 5

/-- Target kinds (R198). -/
def TargetKind.ofCode (b : Byte) : Option TargetKind :=
  match b.toNat with
  | 0 => some .entry | 1 => some .template | 2 => some .glyphPage | 3 => some .language | 4 => some .evacPlan
  | _ => none

/-- Operations (R198). -/
def Op.ofCode (b : Byte) : Option Op :=
  match b.toNat with
  | 0 => some .put | 1 => some .patch | 2 => some .hide | 3 => some .show | 4 => some .remove
  | 5 => some .load | 6 => some .clear
  | _ => none

/-- Layers (R198). -/
def Layer.ofCode (b : Byte) : Option Layer :=
  match b.toNat with
  | 0 => some .map | 1 => some .card | _ => none

/-- Combines (R198). -/
def Combine.ofCode (b : Byte) : Option Combine :=
  match b.toNat with
  | 0 => some .replace | 1 => some .and | 2 => some .or | 3 => some .xor | _ => none

/-- Keyed (R198). -/
def keyedOfCode (b : Byte) : Option Bool :=
  match b.toNat with
  | 0 => some false | 1 => some true | _ => none

/-- Text fields (R198). -/
def TextSource.ofCode (b : Byte) : Option TextSource :=
  match b.toNat with
  | 0 => some .name | 1 => some .unit | _ => none

/-- Selectors (R198). -/
def Selector.ofCode (b : Byte) : Option Selector :=
  match b.toNat with
  | 0 => some .openMark | 1 => some .category | 2 => some .level | 3 => some .hasName | _ => none

/-- Open marks, absent coded 00h (R196, R198). -/
def OpenMark.ofCode (n : Nat) : OpenMark :=
  match n with
  | 1 => .opened | 2 => .closed | _ => .absent

/-- Segment kinds (R200); any other code names none. -/
def Kind.ofCode (b : Byte) : Option Kind :=
  match b.toNat with
  | 1 => some .fill | 2 => some .frame | 3 => some .image | 4 => some .call | 5 => some .card
  | 6 => some .route | 7 => some .clearRoute | 8 => some .clearSlot | 9 => some .waitFrame
  | 10 => some .textField | 11 => some .select | 12 => some .goto | 13 => some .endLevel
  | _ => none

/-- Trunk frame kinds of the head-end (R202). A frame with a reply's kind code, 81h to 83h, names none of them (log 37). -/
def trunkKinds : List Byte := [0x01, 0x02, 0x03, 0x04, 0x05, 0x06, 0x07, 0x08, 0x09]

end Sys2Proof.Machine
end

