-- ==== Sys2Proof/Machine/Defaults.lean ====
section
/-! DEFINITION. The full-reset values of the parts of the state, and the default palette and settings. -/

namespace Sys2Proof.Machine

/-- The default palette (R142). -/
def defaultPalette : Vector Rgb 16 :=
  #v[0xE6DFCF#24, 0xCFD1D3#24, 0x8E9296#24, 0x1F3C73#24,
     0xFFFFFF#24, 0xFFFFFF#24, 0xFFFFFF#24, 0xFFFFFF#24,
     0x2E3135#24, 0x2E3135#24, 0x2E3135#24, 0x2E3135#24,
     0xF2661C#24, 0xF2661C#24, 0xF2661C#24, 0xF2661C#24]

/-- The default settings (R193), which are also in force until the end of the load: as R65, R105 and R171 say of the enabled faces,
the orientations, the priorities, the age limit, the line zone and the cycle period, and as the model chooses of the trunk
address, the bit time, the debounce count, the wait time, the pulse time, the recovery window and the pulse limit (log 34). -/
def Settings.default : Settings where
  address := 63
  bitTimeUs := 200
  debounce := 4
  enabled := Vector.replicate 4 true
  orientation := Vector.replicate 4 .deg0
  priority := Vector.replicate 4 2
  ageLimit := 4
  lineZone := 0
  waitMs := some 8000
  pulseMs := 100
  windowMs := 10000
  pulseLimit := 3
  cycleMs := 4000

/-- A FREE entry at generation 0 (R9). -/
def Entry.free : Entry := ⟨.free, 0, [], none⟩

/-- An EMPTY template with use count 0 (R95). -/
def Template.empty : Template := ⟨none, 0⟩

/-- The language image LTR with no ellipsis (R201). -/
def languageBlank : Mem := [(2, 0xFF), (3, 0xFF)]

/-- The language slots after a full reset and after a purge: slot 0 DEFINED, LTR, no ellipsis, the others UNDEFINED (R21). -/
def languagesReset : Vector (Option Mem) 4 := #v[some languageBlank, none, none, none]

/-- The empty chain (R22). -/
def Chain.empty : Chain := ⟨[], 0⟩

/-- The Update Controller after a full reset (R22). -/
def Update.reset : Update := ⟨.idle, none, none, Chain.empty, false, 0, .none, 0, true⟩

/-- The map window after a full reset and after RESET_FACE (R67). -/
def MapWindow.reset : MapWindow := ⟨540, 960, 2048, 2048, 0, 4⟩

/-- The queue record after a full reset and after RESET_FACE (R83). -/
def Queue.reset : Queue := ⟨[], .idle, none, none, false, [], none⟩

/-- The palette state after a full reset (R138). -/
def PaletteState.reset : PaletteState :=
  ⟨defaultPalette, Vector.replicate 16 none, defaultPalette, .face, defaultPalette⟩

/-- A face context after a full reset (chapter 4, context values). -/
def FaceContext.reset : FaceContext where
  language := 0
  window := MapWindow.reset
  image := []
  port := ⟨none, none, []⟩
  palette := PaletteState.reset
  queue := Queue.reset
  snapshot := none
  cards := Vector.replicate 12 none
  route := none
  latch := 0
  mask := 0
  supervisor := ⟨.off, .stopped, 0⟩
  waitCount := 0
  scan := .blank

/-- The Evacuation Controller after a full reset (R171), with the EVAC pin at a level. -/
def Evac.reset (lineLow : Bool) : Evac where
  state := .normal
  asserted := false
  lineLow := lineLow
  debounce := .stopped
  trunkZone := none
  drawnZone := none
  language := none
  redraw := false
  drawing := none
  cutoff := .stopped
  cycle := .stopped
  plans := Vector.replicate 8 none

/-- The Trunk Interface after a full reset (R185). -/
def Trunk.reset : Trunk := ⟨.off, none, 0, 0, false, 0, [], 0, 0, none, []⟩

/-- The Configuration Loader after a full reset (R192): LOADING, the load not begun, Plane Memory being cleared. -/
def Loader.reset : Loader := ⟨.loading, .held, .stopped, true, Settings.default⟩

end Sys2Proof.Machine
end

