-- ==== Sys2Proof/Machine/Operands.lean ====
section
/-! DEFINITION. Every operand form: request parameters, segment cells (R84, R200), entry, language and plan images (R201),
waypoints (R202) and the configuration memory (R203). -/

namespace Sys2Proof.Machine

/-! ### Bytes of a request, a frame or a cell -/

/-- Byte `i` of a list, as a number. -/
def num (bs : Bytes) (i : Nat) : Nat := (bs.getD i 0).toNat

/-- The two-byte field at byte `i`, most significant byte first (R196). -/
def num16 (bs : Bytes) (i : Nat) : Nat := num bs i * 256 + num bs (i + 1)

/-- A number as one of the first `n`, if it is below `n`. -/
def finOf (n k : Nat) : Option (Fin n) := if h : k < n then some ⟨k, h⟩ else none

/-- A number if it lies from `lo` to `hi`. -/
def within (lo hi k : Nat) : Option Nat := if lo ≤ k ∧ k ≤ hi then some k else none

/-- A layer colour if the number is 0 to 3. -/
def colourOf (k : Nat) : Option Colour := if k ≤ 3 then some (BitVec.ofNat 2 k) else none

/-! ### Segment cells -/

/-- Cell `i` of a ring or of a template, 16 bytes at 16 i (R200). -/
def cellOf (m : Mem) (i : Fin 16) : Bytes := m.readBytes (16 * i.val) 16

/-- The kind a cell's byte 0 names, if any (R200). -/
def cellKind (c : Bytes) : Option Kind := Kind.ofCode (c.getD 0 0)

/-- The notify flag, bit 7 of byte 1 (R200). -/
def cellNotify (c : Bytes) : Bool := (c.getD 1 0).getLsbD 7

/-- The rectangle of bytes 6 to 13, if each field is in range (R84). -/
def cellRect (c : Bytes) : Option Rect :=
  match within 0 1079 (num16 c 6), within 0 1919 (num16 c 8), within 1 1080 (num16 c 10), within 1 1920 (num16 c 12) with
  | some x, some y, some w, some h => some ⟨x, y, w, h⟩
  | _, _, _, _ => none

/-- The fields of a cell of a kind; none if a field is out of its range or an enumerated field names no member (R84, R103
check 4, R196). -/
def parseSeg (k : Kind) (c : Bytes) : Option Seg :=
  match k with
  | .fill =>
    match Layer.ofCode (c.getD 2 0), Combine.ofCode (c.getD 3 0), colourOf (num c 4), cellRect c with
    | some l, some m, some col, some r => some (.fill l m col r)
    | _, _, _, _ => none
  | .frame =>
    match Layer.ofCode (c.getD 2 0), Combine.ofCode (c.getD 3 0), colourOf (num c 4), within 1 8 (num c 5), cellRect c with
    | some l, some m, some col, some t, some r => some (.frame l m col t r)
    | _, _, _, _, _ => none
  | .image =>
    match Layer.ofCode (c.getD 2 0), Combine.ofCode (c.getD 3 0), keyedOfCode (c.getD 5 0), cellRect c,
        within 0 4095 (num16 c 14) with
    | some l, some m, some k, some r, some o => some (.image l m k r o)
    | _, _, _, _, _ => none
  | .call =>
    match within 0 63 (num c 5), within 0 1079 (num16 c 6), within 0 1919 (num16 c 8) with
    | some t, some x, some y => some (.call t x y)
    | _, _, _ => none
  | .card =>
    match within 0 1023 (num16 c 2), finOf 12 (num c 4), within 0 63 (num c 5), cellRect c with
    | some e, some sl, some t, some r => some (.card e sl t r)
    | _, _, _, _ => none
  | .route =>
    match within 0 1023 (num16 c 2), within 1 3 (num c 4), within 1 8 (num c 5) with
    | some e, some col, some w => some (.route e (BitVec.ofNat 2 col) w)
    | _, _, _ => none
  | .clearRoute => some .clearRoute
  | .clearSlot =>
    match finOf 12 (num c 4), colourOf (num c 5) with
    | some sl, some col => some (.clearSlot sl col)
    | _, _ => none
  | .waitFrame => some .waitFrame
  | .textField =>
    match TextSource.ofCode (c.getD 2 0), Combine.ofCode (c.getD 3 0), colourOf (num c 4), within 1 2 (num c 5),
        within 0 1079 (num16 c 6), within 0 1919 (num16 c 8), within 1 1080 (num16 c 10) with
    | some f, some m, some col, some sc, some x, some y, some w => some (.textField f m col sc x y w)
    | _, _, _, _, _, _, _ => none
  | .select =>
    match Selector.ofCode (c.getD 2 0), within 1 8 (num c 4) with
    | some sel, some n => some (.select sel n)
    | _, _ => none
  | .goto =>
    match finOf 16 (num c 4) with
    | some g => some (.goto g)
    | none => none
  | .endLevel => some .endLevel

/-! ### Waypoints -/

/-- Map x of a waypoint (R202). -/
def Waypoint.x (w : Waypoint) : Nat := (w.extractLsb' 20 12).toNat
/-- Map y of a waypoint (R202). -/
def Waypoint.y (w : Waypoint) : Nat := (w.extractLsb' 8 12).toNat
/-- Map level of a waypoint (R202). -/
def Waypoint.level (w : Waypoint) : Nat := (w.extractLsb' 0 3).toNat
/-- The 4-byte trunk form of a waypoint (R196, R202). -/
def Waypoint.bytes (w : Waypoint) : Bytes :=
  [w.extractLsb' 24 8, w.extractLsb' 16 8, w.extractLsb' 8 8, w.extractLsb' 0 8]

/-- The waypoint in the four bytes from byte `i`. -/
def waypointAt (bs : Bytes) (i : Nat) : Waypoint :=
  bs.getD i 0 ++ bs.getD (i + 1) 0 ++ bs.getD (i + 2) 0 ++ bs.getD (i + 3) 0

/-! ### Entry images -/

/-- The blank entry image with which PUT begins (R201). -/
def entryBlank : Mem :=
  [(13, 0xFF), (14, 0xFF), (16, 0xFF), (17, 0xFF), (18, 0xFF), (19, 0xFF), (20, 0x01)]

/-- The unit code (R201, offsets 0 to 12). -/
def imgUnit (m : Mem) : List Nat := m.codes 1 (m.num 0)
/-- The level (R201, offset 13). -/
def imgLevel (m : Mem) : Nat := m.num 13
/-- The category (R201, offset 14). -/
def imgCategory (m : Mem) : Nat := m.num 14
/-- The open mark (R201, offset 15). -/
def imgOpenMark (m : Mem) : OpenMark := OpenMark.ofCode (m.num 15)
/-- The anchor's x (R201, offsets 16 and 17). -/
def imgAnchorX (m : Mem) : Nat := m.num16 16
/-- The anchor's y (R201, offsets 18 and 19). -/
def imgAnchorY (m : Mem) : Nat := m.num16 18

/-- The route action of an entry image (R14, R198). -/
inductive RouteAction where
  | keep | none | new
  deriving DecidableEq, Repr

/-- The route action (R201, offset 20), if the byte names one. -/
def imgRouteAction (m : Mem) : Option RouteAction :=
  match m.num 20 with
  | 0 => some .keep | 1 => some .none | 2 => some .new | _ => Option.none

/-- The offset of name `l` (R201). -/
def nameOffset (l : Fin 4) : Nat := 21 + 49 * l.val

/-- The name for language slot `l`, absent when its length byte is 0 (R196, R201). -/
def imgName (m : Mem) (l : Fin 4) : Option (List Nat) :=
  if m.num (nameOffset l) = 0 then none else some (m.codes (nameOffset l + 1) (m.num (nameOffset l)))

/-- The key of an entry image in list `l`: its own name, or else its name for slot 0 (R49, R58, R120). -/
def imgKey (m : Mem) (l : Fin 4) : List Nat :=
  match imgName m l with
  | some n => n
  | none => (imgName m 0).getD []

/-- A name field that may be held: absent, or 1 to 24 codes below 4096 (R3, R4). -/
def nameOk (m : Mem) (l : Fin 4) : Bool :=
  decide (m.num (nameOffset l) ≤ 24) && (m.codes (nameOffset l + 1) (m.num (nameOffset l))).all (fun c => decide (c < 4096))

/-- The content of an entry image is one that DT may hold (R3, R4, R33, R196). -/
def entryImageOk (m : Mem) : Bool :=
  decide (1 ≤ m.num 0 ∧ m.num 0 ≤ 6) && (imgUnit m).all (fun c => decide (c < 64)) &&
  decide (m.num 13 ≤ 7) && decide (m.num 14 ≤ 63) && decide (m.num 15 ≤ 2) &&
  decide (m.num16 16 ≤ 4095) && decide (m.num16 18 ≤ 4095) &&
  decide (1 ≤ m.num (nameOffset 0)) && nameOk m 0 && nameOk m 1 && nameOk m 2 && nameOk m 3

/-- The route action agrees with the operation and with the number of staged waypoints (R14, R33). -/
def routeActionOk (op : Op) (m : Mem) (count : Nat) : Bool :=
  match imgRouteAction m with
  | some .keep => decide (op ≠ .put) && decide (count = 0)
  | some .none => decide (count = 0)
  | some .new => decide (2 ≤ count ∧ count ≤ 64)
  | Option.none => false

/-! ### Language and plan images -/

/-- The direction of a language image is RTL (R198, R201). -/
def langRtl (m : Mem) : Bool := decide (m.num 0 = 1)
/-- The ellipsis code of a language image, absent as FFFFh (R196, R201). -/
def langEllipsis (m : Mem) : Option Nat := if m.num16 2 = 0xFFFF then none else some (m.num16 2)
/-- A language image that a slot may hold (R33). -/
def languageImageOk (m : Mem) : Bool := decide (m.num 0 ≤ 1) && (decide (m.num16 2 < 4096) || decide (m.num16 2 = 0xFFFF))

/-- The blank plan image (R24, R175): the exit entry absent, every message absent, zero elsewhere. -/
def planBlank : Mem := [(0, 0xFF), (1, 0xFF)]
/-- The exit entry of a plan, absent as FFFFh (R201). -/
def planExit (m : Mem) : Option Nat := if m.num16 0 = 0xFFFF then none else some (m.num16 0)
/-- The map window of a plan (R201). -/
def planWindow (m : Mem) : MapWindow := ⟨m.num16 2, m.num16 4, m.num16 6, m.num16 8, m.num 10, m.num 11⟩
/-- Entry `i` of the palette of a plan: red, green, blue at 12 + 3 i (R201). -/
def planColour (m : Mem) (i : Nat) : Rgb := m.read (12 + 3 * i) ++ m.read (13 + 3 * i) ++ m.read (14 + 3 * i)
/-- The evacuation palette of a plan (R175). -/
def planPalette (m : Mem) : Vector Rgb 16 := Vector.ofFn (fun i : Fin 16 => planColour m i.val)
/-- The offset of message `l` (R201). -/
def messageOffset (l : Fin 4) : Nat := 60 + 61 * l.val
/-- The message of a plan for language slot `l`, absent when its length byte is 0 (R201). -/
def planMessage (m : Mem) (l : Fin 4) : Option (List Nat) :=
  if m.num (messageOffset l) = 0 then none else some (m.codes (messageOffset l + 1) (m.num (messageOffset l)))

/-- A map window whose fields are all in range (R67, R79, R175). -/
def MapWindow.inRange (w : MapWindow) : Bool :=
  decide (w.cx ≤ 1079) && decide (w.cy ≤ 1919) && decide (w.mx ≤ 4095) && decide (w.my ≤ 4095) &&
  decide (w.level ≤ 7) && decide (1 ≤ w.scale ∧ w.scale ≤ 16)

/-- A message field that may be held: absent, or 1 to 30 codes below 4096 (R175). -/
def messageOk (m : Mem) (l : Fin 4) : Bool :=
  decide (m.num (messageOffset l) ≤ 30) &&
  (m.codes (messageOffset l + 1) (m.num (messageOffset l))).all (fun c => decide (c < 4096))

/-- A plan image that a plan may hold (R33, R175). -/
def planImageOk (m : Mem) : Bool :=
  (decide (m.num16 0 ≤ 1023) || decide (m.num16 0 = 0xFFFF)) && (planWindow m).inRange &&
  messageOk m 0 && messageOk m 1 && messageOk m 2 && messageOk m 3

/-! ### The configuration memory -/

/-- A two-bit field of a byte, for face `f`, face 0 in bits 1 and 0 (R203). -/
def faceBits (b : Byte) (f : Face) : Fin 4 := (b.extractLsb' (2 * f.val) 2).toFin

/-- An orientation code: 0, 90, 180, 270 degrees (R203). -/
def orientationOf (k : Fin 4) : Orientation :=
  match k with
  | 0 => .deg0 | 1 => .deg90 | 2 => .deg180 | 3 => .deg270

/-- A byte looked up in a list of values, or the default where it names none (R193, R203). -/
def choose (values : List Nat) (default : Nat) (b : Byte) : Nat := values.getD b.toNat default

/-- Bytes 0 and 1 hold the key 4843h (R192, R203). -/
def configKeyOk (cfg : Vector Byte 32) : Bool := decide (cfg[0] = 0x48) && decide (cfg[1] = 0x43)

/-- The settings of a LOADED load: each field from the memory, or its default where it is out of range (R193, R203). -/
def configSettings (cfg : Vector Byte 32) : Settings where
  address := if 1 ≤ cfg[2].toNat ∧ cfg[2].toNat ≤ 63 then cfg[2] else 63
  bitTimeUs := choose [100, 200, 400] 200 cfg[3]
  debounce := if cfg[4] = 1 ∨ cfg[4] = 2 ∨ cfg[4] = 4 ∨ cfg[4] = 8 then cfg[4].toNat else 4
  enabled := Vector.ofFn (fun f : Face => cfg[5].getLsbD f.val)
  orientation := Vector.ofFn (fun f : Face => orientationOf (faceBits cfg[6] f))
  priority := Vector.ofFn (fun f : Face => faceBits cfg[7] f)
  ageLimit := if 1 ≤ cfg[8].toNat ∧ cfg[8].toNat ≤ 15 then cfg[8].toNat else 4
  lineZone := if h : cfg[9].toNat < 8 then ⟨cfg[9].toNat, h⟩ else 0
  waitMs := if cfg[10] = 0xFF then none else if cfg[10].toNat ≤ 7 then some (250 * 2 ^ cfg[10].toNat) else some 8000
  pulseMs := choose [20, 50, 100, 200] 100 cfg[11]
  windowMs := choose [2000, 5000, 10000, 20000] 10000 cfg[12]
  pulseLimit := if 1 ≤ cfg[13].toNat ∧ cfg[13].toNat ≤ 7 then cfg[13].toNat else 3
  cycleMs := choose [2000, 4000, 6000, 8000] 4000 cfg[14]

end Sys2Proof.Machine
end

