-- ==== Sys2Proof/Machine/State.lean ====
section
/-! DEFINITION. The state of the part as plain data, its reset value, and the reasons a step could stop. -/

namespace Sys2Proof.Machine

/-- The state of the part: the queue of waiting commands, first in first out, and every block's state. -/
structure State where
  pending : List Instr
  loader : Loader
  settings : Settings
  directory : Sparse Entry
  routes : RouteStore
  glyphs : GlyphStore
  languages : Vector (Option Mem) 4
  templates : TemplateStore
  update : Update
  orders : Orders
  faces : Vector FaceContext 4
  arbiter : Arbiter
  engine : Engine
  planes : Vector Mem 4
  evac : Evac
  trunk : Trunk
  deriving DecidableEq, Repr

/-- The reasons the machine could stop with a fault. No rule of the spec stops the part, and no meaning raises one: a
drawing fault (R103) is an ordinary step. -/
inductive Fault where
  /-- Raised by nobody; the type needs a member. Safe: nothing stops here. -/
  | unused
  deriving DecidableEq, Repr

/-- The reasons a command could be refused. No meaning of this model refuses. -/
inductive Refusal where
  /-- Raised by `exec` alone, for a command that has no meaning yet; none is left. Safe: the machine stops. -/
  | notModelled (mnemonic : String)
  deriving DecidableEq, Repr

/-- The whole part at its full-reset values (R192 to R194), with a queue of commands and the level of the EVAC pin, which
a reset does not reach. The seven settings for which no rule gives a value before the end of the load hold their defaults
(log 34). -/
def State.fullReset (pending : List Instr) (lineLow : Bool) : State where
  pending := pending
  loader := Loader.reset
  settings := Settings.default
  directory := []
  routes := ⟨[], []⟩
  glyphs := ⟨[], none⟩
  languages := languagesReset
  templates := ⟨[], none, []⟩
  update := Update.reset
  orders := ⟨Vector.replicate 4 [], none⟩
  faces := Vector.replicate 4 FaceContext.reset
  arbiter := ⟨none, none, none⟩
  engine := ⟨none, [], false⟩
  planes := Vector.replicate 4 []
  evac := Evac.reset lineLow
  trunk := Trunk.reset

/-- The part right after a full reset: nothing queued, the EVAC pin high (log 8). -/
def State.reset : State := State.fullReset [] false

end Sys2Proof.Machine
end

