-- ==== Sys2Proof/Machine/Ops.lean ====
section
/-! DEFINITION. The named operations over the stores of the state: faces, entries, templates, glyph pages, planes and ports. -/

namespace Sys2Proof.Machine

/-- What a command answers. -/
abbrev Answer := Host.Outcome State Fault Refusal

/-! ### Faces -/

/-- The context of a face. -/
def State.face (s : State) (f : Face) : FaceContext := s.faces[f]

/-- A change to the context of one face (R64: the four contexts are independent). -/
def State.modFace (s : State) (f : Face) (g : FaceContext → FaceContext) : State :=
  { s with faces := s.faces.set f (g s.faces[f]) }

/-- A change to the context of every face. -/
def State.mapFaces (s : State) (g : Face → FaceContext → FaceContext) : State :=
  { s with faces := Vector.ofFn (fun f : Face => g f s.faces[f]) }

/-- The face is enabled (R65). -/
def State.enabled (s : State) (f : Face) : Bool := s.settings.enabled[f]

/-- The enabled faces, in ascending order. -/
def State.enabledFaces (s : State) : List Face := (List.finRange 4).filter s.enabled

/-- The configuration load has ended (R192). -/
def State.loadEnded (s : State) : Bool := decide (s.loader.phase = .ended)

/-- A face is withdrawn while its supervisor is in PULSE, RECOVERY or DISABLED (R162). -/
def SupState.withdrawn : SupState → Bool
  | .pulse | .recovery | .disabled => true
  | .off | .watch => false

/-- The face is withdrawn (R162). -/
def State.withdrawn (s : State) (f : Face) : Bool := (s.face f).supervisor.state.withdrawn

/-- The face holds the draw engine (R105). -/
def State.faceHolds (s : State) (f : Face) : Bool := decide (s.arbiter.holder = some (.face f))

/-- The purge holds the draw engine (R44). -/
def State.purgeHolds (s : State) : Bool := decide (s.arbiter.holder = some .purge)

/-! ### Content stores -/

/-- Directory entry `n` (R1). -/
def State.entry (s : State) (n : Nat) : Entry := Sparse.read Entry.free s.directory n

/-- The state with directory entry `n` replaced (R7). -/
def State.setEntry (s : State) (n : Nat) (e : Entry) : State :=
  { s with directory := Sparse.write Entry.free s.directory n e }

/-- Template `t` (R95). -/
def State.template (s : State) (t : Nat) : Template := Sparse.read Template.empty s.templates.table t

/-- The state with template `t` replaced. -/
def State.setTemplate (s : State) (t : Nat) (v : Template) : State :=
  { s with templates := { s.templates with table := Sparse.write Template.empty s.templates.table t v } }

/-- The content of glyph page `p`, none while BLANK (R17). -/
def State.glyphPage (s : State) (p : Nat) : Option Mem := Sparse.read none s.glyphs.pages p

/-- The state with glyph page `p` replaced. -/
def State.setGlyphPage (s : State) (p : Nat) (v : Option Mem) : State :=
  { s with glyphs := { s.glyphs with pages := Sparse.write none s.glyphs.pages p v } }

/-- The direction (RTL or not) and the ellipsis of a language slot; UNDEFINED reads as LTR with none (R20). -/
def State.languageLayout (s : State) (l : Fin 4) : Bool × Option Nat :=
  match s.languages[l] with
  | some m => (langRtl m, langEllipsis m)
  | none => (false, none)

/-- The waypoints of a chain in travel order (R11): waypoint k in the block at place k / 8, cell k modulo 8. -/
def RouteStore.waypoints (r : RouteStore) (chain : Chain) : List Waypoint :=
  (List.range chain.count).map (fun k =>
    Sparse.read 0 r.cells (Config.blockCells * chain.blocks.getD (k / Config.blockCells) 0 + k % Config.blockCells))

/-- The waypoints of an entry's route, none for an absent route (R15). -/
def State.routeOf (s : State) (e : Entry) : List Waypoint :=
  match e.route with
  | some chain => s.routes.waypoints chain
  | none => []

/-- The free route blocks, in ascending order (R12). -/
def RouteStore.free (r : RouteStore) : List Nat :=
  (List.range Config.blockCount).filter (fun b => !r.allocated.contains b)

/-- The free count (R12). -/
def RouteStore.freeCount (r : RouteStore) : Nat := Config.blockCount - r.allocated.length

/-- A chain's blocks return to the free set (R14). -/
def RouteStore.release (r : RouteStore) (chain : Chain) : RouteStore :=
  { r with allocated := r.allocated.filter (fun b => !chain.blocks.contains b) }

/-! ### Ports -/

/-- Number of result bytes of a reply to a request code (R199); a code outside the table has none (log 17). -/
def resultLength (code : Byte) : Nat :=
  match code.toNat with
  | 0x01 => 6 | 0x03 => 2 | 0x10 => 75 | 0x11 => 45 | 0x12 => 7 | 0x24 => 6 | 0x40 => 151 | 0x41 => 5
  | _ => 0

/-- Results in the fixed length of their request's row, 00h past their end (R197). -/
def padResults (code : Byte) (results : Bytes) : Bytes :=
  results ++ List.replicate (resultLength code - results.length) 0

/-- The bytes of a reply: reply code, request code, results (R73, R199). -/
def Reply.bytes (r : Reply) : Bytes := r.code.code :: r.request :: r.results

end Sys2Proof.Machine
end

