-- ==== Sys2Proof/Machine/Flags.lean ====
section
/-! DEFINITION. The flag computations: event bits and the raising of events (R158), the ATTN and FRST lines (R159, R162),
LOADSINK (R190), the pixel output and the configuration port (R136, R137, R143, R192), and the port status byte (R70). -/

namespace Sys2Proof.Machine

/-- The row of an event in the table of R158. -/
def Event.index : Event → Nat
  | .replyReady => 0 | .segmentDone => 1 | .queueIdle => 2 | .segmentFault => 3 | .slotChanged => 4 | .routeChanged => 5
  | .directoryChanged => 6 | .glyphsChanged => 7 | .templateChanged => 8 | .evacOn => 9 | .evacOff => 10 | .recovered => 11

/-- The set that holds one event, bit n for row n (R198). -/
def Event.bit (e : Event) : EventSet := 1#12 <<< e.index

/-- An event latched in a context (R158). -/
def FaceContext.latching (c : FaceContext) (e : Event) : FaceContext := { c with latch := c.latch ||| e.bit }

/-- An event raised on a face; nothing is raised on a face that is not enabled (R158). -/
def State.raise (s : State) (f : Face) (e : Event) : State :=
  if s.enabled f then s.modFace f (fun c => c.latching e) else s

/-- An event raised on every enabled face (R158). -/
def State.raiseAll (s : State) (e : Event) : State :=
  s.mapFaces (fun f c => if s.enabled f then c.latching e else c)

/-- An event raised on a face if a condition holds. -/
def State.raiseIf (s : State) (b : Bool) (f : Face) (e : Event) : State := if b then s.raise f e else s

/-- ATTN of a face is asserted: after the load, on an enabled face, while the latch holds an unmasked event (R159). -/
def State.attn (s : State) (f : Face) : Bool :=
  s.loadEnded && s.enabled f && decide ((s.face f).latch &&& ~~~(s.face f).mask ≠ 0)

/-- FRST of a face is asserted in PULSE alone (R162). -/
def State.frst (s : State) (f : Face) : Bool := decide ((s.face f).supervisor.state = .pulse)

/-- LOADSINK is on: the first part of the pulse being sent (R190). -/
def State.loadSink (s : State) : Bool :=
  match s.trunk.sink with
  | p :: _ => decide (0 < p.on)
  | [] => false

/-- PXf_VS is asserted: in the sync interval of a frame start, never while blank (R136, R143; its length: log 6). -/
def Scan.vs : Scan → Bool
  | .sync => true
  | .blank | .pixel _ _ _ | .rowGap _ | .frameGap => false

/-- PXf_DE is asserted: while a pixel of a row is driven, never while blank (R137, R143). -/
def Scan.de : Scan → Bool
  | .pixel _ _ _ => true
  | .blank | .sync | .rowGap _ | .frameGap => false

/-- The colour on PXf_D: the pixel's while one is driven (R137), 000000h while blank (R143), none where no rule gives it (log 6). -/
def Scan.data : Scan → Option Rgb
  | .pixel _ _ colour => some colour
  | .blank => some 0
  | .sync | .rowGap _ | .frameGap => none

/-- PXf_VS of a face (R136, R143). -/
def State.pxVs (s : State) (f : Face) : Bool := (s.face f).scan.vs

/-- PXf_DE of a face (R137, R143). -/
def State.pxDe (s : State) (f : Face) : Bool := (s.face f).scan.de

/-- PXf_D of a face (R137, R143). -/
def State.pxData (s : State) (f : Face) : Option Rgb := (s.face f).scan.data

/-- CFG_CLK is high: held so after the load (R192); none before, where the read's clock is not modelled (log 25). -/
def State.cfgClkHigh (s : State) : Option Bool := if s.loadEnded then some true else none

/-- CFG_DAT is released: so after the load (R192); none before, where the read's bits are not modelled (log 25). -/
def State.cfgDatReleased (s : State) : Option Bool := if s.loadEnded then some true else none

/-- The port state of a face (R70): the first row that holds. -/
def State.portState (s : State) (f : Face) : PortState :=
  if !s.loadEnded then .notReady
  else if !s.enabled f then .absent
  else if (s.face f).port.inProgress.isSome then .working
  else if (s.face f).port.reply.isSome then .replyWaiting
  else .ready

/-- The WITHDRAWN flag of a face's status byte (R70). -/
def State.withdrawnFlag (s : State) (f : Face) : Bool := s.loadEnded && s.enabled f && s.withdrawn f

/-- The port status byte (R70, R198): the port state in bits 2 to 0, WITHDRAWN in bit 7; the unused bits 6 to 3 are 0 (log 40). -/
def State.statusByte (s : State) (f : Face) : Byte :=
  (s.portState f).code ||| (if s.withdrawnFlag f then 0x80 else 0x00)

/-- A reply in the reply slot, with REPLY_READY raised (R71, R72, R74). The request in progress is left as it is. -/
def State.fillReply (s : State) (f : Face) (code : ReplyCode) (request : Byte) (results : Bytes) : State :=
  (s.modFace f (fun c => { c with port := { c.port with reply := some ⟨code, request, padResults request results⟩ } })).raise
    f .replyReady

/-- The answer to the request in progress: the request ends and its reply fills the slot (R71). -/
def State.answer (s : State) (f : Face) (code : ReplyCode) (request : Byte) (results : Bytes) : State :=
  (s.modFace f (fun c => { c with port := { c.port with inProgress := none } })).fillReply f code request results

/-- A request kept as the request in progress by its owner (R71). -/
def State.hold (s : State) (f : Face) (h : HeldRequest) : State :=
  s.modFace f (fun c => { c with port := { c.port with inProgress := some h } })

end Sys2Proof.Machine
end

