-- ==== Sys2Proof/Machine/Draw.lean ====
section
/-! DEFINITION. The pixel path of the Draw Engine (R113 to R123, R127 to R129, R133, R134): plane access, shapes, text layout,
route sets and the writing of pixel groups. -/

namespace Sys2Proof.Machine

/-! ### Plane Memory -/

/-- The byte of a plane that holds pixel (x, y) of a face (R133). -/
def pixelByte (f : Face) (x y : Nat) : Nat := Config.faceRegion * f.val + (y * Config.faceWidth + x) / 8

/-- The bit of that byte, bit 7 the leftmost of its eight pixels (R133). -/
def pixelBit (x y : Nat) : Nat := 7 - (y * Config.faceWidth + x) % 8

/-- The low and the high plane of a layer (R134). -/
def Layer.planes : Layer → Fin 4 × Fin 4
  | .map => (0, 1)
  | .card => (2, 3)

/-- A bit of plane memory as a bit of a colour. -/
def planeBit (planes : Vector Mem 4) (p : Fin 4) (f : Face) (x y : Nat) : BitVec 1 :=
  BitVec.ofBool (Mem.bit planes[p] (pixelByte f x y) (pixelBit x y))

/-- The colour of a pixel on a layer: the low plane's bit plus 2 times the high plane's (R134). -/
def layerColour (planes : Vector Mem 4) (l : Layer) (f : Face) (x y : Nat) : Colour :=
  planeBit planes l.planes.2 f x y ++ planeBit planes l.planes.1 f x y

/-- The pixel value: map colour plus 4 times card colour (R134). -/
def pixelValue (planes : Vector Mem 4) (f : Face) (x y : Nat) : BitVec 4 :=
  layerColour planes .card f x y ++ layerColour planes .map f x y

/-- One bit of one plane set. -/
def putPlaneBit (planes : Vector Mem 4) (p : Fin 4) (f : Face) (x y : Nat) (v : Bool) : Vector Mem 4 :=
  planes.set p (Mem.writeBit planes[p] (pixelByte f x y) (pixelBit x y) v)

/-- The colour of a pixel written into the two planes of a layer (R115 stage 4). -/
def putColour (planes : Vector Mem 4) (l : Layer) (f : Face) (x y : Nat) (v : Colour) : Vector Mem 4 :=
  putPlaneBit (putPlaneBit planes l.planes.1 f x y (v.getLsbD 0)) l.planes.2 f x y (v.getLsbD 1)

/-- The combine of a source with a destination, bit by bit (R115 stage 2). -/
def Combine.apply : Combine → Colour → Colour → Colour
  | .replace, src, _ => src
  | .and, src, dst => src &&& dst
  | .or, src, dst => src ||| dst
  | .xor, src, dst => src ^^^ dst

/-! ### Route sets -/

/-- A map point turned clockwise on the glass (R127). -/
def Orientation.turn : Orientation → Int × Int → Int × Int
  | .deg0, (dx, dy) => (dx, dy)
  | .deg90, (dx, dy) => (-dy, dx)
  | .deg180, (dx, dy) => (-dx, -dy)
  | .deg270, (dx, dy) => (dy, -dx)

/-- A waypoint placed through a map window and an orientation, each division rounded down (R127). -/
def placeWaypoint (win : MapWindow) (o : Orientation) (w : Waypoint) : Placed :=
  let r := o.turn ((Waypoint.x w : Int) - win.mx, (Waypoint.y w : Int) - win.my)
  ⟨decide (Waypoint.level w = win.level), win.cx + Int.fdiv r.1 win.scale, win.cy + Int.fdiv r.2 win.scale⟩

/-- k times d over n, rounded to the nearest whole number with a half upward (R128); 0 for n = 0. -/
def roundStep (k : Nat) (d : Int) (n : Nat) : Int := if n = 0 then 0 else Int.fdiv (2 * k * d + n) (2 * n)

/-- The number of steps of a line: the larger difference of its ends, without sign (R128). -/
def lineSteps (p q : Placed) : Nat := max (q.x - p.x).natAbs (q.y - p.y).natAbs

/-- The centre pixel of step k of a line (R128). -/
def lineCentre (p q : Placed) (k : Nat) : Int × Int :=
  (p.x + roundStep k (q.x - p.x) (lineSteps p q), p.y + roundStep k (q.y - p.y) (lineSteps p q))

/-- The brush square of width w about a centre holds a pixel (R128). -/
def brushCovers (w : Nat) (centre : Int × Int) (x y : Nat) : Bool :=
  decide (centre.1 - ((w - 1) / 2 : Nat) ≤ x ∧ (x : Int) ≤ centre.1 + (w / 2 : Nat) ∧
          centre.2 - ((w - 1) / 2 : Nat) ≤ y ∧ (y : Int) ≤ centre.2 + (w / 2 : Nat))

/-- The 16 by 16 level-change marker at a point holds a pixel (R128). -/
def markerCovers (p : Placed) (x y : Nat) : Bool :=
  decide (p.x - 8 ≤ x ∧ (x : Int) ≤ p.x + 7 ∧ p.y - 8 ≤ y ∧ (y : Int) ≤ p.y + 7)

/-- What a consecutive pair of waypoints adds to the route set holds a pixel: a line, a marker, or nothing (R128). -/
def pairCovers (w : Nat) (p q : Placed) (x y : Nat) : Bool :=
  match p.onLevel, q.onLevel with
  | true, true => (List.range (lineSteps p q + 1)).any (fun k => brushCovers w (lineCentre p q k) x y)
  | true, false => markerCovers p x y
  | false, true => markerCovers q x y
  | false, false => false

/-- The route set of placed waypoints at a width holds a pixel of the face (R128). -/
def routeCovers (w : Nat) : List Placed → Nat → Nat → Bool
  | p :: q :: rest, x, y => pairCovers w p q x y || routeCovers w (q :: rest) x y
  | _, _, _ => false

/-- The least box that holds a pair's squares, as left, right, top and bottom. -/
def pairBox (w : Nat) (p q : Placed) : Option (Int × Int × Int × Int) :=
  match p.onLevel, q.onLevel with
  | true, true => some (min p.x q.x - ((w - 1) / 2 : Nat), max p.x q.x + (w / 2 : Nat),
                        min p.y q.y - ((w - 1) / 2 : Nat), max p.y q.y + (w / 2 : Nat))
  | true, false => some (p.x - 8, p.x + 7, p.y - 8, p.y + 7)
  | false, true => some (q.x - 8, q.x + 7, q.y - 8, q.y + 7)
  | false, false => none

/-- The least box that holds two boxes. -/
def joinBox : Option (Int × Int × Int × Int) → Option (Int × Int × Int × Int) → Option (Int × Int × Int × Int)
  | some (l, r, t, b), some (l', r', t', b') => some (min l l', max r r', min t t', max b b')
  | some v, none => some v
  | none, v => v

/-- The least box that holds every square of a route. -/
def routeExtent (w : Nat) : List Placed → Option (Int × Int × Int × Int)
  | p :: q :: rest => joinBox (pairBox w p q) (routeExtent w (q :: rest))
  | _ => none

/-- A box clipped to the face (R128), or none where nothing of it is on the face. -/
def clipBox (l r t b : Int) : Option Rect :=
  let x0 := max l 0
  let x1 := min r 1079
  let y0 := max t 0
  let y1 := min b 1919
  if x0 ≤ x1 ∧ y0 ≤ y1 then some ⟨x0.toNat, y0.toNat, (x1 - x0 + 1).toNat, (y1 - y0 + 1).toNat⟩ else none

/-! ### Shapes -/

/-- A covered pixel of a glyph cell: bit 7 minus (c modulo 8) of byte 3 r + c / 8 (R201). -/
def glyphCovers (cell : Bytes) (c r : Nat) : Bool := (cell.getD (3 * r + c / 8) 0).getLsbD (7 - c % 8)

/-- The image value of pixel k from an offset of an image buffer, the two most significant bits first (R118). -/
def imageValue (buffer : Mem) (offset k : Nat) : Colour := (buffer.read (offset + k / 4)).extractLsb' (6 - 2 * (k % 4)) 2

/-- The source of a shape at column `c` and row `r` of its box, none where the mask does not admit the pixel (R115, R117,
R118, R123, R128). -/
def Plot.source (p : Plot) (buffer : Mem) (c r : Nat) : Option Colour :=
  match p.shape with
  | .solid colour => some colour
  | .outline t colour =>
    if c < t ∨ p.box.w ≤ c + t ∨ r < t ∨ p.box.h ≤ r + t then some colour else none
  | .image offset keyed =>
    let v := imageValue buffer offset (r * p.box.w + c)
    if keyed && decide (v = 0) then none else some v
  | .glyph cell scale colour => if glyphCovers cell (c / scale) (r / scale) then some colour else none
  | .route points width colour => if routeCovers width points (p.box.x + c) (p.box.y + r) then some colour else none

/-- One pixel of a plot through the pixel path (R115). -/
def plotPixel (p : Plot) (buffer : Mem) (planes : Vector Mem 4) (c r : Nat) : Vector Mem 4 :=
  match p.source buffer c r with
  | none => planes
  | some src =>
    let x := p.box.x + c
    let y := p.box.y + r
    putColour planes p.layer p.face x y (p.combine.apply src (layerColour planes p.layer p.face x y))

/-- The pixels of a group of `n` from column `c` of row `r` of a plot's box (R113). -/
def plotRun (p : Plot) (buffer : Mem) : Nat → Nat → Nat → Vector Mem 4 → Vector Mem 4
  | 0, _, _, planes => planes
  | n + 1, c, r, planes => plotRun p buffer n (c + 1) r (plotPixel p buffer planes c r)

/-- Pixels of a plot's box. -/
def Plot.size (p : Plot) : Nat := p.box.w * p.box.h

/-- The length of the next group of a plot: what is asked, at most 32, at most the rest of the row (R113; log 5). -/
def Plot.groupLength (p : Plot) (count : Nat) : Nat := min (min count Config.groupPixels) (p.box.w - p.passed % p.box.w)

/-- The planes after a plot's next group (R113). -/
def Plot.writeGroup (p : Plot) (buffer : Mem) (count : Nat) (planes : Vector Mem 4) : Vector Mem 4 :=
  plotRun p buffer (p.groupLength count) (p.passed % p.box.w) (p.passed / p.box.w) planes

/-- A plot with its next group behind it. -/
def Plot.advance (p : Plot) (count : Nat) : Plot := { p with passed := p.passed + p.groupLength count }

/-- A plot to write, unless its box holds no pixel. -/
def plotJob (face : Face) (layer : Layer) (combine : Combine) (shape : Shape) (box : Rect) : List Job :=
  if box.w = 0 ∨ box.h = 0 then [] else [.plot ⟨face, layer, combine, shape, box, 0⟩]

/-- The work that combines a route set with its colour by XOR on the map layer of a face (R129). -/
def routeJob (face : Face) (win : MapWindow) (o : Orientation) (colour : Colour) (width : Nat) (copy : List Waypoint) :
    List Job :=
  let points := copy.map (placeWaypoint win o)
  match routeExtent width points with
  | some (l, r, t, b) =>
    match clipBox l r t b with
    | some box => plotJob face .map .xor (.route points width colour) box
    | none => []
  | none => []

/-! ### Text -/

/-- The glyph size at a scale: 24 or 48 (R120). -/
def glyphSize (scale : Nat) : Nat := Config.glyphSide * scale

/-- The left edge of position `i` of a field (R121). -/
def glyphEdge (rtl : Bool) (x m g i : Nat) : Nat := if rtl then x + m - (i + 1) * g else x + i * g

/-- The codes drawn in `p` positions: the string, or its cut with the ellipsis in the last position (R121, R122). -/
def cutCodes (p : Nat) (ellipsis : Option Nat) (codes : List Nat) : List Nat :=
  if codes.length ≤ p then codes
  else
    match ellipsis with
    | some e => codes.take (p - 1) ++ (if p = 0 then [] else [e])
    | none => codes.take p

/-- The positions of a field in order, each a glyph code and a left edge (R121, R122). -/
def layoutText (rtl : Bool) (ellipsis : Option Nat) (x m g : Nat) (codes : List Nat) : List (Nat × Nat) :=
  (cutCodes (m / g) ellipsis codes).zipIdx.map (fun (c, i) => (c, glyphEdge rtl x m g i))

/-- A text field under way, laid out under a language slot's direction and ellipsis (R120, R121); none where P is 0. -/
def State.textJob (s : State) (f : Face) (l : Fin 4) (combine : Combine) (colour : Colour) (scale x y m : Nat)
    (codes : List Nat) : List Job :=
  let slot := s.languageLayout l
  match layoutText slot.1 slot.2 x m (glyphSize scale) codes with
  | [] => []
  | rest => [.text ⟨f, combine, colour, scale, y, rest⟩]

/-- GS's answer to a glyph request (R18): held during a page copy (none), or a coverage cell. -/
def State.glyphRequest (s : State) (code : Nat) : Option Bytes :=
  let page := code / 64
  let cellFrom (m : Mem) (i : Nat) : Bytes := m.readBytes (Config.glyphBytes * i) Config.glyphBytes
  if s.glyphs.copying = some page then none
  else
    match s.glyphPage page with
    | some m => some (cellFrom m (code % 64))
    | none =>
      if s.glyphs.copying = some 0 then none
      else
        match s.glyphPage 0 with
        | some m => some (cellFrom m 0)
        | none => some (List.replicate Config.glyphBytes 0)

/-- The plot of one glyph at a left edge (R123). -/
def TextRun.glyphPlot (t : TextRun) (cell : Bytes) (edge : Nat) : Plot :=
  ⟨t.face, .card, t.combine, .glyph cell t.scale t.colour, ⟨edge, t.y, glyphSize t.scale, glyphSize t.scale⟩, 0⟩

/-- A text field with its first position behind it; none once no position is left. -/
def TextRun.later (t : TextRun) : List Job :=
  match t.rest with
  | _ :: p :: ps => [.text { t with rest := p :: ps }]
  | _ => []

/-! ### The work in hand -/

/-- The engine's work replaced. -/
def State.setJobs (s : State) (jobs : List Job) : State := { s with engine := { s.engine with jobs := jobs } }

/-- The work at its next plot: an evacuation message starts as a text field (R179), a text field asks for its next glyph
(R123). None while GS holds the request (R113). -/
def State.nextPlot (s : State) : List Job → Option (List Job)
  | .text t :: rest =>
    match t.rest with
    | (code, edge) :: _ =>
      match s.glyphRequest code with
      | some cell => some (.plot (t.glyphPlot cell edge) :: (t.later ++ rest))
      | none => none
    | [] => some rest
  | .plot p :: rest => some (.plot p :: rest)
  | .message _ _ _ :: rest => some rest
  | [] => some []

/-- The evacuation message as a text field in scale 2 and colour 2, in the box (24, 96, 1032, 48) (R179). -/
def State.messageJob (s : State) (f : Face) (l : Fin 4) (codes : List Nat) : List Job :=
  s.textJob f l .replace 2 2 24 96 1032 codes

/-- The work with an evacuation message at its head turned into its text field, whose language slot is read then (R179). -/
def State.startMessage (s : State) : List Job → List Job
  | .message f l codes :: rest => s.messageJob f l codes ++ rest
  | jobs => jobs

/-- The state after the next pixel group of a plot that heads the work (R113). -/
def State.writePlot (s : State) (p : Plot) (rest : List Job) (count : Nat) : State :=
  let t := { s with planes := p.writeGroup (s.face p.face).image count s.planes }
  let q := p.advance count
  t.setJobs (if p.size ≤ q.passed then rest else .plot q :: rest)

/-- The state after the next pixel group of the work in hand; a held glyph request writes nothing and waits (R113). -/
def State.writeGroup (s : State) (count : Nat) : State :=
  match s.nextPlot (s.startMessage s.engine.jobs) with
  | some (.plot p :: rest) => s.writePlot p rest count
  | some jobs => s.setJobs jobs
  | none => { s with engine := { s.engine with jobs := s.startMessage s.engine.jobs, glyphHeld := true } }

/-- A held glyph request answered at copy done, from the new content (R18). -/
def State.answerGlyph (s : State) : State :=
  if s.engine.glyphHeld then
    match s.nextPlot s.engine.jobs with
    | some jobs => { s with engine := { s.engine with jobs := jobs, glyphHeld := false } }
    | none => s
  else s

end Sys2Proof.Machine
end

