-- ==== Sys2Proof/Machine/Arbiter.lean ====
section
/-! DEFINITION. The Engine Arbiter (R105 to R110): claims, the grant decision and the face grant. -/

namespace Sys2Proof.Machine

/-- A face queue claims while it is PENDING (R106). -/
def State.queueClaims (s : State) (f : Face) : Bool := decide ((s.face f).queue.state = .pending)

/-- The faces whose queues claim, in ascending order (R106). -/
def State.claims (s : State) : List Face := (List.finRange 4).filter s.queueClaims

/-- The purge claims from its acceptance until it is granted (R106). -/
def State.purgeClaims (s : State) : Bool := s.update.purging && !s.purgeHolds

/-- EC claims from the start of TAKEOVER until it is granted (R106). -/
def State.ecClaims (s : State) : Bool :=
  decide (s.evac.state = .takeover) && !decide (s.arbiter.holder = some .ec)

/-- The effective level of a face at a decision (R108). -/
def State.effectiveLevel (s : State) (f : Face) : Nat :=
  if s.settings.ageLimit ≤ (s.face f).waitCount then 0 else (s.settings.priority[f]).val

/-- The faces in rotation: from the face after the last one served, modulo 4; from face 0 with none served (R108). -/
def rotation (last : Option Face) : List Face :=
  match last with
  | none => [0, 1, 2, 3]
  | some f => [f + 1, f + 2, f + 3, f]

/-- The face chosen among those that claim (R108): of the lowest effective level, the first in rotation. -/
def State.chooseFace (s : State) (claims : List Face) : Option Face :=
  (rotation s.arbiter.lastServed).find? (fun f =>
    claims.contains f && claims.all (fun g => decide (s.effectiveLevel f ≤ s.effectiveLevel g)))

/-- The grant decision (R107). -/
def State.grantDecision (s : State) : Option Decision :=
  if s.purgeClaims then some ⟨.purge, s.claims⟩
  else if s.ecClaims then some ⟨.ec, s.claims⟩
  else if s.evac.state ≠ .normal then none
  else
    match s.chooseFace s.claims with
    | some f => some ⟨.face f, s.claims⟩
    | none => none

/-- The chosen claimant of a decision still claims. -/
def State.stillClaims (s : State) (d : Decision) : Bool :=
  match d.chosen with
  | .face f => s.queueClaims f
  | .purge => s.purgeClaims
  | .ec => s.ecClaims

/-- A recorded decision (log 1). -/
def State.setDecision (s : State) (d : Option Decision) : State := { s with arbiter := { s.arbiter with decision := d } }

/-- EA decides at a release, and when a claim appears while the holder is none (R107). A decision once made stands until its
grant step, unless its claim has gone (log 1). -/
def State.arbitrate (s : State) : State :=
  match s.arbiter.holder with
  | some _ => s.setDecision none
  | none =>
    match s.arbiter.decision with
    | none => s.setDecision s.grantDecision
    | some d => if s.stillClaims d then s else s.setDecision s.grantDecision

/-- The engine released: the holder becomes none, and EA decides (R110). -/
def State.release (s : State) : State := { s with arbiter := { s.arbiter with holder := none, decision := none } }

/-- The engine taken by a claimant (R107). -/
def State.grantTo (s : State) (h : Claimant) : State := { s with arbiter := { s.arbiter with holder := some h, decision := none } }

/-- The wait count after a face grant: 0 for the granted face, one more, to 15, for a face passed over (R109). -/
def waitCountAfter (granted : Face) (claims : List Face) (f : Face) (count : Nat) : Nat :=
  if f = granted then 0 else if claims.contains f then min (count + 1) Config.maxWaitCount else count

/-- A face granted the engine: it becomes the holder and the last face served, its queue RUNNING, and the wait counts move
(R86, R107 to R109). -/
def State.grantFace (s : State) (f : Face) (claims : List Face) : State :=
  let t := s.mapFaces (fun g c => { c with waitCount := waitCountAfter f claims g c.waitCount })
  let t := t.modFace f (fun c => { c with queue := { c.queue with state := .running } })
  { t with arbiter := ⟨some (.face f), some f, none⟩ }

end Sys2Proof.Machine
end

