-- ==== Sys2Proof/Machine/Slots.lean ====
section
/-! DEFINITION. The Slot Tracker (chapter 8): what drawing, commits, takeover, purge and the reads do to the slots. -/

namespace Sys2Proof.Machine

/-- A card slot of a context replaced. -/
def FaceContext.setCard (c : FaceContext) (slot : Fin 12) (v : Option Card) : FaceContext :=
  { c with cards := c.cards.set slot v }

/-- A card slot in DRAWING moved on at the end of its CARD segment; any other is left (R146). -/
def cardEnd (next : CardState) : Option Card → Option Card
  | some card => if card.state = .drawing then some { card with state := next } else some card
  | none => none

/-- The CARD segment's end at its card slot: CURRENT at a completion, BROKEN at a fault or cut (R146). -/
def FaceContext.endCard (c : FaceContext) (slot : Fin 12) (faulted : Bool) : FaceContext :=
  c.setCard slot (cardEnd (if faulted then .broken else .current) c.cards[slot])

/-- The ROUTE segment's end at the route slot: DRAWN at a completion, NONE at a fault or cut, if still DRAWING (R147). -/
def routeEnd (faulted : Bool) : Option RouteRecord → Option RouteRecord
  | some r =>
    if r.state = .drawing then (if faulted then none else some { r with state := .drawn }) else some r
  | none => none

/-- A map-layer FILL, FRAME or IMAGE that has passed its checks (R119, R147). -/
def routeDisturb : Option RouteRecord → Option RouteRecord
  | some r => if r.state = .drawn ∨ r.state = .stale then some { r with state := .disturbed } else some r
  | none => none

/-- The route slot's copy may be erased by XOR: DRAWN or STALE (R130, R131). -/
def routeErasable : Option RouteRecord → Bool
  | some r => decide (r.state = .drawn ∨ r.state = .stale)
  | none => false

/-- A commit notice marks a card slot that holds the entry: DRAWING, CURRENT or STALE are marked (R148). -/
def cardMarked (n : Nat) : Option Card → Bool
  | some card => decide (card.entry = n ∧ (card.state = .drawing ∨ card.state = .current ∨ card.state = .stale))
  | none => false

/-- A card slot after the notice of a commit to entry `n` (R148). -/
def cardNotice (n : Nat) (new : EntryState) (v : Option Card) : Option Card :=
  if cardMarked n v then v.map (fun card => { card with state := if new = .live then .stale else .gone }) else v

/-- A commit notice marks the route slot: DRAWING, DRAWN or STALE in any case, DISTURBED if the entry is not LIVE (R149). -/
def routeMarked (n : Nat) (new : EntryState) : Option RouteRecord → Bool
  | some r =>
    decide (r.entry = n ∧ (r.state = .drawing ∨ r.state = .drawn ∨ r.state = .stale ∨ (r.state = .disturbed ∧ new ≠ .live)))
  | none => false

/-- The route slot after the notice of a commit to entry `n` (R149). -/
def routeNotice (n : Nat) (new : EntryState) (v : Option RouteRecord) : Option RouteRecord :=
  if routeMarked n new v then v.map (fun r => { r with state := if new = .live then .stale else .gone }) else v

/-- An event latched if a condition holds; `on` tells whether the face is enabled. -/
def FaceContext.latchIf (c : FaceContext) (b : Bool) (e : Event) : FaceContext := if b then c.latching e else c

/-- A context after the notice of a commit to entry `n` (R148, R149), each event raised once. -/
def FaceContext.notice (c : FaceContext) (on : Bool) (n : Nat) (new : EntryState) : FaceContext :=
  let marked := { c with cards := vmap (cardNotice n new) c.cards, route := routeNotice n new c.route }
  (marked.latchIf (on && c.cards.toList.any (cardMarked n)) .slotChanged).latchIf (on && routeMarked n new c.route) .routeChanged

/-- ST takes the notice of a commit to entry `n` on every face (R148, R149). -/
def State.commitNotice (s : State) (n : Nat) (new : EntryState) : State :=
  s.mapFaces (fun f c => c.notice (s.enabled f) n new)

/-- Every card slot EMPTY and the route slot NONE (R153, R155). -/
def FaceContext.clearSlots (c : FaceContext) : FaceContext :=
  { c with cards := Vector.replicate 12 none, route := none }

/-- A tracked card slot after a purge: GONE, its record kept (R154). -/
def cardPurged : Option Card → Option Card
  | some card => some { card with state := .gone }
  | none => none

/-- A tracked route slot after a purge: GONE, its record kept (R154). -/
def routePurged : Option RouteRecord → Option RouteRecord
  | some r => some { r with state := .gone }
  | none => none

/-- A context at the end of a purge: every tracked slot GONE, each event raised where slots were tracked (R154). -/
def FaceContext.purgeSlots (c : FaceContext) (on : Bool) : FaceContext :=
  let marked : FaceContext := { c with cards := vmap cardPurged c.cards, route := routePurged c.route }
  (marked.latchIf (on && c.cards.toList.any Option.isSome) .slotChanged).latchIf (on && c.route.isSome) .routeChanged

/-- The bytes of a card slot in READ_SLOTS: state, entry, generation, rectangle; an EMPTY slot's absent fields (R196, log 12). -/
def cardBytes (v : Option Card) : Bytes :=
  cardStateCode v ::
    (match v with
     | some card => word16Of card.entry ++ [card.generation] ++ word16Of card.rect.x ++ word16Of card.rect.y
                    ++ word16Of card.rect.w ++ word16Of card.rect.h
     | none => [0xFF, 0xFF] ++ List.replicate 9 0)

/-- The bytes of the route slot in READ_SLOTS: state, entry, generation, colour, width, waypoint count. -/
def routeBytes (v : Option RouteRecord) : Bytes :=
  routeStateCode v ::
    (match v with
     | some r => word16Of r.entry ++ [r.generation, r.colour.setWidth 8, byteOf r.width, byteOf r.copy.length]
     | none => [0xFF, 0xFF, 0, 0, 0, 0])

/-- The results of READ_SLOTS (R156, R199). -/
def FaceContext.slotResults (c : FaceContext) : Bytes := c.cards.toList.flatMap cardBytes ++ routeBytes c.route

/-- A rectangle contains a pixel (R157). -/
def Rect.contains (r : Rect) (x y : Nat) : Bool :=
  decide (r.x ≤ x ∧ x < r.x + r.w ∧ r.y ≤ y ∧ y < r.y + r.h)

/-- HIT_TEST finds a slot in CURRENT, STALE or DRAWING whose rectangle contains the pixel (R157). -/
def cardHit (x y : Nat) : Option Card → Bool
  | some card => decide (card.state = .current ∨ card.state = .stale ∨ card.state = .drawing) && card.rect.contains x y
  | none => false

/-- The results of HIT_TEST: the lowest-numbered slot found, or NONE (R157, R199). -/
def FaceContext.hitResults (c : FaceContext) (x y : Nat) : Bytes :=
  match (List.finRange 12).find? (fun i => cardHit x y c.cards[i]) with
  | some i =>
    match c.cards[i] with
    | some card => [1, byteOf i.val] ++ word16Of card.entry ++ [cardStateCode (some card)]
    | none => []
  | none => [0]

end Sys2Proof.Machine
end

