-- ==== Sys2Proof/Machine/Queues.lean ====
section
/-! DEFINITION. The Queue Controller's operations (R83 to R93, R96, R101) and the application of RESET_FACE (R82). -/

namespace Sys2Proof.Machine

/-- Cells of an active range: (last - next, modulo 16) + 1 (R83). -/
def ActiveRange.count (r : ActiveRange) : Nat := (r.last - r.next).val + 1

/-- A ring cell lies in an active range (R83). -/
def ActiveRange.holds (r : ActiveRange) (cell : Fin 16) : Bool := decide ((cell - r.next).val < r.count)

/-- A change to the queue record of a context. -/
def FaceContext.modQueue (c : FaceContext) (g : Queue → Queue) : FaceContext := { c with queue := g c.queue }

/-- A change to the queue record of a face. -/
def State.modQueue (s : State) (f : Face) (g : Queue → Queue) : State := s.modFace f (fun c => c.modQueue g)

/-- A queue halted: range emptied, stop request cleared, halt reason set (R92). -/
def Queue.halted (q : Queue) (r : HaltReason) : Queue :=
  { q with state := .halted, halt := some r, range := none, stop := false }

/-- A queue made IDLE: range emptied, stop request and halt reason cleared (R83, R89). -/
def Queue.idled (q : Queue) : Queue := { q with state := .idle, halt := none, range := none, stop := false }

/-- A halt from outside the queue's own work: PENDING and WAITING at once, HALTED takes the new reason, IDLE is not halted,
RUNNING waits for its segment end (R92). -/
def Queue.haltedBy (q : Queue) (r : HaltReason) : Queue :=
  match q.state with
  | .pending | .waiting | .halted => q.halted r
  | .idle | .running => q

/-- The halt at the end of a segment: every queue that the end did not leave IDLE (R90, R92, R174). -/
def Queue.haltedAtEnd (q : Queue) (r : HaltReason) : Queue := if q.state = .idle then q else q.halted r

/-- The cell of a ring. -/
def Queue.cell (q : Queue) (i : Fin 16) : Bytes := cellOf q.ring i

/-- The range moved past its next cell, unless that was its last (R83). -/
def ActiveRange.moved (r : ActiveRange) : Option ActiveRange := if r.next = r.last then none else some { r with next := r.next + 1 }

/-- The queue after its next cell completes: IDLE after the last cell, PENDING otherwise (R90, R91). -/
def Queue.completed (q : Queue) : Queue :=
  match q.range.bind ActiveRange.moved with
  | some r => { q with state := .pending, range := some r }
  | none => q.idled

/-- A segment's end as QC takes it: what ended, and whether the face's supervisor entered PULSE meanwhile (R90). -/
structure SegmentEnd where
  fault : Option FaultReason
  pulsed : Bool
  wait : Bool
  deriving DecidableEq, Repr

/-- The queue after a segment end: the first row of R90's table that holds. -/
def Queue.afterEnd (q : Queue) (e : SegmentEnd) : Queue :=
  match e.fault with
  | some .cut => q.halted .evac
  | some _ => q.halted .fault
  | none =>
    if e.pulsed then q.halted .withdrawn
    else if q.stop then q.idled
    else if e.wait then { q with state := .waiting }
    else q.completed

/-- The ring cell that a segment end completes has its notify flag set (R93). -/
def Queue.notifies (q : Queue) (i : Fin 16) (e : SegmentEnd) : Bool := e.fault.isNone && !e.wait && cellNotify (q.cell i)

/-- QC takes a segment end of a face at ring cell `i`, with the events of R93. -/
def State.queueEnd (s : State) (f : Face) (i : Fin 16) (e : SegmentEnd) : State :=
  let q := (s.face f).queue
  let t := s.raiseIf (q.notifies i e) f .segmentDone
  let t := t.modQueue f (fun q => q.afterEnd e)
  t.raiseIf (decide ((q.afterEnd e).state = .idle)) f .queueIdle

/-- The WAIT_FRAME cell of a WAITING queue completes at a frame start (R91). -/
def State.waitFrameDone (s : State) (f : Face) : State :=
  let q := (s.face f).queue
  match q.state, q.range with
  | .waiting, some r =>
    let t := s.raiseIf (cellNotify (q.cell r.next)) f .segmentDone
    let t := t.modQueue f Queue.completed
    t.raiseIf (decide (q.completed.state = .idle)) f .queueIdle
  | _, _ => s

/-- START's new range: next cell first, last cell last; halt reason, stop request and fault record cleared (R87). -/
def Queue.started (q : Queue) (first last : Fin 16) : Queue :=
  { q with state := .pending, halt := none, range := some ⟨first, last⟩, stop := false, fault := none }

/-- The cells of a WRITE_CELLS, from the first, wrapping from 15 to 0 (R85). -/
def writtenCells (first : Fin 16) (n : Nat) : List (Fin 16) := (List.range n).map (fun i => first + Fin.ofNat 16 i)

/-- The ring after the records are written into consecutive cells from `first`, wrapping (R85). -/
def writeCellsAt : Mem → Fin 16 → Nat → Bytes → Mem
  | m, _, 0, _ => m
  | m, first, n + 1, bs =>
    writeCellsAt (m.writeBytes (16 * first.val) (bs.take 16)) (first + 1) n (bs.drop 16)

/-! ### The include stack and the template uses -/

/-- A template's use count moved. -/
def State.useTemplate (s : State) (t : Nat) (g : Nat → Nat) : State :=
  let v := s.template t
  s.setTemplate t { v with use := g v.use }

/-- The use counts lowered for each level taken off a stack (R101). -/
def State.returnUses (s : State) : List Level → State
  | [] => s
  | l :: ls => (s.useTemplate l.template (fun n => n - 1)).returnUses ls

/-- The include stack emptied, its uses returned, the snapshot absent and the set of entered templates empty (R34, R101,
R103, R114). -/
def State.emptyStack (s : State) (f : Face) : State :=
  let t := s.returnUses (s.face f).queue.stack
  let t := t.modFace f (fun c => { c.modQueue (fun q => { q with stack := [] }) with snapshot := none })
  { t with templates := { t.templates with entered := [] } }

/-! ### RESET_FACE -/

/-- A context after RESET_FACE (R82): every part the rule lists at its full-reset value, and the latch emptied. -/
def FaceContext.resetFace (c : FaceContext) : FaceContext :=
  { c with
    language := 0
    window := MapWindow.reset
    image := []
    palette := { c.palette with own := defaultPalette, pending := Vector.replicate 16 none }
    queue := Queue.reset
    snapshot := none
    cards := Vector.replicate 12 none
    route := none
    latch := 0
    mask := 0
    waitCount := 0 }

/-- RESET_FACE applied to a face and answered (R82). -/
def State.applyReset (s : State) (f : Face) : State :=
  (s.modFace f FaceContext.resetFace).answer f .ok 0x50 []

/-- A RESET_FACE that a face's port holds is applied (R81). -/
def State.applyHeldReset (s : State) (f : Face) : State :=
  if (s.face f).port.inProgress = some .resetFace then s.applyReset f else s

end Sys2Proof.Machine
end

