-- ==== Sys2Proof/Machine/Evacuation.lean ====
section
/-! DEFINITION. The Evacuation Controller (chapter 10): sources, takeover, the view, the language cycle and the release. -/

namespace Sys2Proof.Machine

/-- A change to EC's state. -/
def State.modEvac (s : State) (g : Evac → Evac) : State := { s with evac := g s.evac }

/-- The shown zone: the trunk zone if the trunk source is active, else the line zone (R171). -/
def State.shownZone (s : State) : Fin 8 := s.evac.trunkZone.getD s.settings.lineZone

/-- Evacuation is wanted while the line source is ASSERTED or the trunk source active (R171). -/
def State.evacWanted (s : State) : Bool := s.evac.asserted || s.evac.trunkZone.isSome

/-- Every face queue halted by a cause (R92). -/
def State.haltQueues (s : State) (r : HaltReason) : State := s.mapFaces (fun _ c => c.modQueue (fun q => q.haltedBy r))

/-- TAKEOVER starts (R174). -/
def State.takeover (s : State) : State :=
  let t := s.haltQueues .evac
  let t := t.modEvac (fun e =>
    { e with state := .takeover, cutoff := .running Config.cutoffMs, drawnZone := none, language := none, redraw := false })
  t.arbitrate

/-! ### The view -/

/-- The exit route of a plan: the waypoints of its exit entry if that is LIVE (R177, R178). -/
def State.exitRoute (s : State) (plan : Mem) : List Waypoint :=
  match planExit plan with
  | some n => if (s.entry n).state = .live then s.routeOf (s.entry n) else []
  | none => []

/-- A rectangle filled in one colour by REPLACE. -/
def fillJob (f : Face) (layer : Layer) (colour : Colour) (box : Rect) : List Job :=
  plotJob f layer .replace (.solid colour) box

/-- The whole face. -/
def wholeFace : Rect := ⟨0, 0, Config.faceWidth, Config.faceHeight⟩

/-- The band's rows 0 to 239 (R178). -/
def bandRect : Rect := ⟨0, 0, Config.faceWidth, 240⟩

/-- The marker's square about a window's centre pixel, cut to the face (R178 step 4). -/
def markerRect (w : MapWindow) : Rect :=
  ⟨w.cx - 16, w.cy - 16, min (w.cx + 15) 1079 + 1 - (w.cx - 16), min (w.cy + 15) 1919 + 1 - (w.cy - 16)⟩

/-- The lowest-numbered language slot for which a plan holds a message (R179). -/
def firstMessage (plan : Mem) : Option (Fin 4) := (List.finRange 4).find? (fun l => (planMessage plan l).isSome)

/-- The band of a face with the message in the shown language (R178 step 2, R179). -/
def bandJobs (plan : Mem) (language : Option (Fin 4)) (f : Face) : List Job :=
  fillJob f .card 1 bandRect ++
    (match language with
     | some l =>
       match planMessage plan l with
       | some codes => [.message f l codes]
       | none => []
     | none => [])

/-- The view of a face under a plan (R178); of an UNDEFINED plan, the plain fill. The map layer is written before the card layer (log 35). -/
def State.viewJobs (s : State) (plan : Option Mem) (f : Face) : List Job :=
  match plan with
  | none => fillJob f .map 0 wholeFace ++ fillJob f .card 0 wholeFace ++ fillJob f .map 1 wholeFace ++ fillJob f .card 0 wholeFace
  | some m =>
    fillJob f .map 0 wholeFace ++ fillJob f .card 0 wholeFace ++ bandJobs m (firstMessage m) f
      ++ routeJob f (planWindow m) s.settings.orientation[f] 3 8 (s.exitRoute m)
      ++ fillJob f .map 2 (markerRect (planWindow m))

/-- The evacuation palette given to the Scan-out of each enabled face, with source EVACUATION (R141, R177). -/
def State.givePalette (s : State) (p : Vector Rgb 16) : State :=
  s.mapFaces (fun f c =>
    if s.enabled f then { c with palette := { c.palette with evacuation := p, source := .evacuation } } else c)

/-- A VIEW drawing starts: EC reads the shown zone, the plan and the exit entry, gives the palettes and draws on every enabled
face in ascending order (R177, R178, R181). -/
def State.startView (s : State) : State :=
  let zone := s.shownZone
  let plan := s.evac.plans[zone]
  let t := s.givePalette ((plan.map planPalette).getD defaultPalette)
  let t := t.setJobs (s.enabledFaces.flatMap (s.viewJobs plan))
  t.modEvac (fun e =>
    { e with drawnZone := some zone, language := plan.bind firstMessage, redraw := false, drawing := some .view,
             cycle := .stopped })

/-- RELEASING begins with the BLANK drawing (R183): the enabled faces in ascending order, on each the map layer first (log 35). -/
def State.startRelease (s : State) : State :=
  let t := s.setJobs (s.enabledFaces.flatMap (fun f => fillJob f .map 0 wholeFace ++ fillJob f .card 0 wholeFace))
  t.modEvac (fun e => { e with state := .releasing, cycle := .stopped, redraw := false, drawing := some .blank })

/-- A cause of a redraw: a redraw now with no drawing in flight, else redraw pending (R181). -/
def State.redrawCause (s : State) : State :=
  match s.evac.drawing with
  | none => s.startView
  | some _ => s.modEvac (fun e => { e with redraw := true })

/-- EC looks at the sources after a change of either (R174, R180, R181, R183). -/
def State.lookSources (s : State) : State :=
  match s.evac.state with
  | .normal => if s.evacWanted then s.takeover else s
  | .takeover =>
    if s.evac.drawing.isSome && decide (some s.shownZone ≠ s.evac.drawnZone) then s.modEvac (fun e => { e with redraw := true })
    else s
  | .showing =>
    if s.evacWanted then (if some s.shownZone ≠ s.evac.drawnZone then s.redrawCause else s)
    else if s.evac.drawing.isNone then s.startRelease
    else s
  | .releasing => s

/-- EC takes a commit notice for what it shows (R180, R181): in TAKEOVER during the drawing it sets redraw pending, in SHOWING
it is a redraw cause, and otherwise it has no effect. -/
def State.shownCommit (s : State) : State :=
  match s.evac.state with
  | .takeover => if s.evac.drawing.isSome then s.modEvac (fun e => { e with redraw := true }) else s
  | .showing => s.redrawCause
  | .normal | .releasing => s

/-- The notice of an entry commit: given if the entry is the exit entry of the plan of the shown zone (R35). -/
def State.noticeEntry (s : State) (n : Nat) : State :=
  match s.evac.plans[s.shownZone] with
  | some m => if planExit m = some n then s.shownCommit else s
  | none => s

/-- The notice of a plan commit: given if the plan is that of the shown zone (R39). -/
def State.noticePlan (s : State) (z : Nat) : State := if z = s.shownZone.val then s.shownCommit else s

/-- The end of a VIEW or BAND drawing (R180 to R182): release, further redraw, or the cycle timer. -/
def State.afterDrawing (s : State) : State :=
  if !s.evacWanted then s.startRelease
  else if s.evac.redraw then s.startView
  else s.modEvac (fun e => { e with cycle := .running s.settings.cycleMs })

/-- EC holds the engine for a drawing whose last pixel is written. -/
def State.drawingDone (s : State) (d : Drawing) : Bool :=
  decide (s.arbiter.holder = some .ec) && decide (s.evac.drawing = some d) && s.engine.jobs.isEmpty

/-- EC_GRANT: EC takes the engine and starts the view (R177). -/
def State.ecGrant (s : State) : State :=
  let t := s.grantTo .ec
  let t := t.mapFaces (fun _ c => c.clearSlots)
  (t.modEvac (fun e => { e with cutoff := .stopped })).startView

/-- VIEW_DRAWING_END (R180, R181). -/
def State.viewEnd (s : State) : State :=
  let t := s.modEvac (fun e => { e with drawing := none })
  if s.evac.state = .takeover then ((t.modEvac (fun e => { e with state := .showing })).raiseAll .evacOn).afterDrawing
  else t.afterDrawing

/-- The next language of the cycle: the first slot after the shown one, modulo 4, for which the plan holds a message (R182). -/
def nextMessage (plan : Mem) (shown : Fin 4) : Option (Fin 4) :=
  [shown + 1, shown + 2, shown + 3, shown].find? (fun l => (planMessage plan l).isSome)

/-- The language the cycle changes to, none where no drawing is made (R182, log 22). -/
def State.cycleLanguage (s : State) : Option (Fin 4) :=
  match s.evac.language, s.evac.drawnZone.bind (fun z => s.evac.plans[z]) with
  | some l, some m =>
    match nextMessage m l with
    | some k => if k = l then none else some k
    | none => none
  | _, _ => none

/-- CYCLE_TIMER_EXPIRY in SHOWING (R182). -/
def State.cycleExpiry (s : State) : State :=
  match s.cycleLanguage with
  | none => s.modEvac (fun e => { e with cycle := .running s.settings.cycleMs })
  | some l =>
    let plan := (s.evac.drawnZone.bind (fun z => s.evac.plans[z])).getD []
    let t := s.setJobs (s.enabledFaces.flatMap (bandJobs plan (some l)))
    t.modEvac (fun e => { e with language := some l, drawing := some .band, cycle := .stopped })

/-- BLANK_DRAWING_END (R183). -/
def State.blankEnd (s : State) : State :=
  let t := s.mapFaces (fun f c => if s.enabled f then { c with palette := { c.palette with source := .face } } else c)
  let t := (t.release).raiseAll .evacOff
  let t := t.modEvac (fun e => { e with state := .normal, drawnZone := none, language := none, drawing := none })
  if t.evacWanted then t.takeover else t.arbitrate

/-- A running timer. -/
def Timer.isRunning : Timer → Bool
  | .running _ => true
  | .stopped => false

/-- EC_GRANT (R177): carries out a decision that chose EC. -/
def execEcGrant (s : State) : Answer :=
  .next (if s.arbiter.holder = none ∧ s.arbiter.decision.map Decision.chosen = some .ec then s.ecGrant else s)

/-- VIEW_DRAWING_END (R180). -/
def execViewDrawingEnd (s : State) : Answer := .next (if s.drawingDone .view then s.viewEnd else s)

/-- CYCLE_TIMER_EXPIRY (R182). -/
def execCycleTimerExpiry (s : State) : Answer :=
  .next (if s.evac.state = .showing ∧ s.evac.cycle.isRunning then s.cycleExpiry else s)

/-- BAND_DRAWING_END (R182). -/
def execBandDrawingEnd (s : State) : Answer :=
  .next (if s.drawingDone .band then (s.modEvac (fun e => { e with drawing := none })).afterDrawing else s)

/-- BLANK_DRAWING_END (R183). -/
def execBlankDrawingEnd (s : State) : Answer := .next (if s.drawingDone .blank then s.blankEnd else s)

/-- The debounce timer of the EVAC line at a level: 20 ms held low, 200 ms held high (R172). -/
def debounceOf (low : Bool) : Timer := .running (if low then Config.lineLowMs else Config.lineHighMs)

/-- EVAC_LINE_CHANGE (R172): the level of the line changes, which restarts the debounce timer once the line is sampled. -/
def execEvacLineChange (s : State) : Answer :=
  .next (s.modEvac (fun e =>
    { e with lineLow := !e.lineLow, debounce := if s.loadEnded then debounceOf (!e.lineLow) else e.debounce }))

/-- LINE_DEBOUNCE_EXPIRY (R172): the line source follows the line, and EC looks at the sources if it changed. -/
def execLineDebounceExpiry (s : State) : Answer :=
  .next (
    if s.evac.debounce.isRunning then
      let t := s.modEvac (fun e => { e with debounce := .stopped, asserted := e.lineLow })
      if s.evac.asserted = s.evac.lineLow then t else t.lookSources
    else s)

end Sys2Proof.Machine
end

