-- ==== Sys2Proof/Machine/Commits.lean ====
section
/-! DEFINITION. The commits of the Update Controller (R34 to R41): start, copy and commit done, for each target kind. -/

namespace Sys2Proof.Machine

/-- A change to UC's state. -/
def State.modUpdate (s : State) (g : Update → Update) : State := { s with update := g s.update }

/-- The transaction, the staged image and the staging chain cease to be held; UC enters IDLE. -/
def Update.dropped (u : Update) : Update := { u with state := .idle, txn := none, image := none, chain := Chain.empty }

/-- Commit done (R40): the count moves on, the record takes COMMITTED, the cold flag is cleared, UC enters IDLE. -/
def Update.done (u : Update) (tag : Word16) : Update :=
  { u.dropped with count := u.count + 1, recordTag := tag, recordOutcome := .committed, cold := false }

/-- Commit done of the current transaction (R40). -/
def State.commitDone (s : State) : State :=
  match s.update.txn with
  | some x => s.modUpdate (fun u => u.done x.tag)
  | none => s

/-- The bytes of the staged image. -/
def State.staged (s : State) : Mem :=
  match s.update.image with
  | some i => i.bytes
  | none => []

/-- UC in COMMITTING. -/
def State.committing (s : State) : State := s.modUpdate (fun u => { u with state := .committing })

/-! ### Template commits -/

/-- A template commit starts (R37): LOAD begins the copy and makes the template DEFINED, CLEAR makes it EMPTY and ends at once.
The copy's bytes stand in the template from copy done (log 16). -/
def State.templateCommit (s : State) (x : Txn) : State :=
  let v := s.template x.number
  match x.op with
  | .load =>
    let t := s.setTemplate x.number { v with cells := some (v.cells.getD []) }
    { t.committing with templates := { t.templates with copying := some x.number } }
  | _ => ((s.setTemplate x.number { v with cells := none }).commitDone).raiseAll .templateChanged

/-- The template copy is done (R37): the template holds the staged cells, and the commit ends. -/
def State.templateCopied (s : State) (t : Nat) : State :=
  let v := s.template t
  let u := s.setTemplate t { v with cells := some s.staged }
  let u := { u with templates := { u.templates with copying := none } }
  (u.commitDone).raiseAll .templateChanged

/-- A deferred template commit is released at a segment end that leaves the template's use count at 0 (R41). -/
def State.releaseDeferred (s : State) : State :=
  match s.update.state, s.update.txn with
  | .deferred, some x => if (s.template x.number).use = 0 then s.templateCommit x else s
  | _, _ => s

/-! ### Glyph page, language and plan commits -/

/-- A glyph page commit starts (R36): LOAD makes the page LOADED and begins the copy, CLEAR makes it BLANK and ends at once. -/
def State.glyphCommit (s : State) (x : Txn) : State :=
  match x.op with
  | .load =>
    let t := s.setGlyphPage x.number (some ((s.glyphPage x.number).getD []))
    { t with glyphs := { t.glyphs with copying := some x.number } }
  | _ => ((s.setGlyphPage x.number none).commitDone).raiseAll .glyphsChanged

/-- The glyph page copy is done (R36): the page holds the staged image, a held request is answered, and the commit ends. -/
def State.glyphCopied (s : State) (p : Nat) : State :=
  let t := s.setGlyphPage p (some s.staged)
  let t := { t with glyphs := { t.glyphs with copying := none } }
  ((t.commitDone).raiseAll .glyphsChanged).answerGlyph

/-- A language slot commit (R38): LOAD gives it the image, CLEAR makes it UNDEFINED, or returns slot 0 to its blank image. -/
def State.languageCommit (s : State) (x : Txn) : State :=
  let v : Option Mem :=
    match x.op with
    | .load => some s.staged
    | _ => if x.number = 0 then some languageBlank else none
  (({ s with languages := s.languages.set (Fin.ofNat 4 x.number) v }).commitDone).raiseAll .glyphsChanged

/-- An evacuation plan commit (R39): the plan takes its content, and EC is given the plan number at commit done. -/
def State.planCommit (s : State) (x : Txn) : State :=
  let v : Option Mem :=
    match x.op with
    | .load => some s.staged
    | _ => none
  ((s.modEvac (fun e => { e with plans := e.plans.set (Fin.ofNat 8 x.number) v })).commitDone).noticePlan x.number

/-! ### Entry commits -/

/-- The state of an entry after a commit (R5). -/
def stateAfter (op : Op) (old : EntryState) : EntryState :=
  match op with
  | .put | .show => .live
  | .hide => .hidden
  | .remove => .free
  | .patch | .load | .clear => old

/-- What the commit of a PUT or PATCH image does to the route (R14): keep, drop, or take the staging chain. -/
def newRoute (op : Op) (image : Mem) (old : Option Chain) (staged : Chain) : Option Chain :=
  match op with
  | .put | .patch =>
    match imgRouteAction image with
    | some .new => some staged
    | some .keep => old
    | _ => none
  | .remove => none
  | .hide | .show | .load | .clear => old

/-- The old chain returns to the free set, unless it stays with the entry (R14). -/
def releaseOld (op : Op) (image : Mem) (old : Option Chain) (r : RouteStore) : RouteStore :=
  match op, old with
  | .put, some chain | .patch, some chain => if imgRouteAction image = some .keep then r else r.release chain
  | .remove, some chain => r.release chain
  | _, _ => r

/-- The content image after a commit (R7). -/
def newImage (op : Op) (staged old : Mem) : Mem :=
  match op with
  | .put | .patch => staged
  | .remove => []
  | .hide | .show | .load | .clear => old

/-- An entry commit starts (R35): DT, RS, ST, EU and OL take it in one step, and EC is given the notice. -/
def State.entryCommit (s : State) (x : Txn) : State :=
  let e := s.entry x.number
  let new := stateAfter x.op e.state
  let t := s.setEntry x.number
    ⟨new, e.generation + 1, newImage x.op s.staged e.image, newRoute x.op s.staged e.route s.update.chain⟩
  let t := { t with routes := releaseOld x.op s.staged e.route t.routes }
  let t := t.modUpdate (fun u => { u with chain := Chain.empty })
  let t := { t with orders := { t.orders with reposition := some ⟨x.number, e.state, new⟩ } }
  ((t.commitNotice x.number new).raiseAll .directoryChanged).noticeEntry x.number

end Sys2Proof.Machine
end

