-- ==== Sys2Proof/Machine/Directory.lean ====
section
/-! DEFINITION. The Order Lists (R48 to R52) and the directory queries (R56 to R63), with the answers to held requests. -/

namespace Sys2Proof.Machine

/-! ### The order -/

/-- A key is less than another (R50): the smaller code at the first difference, or a proper prefix. -/
def keyLess : List Nat → List Nat → Bool
  | [], [] => false
  | [], _ :: _ => true
  | _ :: _, [] => false
  | a :: as, b :: bs => if a = b then keyLess as bs else decide (a < b)

/-- The key of entry `n` in list `l` (R49). -/
def State.key (s : State) (l : Fin 4) (n : Nat) : List Nat := imgKey (s.entry n).image l

/-- Entry `m` stands before entry `n` in list `l`: by key, then by entry number (R48, R50). -/
def State.before (s : State) (l : Fin 4) (m n : Nat) : Bool :=
  keyLess (s.key l m) (s.key l n) || (decide (s.key l m = s.key l n) && decide (m < n))

/-- An entry inserted at the place the order gives (R51). -/
def State.insertEntry (s : State) (l : Fin 4) (n : Nat) : List Nat → List Nat
  | [] => [n]
  | m :: ms => if s.before l n m then n :: m :: ms else m :: s.insertEntry l n ms

/-- A list after a reposition (R51): removed if the old state was LIVE, then inserted if the new state is LIVE. -/
def State.repositioned (s : State) (r : Reposition) (l : Fin 4) : List Nat :=
  let list := s.orders.lists[l]
  let removed := if r.old = .live then list.filter (fun m => m != r.entry) else list
  if r.new = .live then s.insertEntry l r.entry removed else removed

/-! ### Answers -/

/-- `n` code positions of two bytes: the codes, then 00h (R197). -/
def codePositions (n : Nat) (codes : List Nat) : Bytes := codes.flatMap word16Of ++ List.replicate (2 * (n - codes.length)) 0

/-- The results of READ_ENTRY for an entry that is not FREE (R57, R58, R199). -/
def State.entryResults (s : State) (n : Nat) (l : Fin 4) : Bytes :=
  let e := s.entry n
  let m := e.image
  let name := imgKey m l
  [e.state.code, e.generation] ++ Word16.bytes s.update.count
    ++ [byteOf (imgUnit m).length] ++ codePositions 6 (imgUnit m)
    ++ [byteOf (imgLevel m), byteOf (imgCategory m), m.read 15]
    ++ word16Of (imgAnchorX m) ++ word16Of (imgAnchorY m)
    ++ [byteOf (s.routeOf e).length, if (imgName m l).isSome then 0x00 else 0x01]
    ++ [byteOf name.length] ++ codePositions 24 name

/-- READ_ENTRY's answer (R57): OK, or NOT_LIVE for a FREE entry with state, generation and commit count alone. -/
def State.readEntryAnswer (s : State) (n : Nat) (l : Fin 4) : ReplyCode × Bytes :=
  let e := s.entry n
  if e.state = .free then (.notLive, [e.state.code, e.generation] ++ Word16.bytes s.update.count)
  else (.ok, s.entryResults n l)

/-- An entry matches a category filter (R59). -/
def State.matchesFilter (s : State) (filter : Option Nat) (n : Nat) : Bool :=
  match filter with
  | none => true
  | some k => decide (imgCategory (s.entry n).image = k)

/-- The tuples of LIST_WINDOW (R60): entry number and position, from the start position, in ascending order of position. -/
def State.windowTuples (s : State) (l : Fin 4) (start count : Nat) (filter : Option Nat) : List (Nat × Nat) :=
  ((s.orders.lists[l].zipIdx.drop start).filter (fun p => s.matchesFilter filter p.1)).take count

/-- The bytes of a tuple: position, entry, generation (R199). -/
def State.tupleBytes (s : State) (p : Nat × Nat) : Bytes := word16Of p.2 ++ word16Of p.1 ++ [(s.entry p.1).generation]

/-- The results of LIST_WINDOW (R60, R199). -/
def State.windowResults (s : State) (l : Fin 4) (start count : Nat) (filter : Option Nat) : Bytes :=
  let tuples := s.windowTuples l start count filter
  word16Of s.orders.lists[l].length ++ Word16.bytes s.update.count ++ [byteOf tuples.length] ++ tuples.flatMap s.tupleBytes

/-- The lower-bound position of a prefix in list `l` (R62). -/
def State.lowerBound (s : State) (l : Fin 4) (pre : List Nat) : Nat :=
  s.orders.lists[l].findIdx (fun n => !keyLess (s.key l n) pre)

/-- The match flag of a prefix in list `l` (R62). -/
def State.prefixFound (s : State) (l : Fin 4) (pre : List Nat) : Bool :=
  match s.orders.lists[l][s.lowerBound l pre]? with
  | some n => pre.isPrefixOf (s.key l n)
  | none => false

/-- The results of FIND_PREFIX (R62, R199). -/
def State.prefixResults (s : State) (l : Fin 4) (pre : List Nat) : Bytes :=
  word16Of (s.lowerBound l pre) ++ [if s.prefixFound l pre then 0x01 else 0x00] ++ word16Of s.orders.lists[l].length
    ++ Word16.bytes s.update.count

/-- A request that may be held, answered from the state as it stands (R53, R54, R81, R156, R157). -/
def State.answerRequest (s : State) (f : Face) (h : HeldRequest) : State :=
  match h with
  | .readEntry n l => s.answer f (s.readEntryAnswer n l).1 0x10 (s.readEntryAnswer n l).2
  | .listWindow l start count filter => s.answer f .ok 0x11 (s.windowResults l start count filter)
  | .findPrefix l codes => s.answer f .ok 0x12 (s.prefixResults l codes)
  | .readSlots => s.answer f .ok 0x40 (s.face f).slotResults
  | .hitTest x y => s.answer f .ok 0x41 ((s.face f).hitResults x y)
  | .resetFace => s.applyReset f

/-- A directory query (R53). -/
def HeldRequest.isQuery : HeldRequest → Bool
  | .readEntry _ _ | .listWindow _ _ _ _ | .findPrefix _ _ => true
  | .readSlots | .hitTest _ _ | .resetFace => false

/-- The held request of a face, answered if it is of a kind. -/
def State.answerHeld (which : HeldRequest → Bool) (s : State) (f : Face) : State :=
  match (s.face f).port.inProgress with
  | some h => if which h then s.answerRequest f h else s
  | none => s

/-- The held requests of every face, answered if they are of a kind. -/
def State.answerAllHeld (s : State) (which : HeldRequest → Bool) : State :=
  [(0 : Face), 1, 2, 3].foldl (State.answerHeld which) s

/-- The lists take their new content, and no reposition is in flight (R52). -/
def State.listsMoved (s : State) (r : Reposition) : State :=
  { s with orders := ⟨Vector.ofFn (fun l : Fin 4 => s.repositioned r l), none⟩ }

/-- REPOSITION_DONE (R52): the lists take their new content, the commit is done, and the held queries are answered (R53). -/
def execRepositionDone (s : State) : Answer :=
  .next (
    match s.orders.reposition with
    | some r => ((s.listsMoved r).commitDone).answerAllHeld HeldRequest.isQuery
    | none => s)

end Sys2Proof.Machine
end

