-- ==== Sys2Proof/Machine/Supervision.lean ====
section
/-! DEFINITION. The Face Supervisor (R162 to R170): the timers' expiries and what KICK does. -/

namespace Sys2Proof.Machine

/-- The wait timer at its start; supervision with the wait time OFF starts none (R162). -/
def Settings.waitTimer (c : Settings) : Timer :=
  match c.waitMs with
  | some ms => .running ms
  | none => .stopped

/-- A change to the supervisor record of a face. -/
def State.modSupervisor (s : State) (f : Face) (g : Supervisor → Supervisor) : State :=
  s.modFace f (fun c => { c with supervisor := g c.supervisor })

/-- A face's supervisor entered PULSE: if the face holds the engine, its segment's end will halt the queue (R90, log 30). -/
def State.notePulse (s : State) (f : Face) : State :=
  { s with engine := { s.engine with segment := s.engine.segment.map (fun g => if g.face = f then { g with pulsed := true } else g) } }

/-- A context withdrawn (R165): PULSE with the pulse time, no request in progress and no reply, the queue halted. -/
def FaceContext.withdraw (c : FaceContext) (pulseMs : Nat) : FaceContext :=
  { c with
    supervisor := { c.supervisor with state := .pulse, timer := .running pulseMs }
    port := { c.port with inProgress := none, reply := none }
    queue := c.queue.haltedBy .withdrawn }

/-- Withdrawal of a face (R165). -/
def State.withdraw (s : State) (f : Face) : State :=
  ((s.modFace f (fun c => c.withdraw s.settings.pulseMs)).notePulse f).arbitrate

/-- The supervisor of a face is in a state with its timer running. -/
def State.supervises (s : State) (f : Face) (st : SupState) : Bool :=
  decide ((s.face f).supervisor.state = st) &&
    (match (s.face f).supervisor.timer with
     | .running _ => true
     | .stopped => false)

/-- WAIT_TIME_EXPIRY in WATCH (R165). -/
def execWaitTimeExpiry (f : Face) (s : State) : Answer := .next (if s.supervises f .watch then s.withdraw f else s)

/-- PULSE_TIME_EXPIRY in PULSE (R166). -/
def execPulseTimeExpiry (f : Face) (s : State) : Answer :=
  .next (
    if s.supervises f .pulse then
      s.modSupervisor f (fun v => { v with state := .recovery, timer := .running s.settings.windowMs })
    else s)

/-- The recovery window expired (R167): the count increases; below the limit another pulse, at the limit DISABLED. A queue that is
HALTED keeps its halt reason at this entry to PULSE (log 32). -/
def State.windowExpired (s : State) (f : Face) : State :=
  let count := (s.face f).supervisor.pulses + 1
  if count < s.settings.pulseLimit then
    (s.modSupervisor f (fun _ => ⟨.pulse, .running s.settings.pulseMs, count⟩)).notePulse f
  else s.modSupervisor f (fun _ => ⟨.disabled, .stopped, count⟩)

/-- RECOVERY_WINDOW_EXPIRY in RECOVERY (R167). -/
def execRecoveryWindowExpiry (f : Face) (s : State) : Answer :=
  .next (if s.supervises f .recovery then s.windowExpired f else s)

/-- Readmission (R168): WATCH, count 0, the full wait time, RECOVERED raised. -/
def State.readmit (s : State) (f : Face) : State :=
  (s.modSupervisor f (fun _ => ⟨.watch, s.settings.waitTimer, 0⟩)).raise f .recovered

/-- KICK as FS takes it, with the reply code (R163). -/
def State.kicked (s : State) (f : Face) : State × ReplyCode :=
  match (s.face f).supervisor.state with
  | .off => (s, .ok)
  | .watch => (s.modSupervisor f (fun v => { v with timer := s.settings.waitTimer }), .ok)
  | .pulse => (s, .state)
  | .recovery | .disabled => (s.readmit f, .ok)

end Sys2Proof.Machine
end

