-- ==== Sys2Proof/Machine/Ports.lean ====
section
/-! DEFINITION. The face ports: transactions, the port's checks (R69 to R74), and every request of R199. -/

namespace Sys2Proof.Machine

/-! ### The port -/

/-- What a transaction shifts out on FPn_DO (R69). -/
def State.shiftOut (s : State) (f : Face) (bs : Bytes) : State :=
  s.modFace f (fun c => { c with port := { c.port with dataOut := bs } })

/-- A request transaction shifts out the status byte and then 00h (R69, R70). -/
def State.requestShift (s : State) (f : Face) (x : Transfer) : State :=
  s.shiftOut f (s.statusByte f :: List.replicate x.bytes.length 0)

/-- The lengths a request's form allows after the request code (R199). -/
def lengthAllowed (code : Byte) (n : Nat) : Bool :=
  match code.toNat with
  | 0x04 => decide (n = 2) | 0x10 => decide (n = 3) | 0x11 => decide (n = 5) | 0x12 => decide (n = 14)
  | 0x20 => decide (n = 17 ∨ n = 33 ∨ n = 49 ∨ n = 65)
  | 0x21 => decide (n = 2) | 0x22 => decide (n = 1)
  | 0x25 => decide (3 ≤ n ∧ n ≤ 66)
  | 0x30 => decide (n = 10) | 0x31 => decide (n = 1)
  | 0x32 => decide (4 ≤ n ∧ n ≤ 49 ∧ n % 3 = 1)
  | 0x41 => decide (n = 4)
  | _ => decide (n = 0)

/-- The requests taken while the face is withdrawn: STATUS, KICK and READ_EVENTS (R74). -/
def takenWithdrawn (code : Byte) : Bool := decide (code = 0x01 ∨ code = 0x02 ∨ code = 0x03)

/-- The refusal of the port's checks in the order of R74, once the face is in service: BUSY, FORMAT for an unknown code,
WITHDRAWN, FORMAT for a wrong length. -/
def State.portRefusal (s : State) (f : Face) (code : Byte) (known : Bool) (n : Nat) : Option ReplyCode :=
  if (s.face f).port.inProgress.isSome then some .busy
  else if !known then some .format
  else if s.withdrawn f && !takenWithdrawn code then some .withdrawn
  else if !lengthAllowed code n then some .format
  else none

/-- A request that passes the port's checks: the reply slot is emptied as it is taken (R71). -/
def State.takeRequest (s : State) (f : Face) : State :=
  s.modFace f (fun c => { c with port := { c.port with reply := none } })

/-- A request transaction (R69, R74): the shift, the port's checks, and the owner. -/
def State.request (s : State) (f : Face) (code : Byte) (known : Bool) (x : Transfer) (own : State → State) : State :=
  let t := s.requestShift f x
  if !s.loadEnded then t.fillReply f .notReady code []
  else if !s.enabled f then t
  else
    match s.portRefusal f code known x.bytes.length with
    | some r => t.fillReply f r code []
    | none => own (t.takeRequest f)

/-! ### Requests of the face context, the supervisor and the event unit -/

/-- The results of STATUS (R76, R199). -/
def State.statusResults (s : State) (f : Face) : Bytes :=
  let c := s.face f
  [c.queue.state.code, haltCode c.queue.halt, c.supervisor.state.code, s.evac.state.code] ++ Word16.bytes s.update.count

/-- STATUS (R76). -/
def execStatus (f : Face) (x : Transfer) (s : State) : Answer :=
  .next (s.request f 0x01 true x (fun t => t.answer f .ok 0x01 (t.statusResults f)))

/-- KICK (R163). -/
def execKick (f : Face) (x : Transfer) (s : State) : Answer :=
  .next (s.request f 0x02 true x (fun t => (t.kicked f).1.answer f (t.kicked f).2 0x02 []))

/-- The latch read whole and emptied, and the reply filled without REPLY_READY (R160). The set's unused bits 15 to 12 are 0 (log 40). -/
def FaceContext.eventsRead (c : FaceContext) : FaceContext :=
  { c with latch := 0, port := { c.port with inProgress := none, reply := some ⟨.ok, 0x03, Word16.bytes (c.latch.setWidth 16)⟩ } }

/-- READ_EVENTS (R160). -/
def execReadEvents (f : Face) (x : Transfer) (s : State) : Answer :=
  .next (s.request f 0x03 true x (fun t => t.modFace f FaceContext.eventsRead))

/-- SET_MASK (R161): the mask is replaced, and then the reply is filled. -/
def execSetMask (f : Face) (x : Transfer) (s : State) : Answer :=
  .next (s.request f 0x04 true x (fun t =>
    (t.modFace f (fun c => { c with mask := BitVec.ofNat 12 (num16 x.bytes 0) })).answer f .ok 0x04 []))

/-- SET_LANGUAGE (R78). -/
def execSetLanguage (f : Face) (x : Transfer) (s : State) : Answer :=
  .next (s.request f 0x31 true x (fun t =>
    match finOf 4 (num x.bytes 0) with
    | none => t.answer f .range 0x31 []
    | some l => (t.modFace f (fun c => { c with language := l })).answer f .ok 0x31 []))

/-- The map window of a SET_MAP (R199). -/
def windowOf (bs : Bytes) : MapWindow :=
  ⟨num16 bs 0, num16 bs 2, num16 bs 4, num16 bs 6, num bs 8, num bs 9⟩

/-- The route slot is DRAWING, DRAWN or STALE, which keeps the map window fixed (R79). -/
def windowFixed : Option RouteRecord → Bool
  | some r => decide (r.state = .drawing ∨ r.state = .drawn ∨ r.state = .stale)
  | none => false

/-- SET_MAP (R79). -/
def execSetMap (f : Face) (x : Transfer) (s : State) : Answer :=
  .next (s.request f 0x30 true x (fun t =>
    if !(windowOf x.bytes).inRange then t.answer f .range 0x30 []
    else if windowFixed (t.face f).route then t.answer f .state 0x30 []
    else (t.modFace f (fun c => { c with window := windowOf x.bytes })).answer f .ok 0x30 []))

/-- A queue that runs no segment and has none waiting: IDLE or HALTED. -/
def Queue.atRest (q : Queue) : Bool := decide (q.state = .idle ∨ q.state = .halted)

/-- WRITE_IMAGE (R80). -/
def execWriteImage (f : Face) (x : Transfer) (s : State) : Answer :=
  .next (s.request f 0x25 true x (fun t =>
    if !(t.face f).queue.atRest then t.answer f .busy 0x25 []
    else if Config.imageBytes < num16 x.bytes 0 + (x.bytes.length - 2) then t.answer f .range 0x25 []
    else (t.modFace f (fun c => { c with image := c.image.writeBytes (num16 x.bytes 0) (x.bytes.drop 2) })).answer
      f .ok 0x25 []))

/-- A palette's pending writes after a SET_PALETTE of `n` colours from entry `first` (R139). -/
def paletteWrites (p : Vector (Option Rgb) 16) (first n : Nat) (bs : Bytes) : Vector (Option Rgb) 16 :=
  Vector.ofFn (fun i : Fin 16 =>
    if first ≤ i.val ∧ i.val < first + n then
      some (bs.getD (1 + 3 * (i.val - first)) 0 ++ bs.getD (2 + 3 * (i.val - first)) 0 ++ bs.getD (3 + 3 * (i.val - first)) 0)
    else p[i])

/-- SET_PALETTE (R139). -/
def execSetPalette (f : Face) (x : Transfer) (s : State) : Answer :=
  .next (s.request f 0x32 true x (fun t =>
    if 15 < num x.bytes 0 ∨ 16 < num x.bytes 0 + (x.bytes.length - 1) / 3 then t.answer f .range 0x32 []
    else (t.modFace f (fun c =>
      { c with palette := { c.palette with
          pending := paletteWrites c.palette.pending (num x.bytes 0) ((x.bytes.length - 1) / 3) x.bytes } })).answer
      f .ok 0x32 []))

/-- RESET_FACE (R81): held while the face or a purge holds the engine, applied at once otherwise. -/
def execResetFace (f : Face) (x : Transfer) (s : State) : Answer :=
  .next (s.request f 0x50 true x (fun t =>
    if t.faceHolds f || t.purgeHolds then t.hold f .resetFace else (t.applyReset f).arbitrate))

/-! ### Directory queries -/

/-- A directory query that has passed its checks: held during a reposition and while a purge holds the engine (R44, R53). -/
def State.takeQuery (s : State) (f : Face) (h : HeldRequest) : State :=
  if s.orders.reposition.isSome || s.purgeHolds then s.hold f h else s.answerRequest f h

/-- The query of a READ_ENTRY, none where a parameter is out of range (R56). -/
def readEntryQuery (bs : Bytes) : Option HeldRequest :=
  match within 0 1023 (num16 bs 0), finOf 4 (num bs 2) with
  | some n, some l => some (.readEntry n l)
  | _, _ => none

/-- A category filter: FFh for ANY, or 0 to 63 (R56, R198). -/
def filterOf (k : Nat) : Option (Option Nat) :=
  if k = 0xFF then some none else if k ≤ 63 then some (some k) else none

/-- The query of a LIST_WINDOW, none where a parameter is out of range (R56). -/
def listWindowQuery (bs : Bytes) : Option HeldRequest :=
  match finOf 4 (num bs 0), within 1 8 (num bs 3), filterOf (num bs 4) with
  | some l, some count, some filter => some (.listWindow l (num16 bs 1) count filter)
  | _, _, _ => none

/-- The query of a FIND_PREFIX, none where a parameter is out of range (R56). -/
def findPrefixQuery (bs : Bytes) : Option HeldRequest :=
  match finOf 4 (num bs 0), within 1 6 (num bs 1) with
  | some l, some n =>
    let codes := (List.range n).map (fun i => num16 bs (2 + 2 * i))
    if codes.all (fun c => decide (c < 4096)) then some (.findPrefix l codes) else none
  | _, _ => none

/-- A directory query of a request code: refused with RANGE, or taken (R56). -/
def State.query (s : State) (f : Face) (code : Byte) (q : Option HeldRequest) : State :=
  match q with
  | none => s.answer f .range code []
  | some h => s.takeQuery f h

/-- READ_ENTRY (R57). -/
def execReadEntry (f : Face) (x : Transfer) (s : State) : Answer :=
  .next (s.request f 0x10 true x (fun t => t.query f 0x10 (readEntryQuery x.bytes)))

/-- LIST_WINDOW (R60). -/
def execListWindow (f : Face) (x : Transfer) (s : State) : Answer :=
  .next (s.request f 0x11 true x (fun t => t.query f 0x11 (listWindowQuery x.bytes)))

/-- FIND_PREFIX (R62). -/
def execFindPrefix (f : Face) (x : Transfer) (s : State) : Answer :=
  .next (s.request f 0x12 true x (fun t => t.query f 0x12 (findPrefixQuery x.bytes)))

/-! ### The slots -/

/-- A request that reads the Slot Tracker: held while a purge holds the engine (R44, R156, R157). -/
def State.takeSlotRead (s : State) (f : Face) (h : HeldRequest) : State :=
  if s.purgeHolds then s.hold f h else s.answerRequest f h

/-- READ_SLOTS (R156). -/
def execReadSlots (f : Face) (x : Transfer) (s : State) : Answer :=
  .next (s.request f 0x40 true x (fun t => t.takeSlotRead f .readSlots))

/-- HIT_TEST (R157): a point off the face is refused at once (log 13). -/
def execHitTest (f : Face) (x : Transfer) (s : State) : Answer :=
  .next (s.request f 0x41 true x (fun t =>
    if 1079 < num16 x.bytes 0 ∨ 1919 < num16 x.bytes 2 then t.answer f .range 0x41 []
    else t.takeSlotRead f (.hitTest (num16 x.bytes 0) (num16 x.bytes 2))))

/-! ### The queue -/

/-- The cells of a WRITE_CELLS touch the active range of a queue that is not at rest (R85). -/
def Queue.writeBusy (q : Queue) (first : Fin 16) (n : Nat) : Bool :=
  !q.atRest &&
    (match q.range with
     | some r => (writtenCells first n).any r.holds
     | none => false)

/-- WRITE_CELLS (R85). -/
def execWriteCells (f : Face) (x : Transfer) (s : State) : Answer :=
  .next (s.request f 0x20 true x (fun t =>
    match finOf 16 (num x.bytes 0) with
    | none => t.answer f .range 0x20 []
    | some first =>
      if (t.face f).queue.writeBusy first ((x.bytes.length - 1) / 16) then t.answer f .busy 0x20 []
      else (t.modQueue f (fun q =>
        { q with ring := writeCellsAt q.ring first ((x.bytes.length - 1) / 16) (x.bytes.drop 1) })).answer f .ok 0x20 []))

/-- START (R87). -/
def execStart (f : Face) (x : Transfer) (s : State) : Answer :=
  .next (s.request f 0x21 true x (fun t =>
    match finOf 16 (num x.bytes 0), finOf 16 (num x.bytes 1) with
    | some first, some last =>
      if t.evac.state ≠ .normal then t.answer f .evac 0x21 []
      else if !(t.face f).queue.atRest then t.answer f .state 0x21 []
      else ((t.modQueue f (fun q => q.started first last)).answer f .ok 0x21 []).arbitrate
    | _, _ => t.answer f .range 0x21 []))

/-- APPEND's extension of a range to a new last cell (R88). -/
def ActiveRange.extension (r : ActiveRange) (last : Fin 16) : Nat := (last - r.last).val

/-- A queue that APPEND extends: PENDING, RUNNING or WAITING with the stop request clear, and its range (R88). -/
def Queue.extendable (q : Queue) : Option ActiveRange :=
  match q.state with
  | .pending | .running | .waiting => if q.stop then none else q.range
  | .idle | .halted => none

/-- APPEND (R88). -/
def execAppend (f : Face) (x : Transfer) (s : State) : Answer :=
  .next (s.request f 0x22 true x (fun t =>
    match finOf 16 (num x.bytes 0) with
    | none => t.answer f .range 0x22 []
    | some last =>
      if t.evac.state ≠ .normal then t.answer f .evac 0x22 []
      else
        match (t.face f).queue.extendable with
        | none => t.answer f .state 0x22 []
        | some r =>
          if 16 < r.count + r.extension last then t.answer f .range 0x22 []
          else (t.modQueue f (fun q => { q with range := some { r with last := last } })).answer f .ok 0x22 []))

/-- STOP's effect on the queue of a face (R89). -/
def State.stopQueue (s : State) (f : Face) : State :=
  match (s.face f).queue.state with
  | .idle => s
  | .pending | .waiting | .halted => (s.modQueue f Queue.idled).raise f .queueIdle
  | .running => s.modQueue f (fun q => { q with stop := true })

/-- STOP (R89). -/
def execStop (f : Face) (x : Transfer) (s : State) : Answer :=
  .next (s.request f 0x23 true x (fun t => ((t.stopQueue f).answer f .ok 0x23 []).arbitrate))

/-- The results of READ_FAULT: present, queue cell, depth, template, template cell, reason (R94, R104, R199). -/
def faultBytes : Option FaultRecord → Bytes
  | none => [0]
  | some r =>
    [1, byteOf r.cell.val, byteOf r.depth] ++
      (match r.top with
       | some (t, i) => [byteOf t, byteOf i.val]
       | none => [0xFF, 0xFF]) ++ [r.reason.code]

/-- READ_FAULT (R94). -/
def execReadFault (f : Face) (x : Transfer) (s : State) : Answer :=
  .next (s.request f 0x24 true x (fun t => t.answer f .ok 0x24 (faultBytes (t.face f).queue.fault)))

/-! ### FETCH and unknown codes -/

/-- What a FETCH shifts out after the status byte (R73): the reply and then 00h; 00h alone with no reply, and in NOT_READY and
ABSENT. -/
def State.fetchBytes (s : State) (f : Face) (clocked : Nat) : Bytes :=
  match (s.loadEnded && s.enabled f), (s.face f).port.reply with
  | true, some r => (r.bytes ++ List.replicate clocked 0).take clocked
  | _, _ => List.replicate clocked 0

/-- FETCH (R73): the reply slot is empty afterwards, however many bytes were clocked; not taken in NOT_READY and ABSENT. -/
def execFetch (f : Face) (clocked : Nat) (s : State) : Answer :=
  let t := s.shiftOut f (s.statusByte f :: s.fetchBytes f clocked)
  .next (if s.loadEnded && s.enabled f then t.takeRequest f else t)

/-- UNKNOWN_REQUEST_CODE (R74): a code that names no request is refused with FORMAT. -/
def execUnknownRequestCode (f : Face) (code : Byte) (x : Transfer) (s : State) : Answer :=
  .next (s.request f code false x (fun t => t))

end Sys2Proof.Machine
end

