-- ==== Sys2Proof/Machine/Segments.lean ====
section
/-! DEFINITION. Segments of the Draw Engine (R96 to R114, R116 to R131): the grant, the cells of templates, pixel groups, and the
segment end. -/

namespace Sys2Proof.Machine

/-- A change to the current segment. -/
def State.modSegment (s : State) (g : Segment → Segment) : State :=
  { s with engine := { s.engine with segment := s.engine.segment.map g } }

/-- The stage of the current segment replaced. -/
def State.setStage (s : State) (st : Stage) : State := s.modSegment (fun g => { g with stage := st })

/-- A check or a piece of work of the current segment has failed; the fault is due (R103, log 14). -/
def State.failSegment (s : State) (r : FaultReason) : State := s.setStage (.failed r)

/-! ### The include stack -/

/-- The include stack of a face replaced. -/
def State.setStack (s : State) (f : Face) (stack : List Level) : State := s.modQueue f (fun q => { q with stack := stack })

/-- A level pushed (R97): cell 0, budget 32, the use count one more, the template among those the segment has entered. -/
def State.pushLevel (s : State) (f : Face) (t x y : Nat) (ret : Option (Fin 16)) : State :=
  let u := s.setStack f (⟨t, 0, ret, x, y, Config.levelBudget⟩ :: (s.face f).queue.stack)
  let u := u.useTemplate t (fun n => n + 1)
  let u := { u with templates := { u.templates with entered := u.templates.entered.insert t } }
  u.setStage .expanding

/-- A CARD or CALL enters its template (R97): DEPTH, NO_TEMPLATE, a wait for a copy in flight, or the push. -/
def State.enterTemplate (s : State) (f : Face) (t x y : Nat) (ret : Option (Fin 16)) : State :=
  if Config.maxDepth ≤ (s.face f).queue.stack.length then s.failSegment .depth
  else if (s.template t).cells.isNone then s.failSegment .noTemplate
  else if s.templates.copying = some t then s.setStage (.pushing t x y ret)
  else s.pushLevel f t x y ret

/-- A push that waited for a copy takes place at copy done (R97, R113). -/
def State.resumePush (s : State) : State :=
  match s.engine.segment with
  | some g =>
    match g.stage with
    | .pushing t x y ret => if s.templates.copying = some t then s else s.pushLevel g.face t x y ret
    | _ => s
  | none => s

/-- The top level goes on at a cell. -/
def State.gotoCell (s : State) (f : Face) (cell : Fin 16) : State :=
  match (s.face f).queue.stack with
  | l :: ls => s.setStack f ({ l with cell := cell } :: ls)
  | [] => s

/-- The top level goes on at the following cell, modulo 16 (R98). -/
def State.nextCell (s : State) (f : Face) : State :=
  match (s.face f).queue.stack with
  | l :: ls => s.setStack f ({ l with cell := l.cell + 1 } :: ls)
  | [] => s

/-- END pops the top level (R99): its use is returned, the level below goes on at the return cell, and with none below the
queue-level cell has done its work. -/
def State.popLevel (s : State) (f : Face) : State :=
  match (s.face f).queue.stack with
  | l :: below :: ls =>
    (s.setStack f ({ below with cell := l.ret.getD (below.cell + 1) } :: ls)).useTemplate l.template (fun n => n - 1)
  | [l] => ((s.setStack f []).useTemplate l.template (fun n => n - 1)).setStage .finished
  | [] => s

/-! ### Plain drawing -/

/-- A rectangle at an origin (R116). -/
def Rect.moved (r : Rect) (x y : Nat) : Rect := ⟨x + r.x, y + r.y, r.w, r.h⟩

/-- The rectangle lies wholly inside the face (R116). -/
def Rect.inside (r : Rect) : Bool := decide (r.x + r.w ≤ Config.faceWidth ∧ r.y + r.h ≤ Config.faceHeight)

/-- The bytes an image of a size needs (R118). -/
def imageNeeds (w h : Nat) : Nat := (2 * w * h + 7) / 8

/-- A FILL, FRAME or IMAGE that has passed its checks: on the map layer it asks ST to mark the route slot, before its first
pixel group (R119); then its pixels are to be written (R117, R118). -/
def State.drawShape (s : State) (f : Face) (l : Layer) (m : Combine) (shape : Shape) (r : Rect) : State :=
  let t := if l = .map then s.modFace f (fun c => { c with route := routeDisturb c.route }) else s
  t.setJobs (plotJob f l m shape r)

/-- The work of a FILL, FRAME or IMAGE at an origin (R116 to R119), none for any other segment: a fault, or its drawing. -/
def State.plainDraw (s : State) (f : Face) (x y : Nat) : Seg → Option (Except FaultReason State)
  | .fill l m col r =>
    some (if (r.moved x y).inside then .ok (s.drawShape f l m (.solid col) (r.moved x y)) else .error .range)
  | .frame l m col t r =>
    some (if (r.moved x y).inside then .ok (s.drawShape f l m (.outline t col) (r.moved x y)) else .error .range)
  | .image l m keyed r offset =>
    some (
      if !(r.moved x y).inside then .error .range
      else if offset + imageNeeds r.w r.h ≤ Config.imageBytes then
        .ok (s.drawShape f l m (.image offset keyed) (r.moved x y))
      else .error .imageRange)
  | _ => none

/-! ### Routes -/

/-- The erase by XOR of a route slot's copy, through the face's present window and orientation (R129, R130). -/
def State.eraseJobs (s : State) (f : Face) : List Job :=
  match (s.face f).route with
  | some r => routeJob f (s.face f).window s.settings.orientation[f] r.colour r.width r.copy
  | none => []

/-- The ROUTE snapshot (R130 step 3): NOT_LIVE, or the slot becomes DRAWING with the copy and the draw begins. -/
def State.routeSnapshot (s : State) (f : Face) (n : Nat) (colour : Colour) (width : Nat) : State :=
  let e := s.entry n
  if e.state ≠ .live then s.failSegment .notLive
  else
    let copy := s.routeOf e
    let jobs := routeJob f (s.face f).window s.settings.orientation[f] colour width copy
    let t := s.modFace f (fun c => { c with route := some ⟨.drawing, n, e.generation, colour, width, copy⟩ })
    let t := t.setJobs jobs
    t.modSegment (fun g => { g with routed := true, stage := if jobs.isEmpty then .finished else .routing })

/-! ### Queue-level cells -/

/-- The kinds that may run at queue level (R84, R102). -/
def Kind.atQueueLevel : Kind → Bool
  | .textField | .select | .goto | .endLevel => false
  | .fill | .frame | .image | .call | .card | .route | .clearRoute | .clearSlot | .waitFrame => true

/-- The entry snapshot of an entry (R112). -/
def Entry.snapshot (e : Entry) (n : Nat) : Snapshot where
  entry := n
  state := e.state
  generation := e.generation
  unit := imgUnit e.image
  level := imgLevel e.image
  category := imgCategory e.image
  openMark := imgOpenMark e.image
  names := Vector.ofFn (fun l : Fin 4 => imgName e.image l)

/-- The CARD snapshot step and the entry of its template (R124 steps 2 and 3). -/
def State.cardSnapshot (s : State) (f : Face) (n : Nat) (slot : Fin 12) (t : Nat) (r : Rect) : State :=
  let e := s.entry n
  if e.state ≠ .live then s.failSegment .notLive
  else
    let u := s.modFace f (fun c =>
      { c.setCard slot (some ⟨.drawing, n, e.generation, r⟩) with snapshot := some (e.snapshot n) })
    let u := u.modSegment (fun g => { g with card := some slot })
    u.enterTemplate f t r.x r.y none

/-- CLEAR_SLOT (R126): an EMPTY slot draws nothing; another is filled with the background colour. -/
def State.clearSlotWork (s : State) (f : Face) (slot : Fin 12) (colour : Colour) : State :=
  match (s.face f).cards[slot] with
  | none => s.setStage .finished
  | some card => (s.setJobs (plotJob f .card .replace (.solid colour) card.rect)).setStage (.clearing slot)

/-- ROUTE's first work (R130 step 2): the erase of a DRAWN or STALE slot, or the snapshot at once. -/
def State.routeWork (s : State) (f : Face) (n : Nat) (colour : Colour) (width : Nat) : State :=
  if routeErasable (s.face f).route then (s.setJobs (s.eraseJobs f)).setStage .erasing
  else s.routeSnapshot f n colour width

/-- CLEAR_ROUTE (R131): the erase of a DRAWN or STALE slot, or NONE at once. -/
def State.clearRouteWork (s : State) (f : Face) : State :=
  if routeErasable (s.face f).route then (s.setJobs (s.eraseJobs f)).setStage .erasing
  else (s.modFace f (fun c => { c with route := none })).setStage .finished

/-- The work of a queue-level cell whose fields are in range (R111), the origin being (0, 0) (R116). WAIT_FRAME's end is taken
by the grant itself (R91). -/
def State.queueWork (s : State) (f : Face) (seg : Seg) : State :=
  match seg with
  | .fill _ _ _ _ | .frame _ _ _ _ _ | .image _ _ _ _ _ =>
    match s.plainDraw f 0 0 seg with
    | some (.ok t) => t.setStage .drawing
    | some (.error r) => s.failSegment r
    | none => s
  | .call t x y => s.enterTemplate f t x y none
  | .card n slot t r => if r.inside then s.cardSnapshot f n slot t r else s.failSegment .range
  | .route n colour width => s.routeWork f n colour width
  | .clearRoute => s.clearRouteWork f
  | .clearSlot slot colour => s.clearSlotWork f slot colour
  | .waitFrame => s.setStage .finished
  | .textField _ _ _ _ _ _ _ | .select _ _ | .goto _ | .endLevel => s.failSegment .context

/-- The checks on a queue-level cell and its work (R103, R111): kind, placement, fields, work. -/
def State.startCell (s : State) (f : Face) (cell : Bytes) : State :=
  match cellKind cell with
  | none => s.failSegment .badKind
  | some k =>
    if !k.atQueueLevel then s.failSegment .context
    else
      match parseSeg k cell with
      | none => s.failSegment .range
      | some seg => s.queueWork f seg

/-! ### The segment end -/

/-- The fault record of a fault as the stack stands (R104). -/
def faultRecord (cell : Fin 16) (stack : List Level) (r : FaultReason) : FaultRecord :=
  ⟨cell, stack.length, stack.head?.map (fun l => (l.template, l.cell)), r⟩

/-- DE reports the end of a segment to ST (R114, R146, R147). -/
def State.reportEnd (s : State) (g : Segment) (faulted : Bool) : State :=
  s.modFace g.face (fun c =>
    let c := match g.card with
      | some slot => c.endCard slot faulted
      | none => c
    if g.routed then { c with route := routeEnd faulted c.route } else c)

/-- The fault's own effects at QC and EU (R103): the record is filled and SEGMENT_FAULT raised. -/
def State.recordFault (s : State) (g : Segment) (fault : Option FaultReason) : State :=
  match fault with
  | none => s
  | some r =>
    (s.modQueue g.face (fun q => { q with fault := some (faultRecord g.cell q.stack r) })).raise g.face .segmentFault

/-- The halt of a queue that a segment end in TAKEOVER did not leave IDLE (R90, R174). -/
def State.takeoverEnd (s : State) (f : Face) : State :=
  if s.evac.state = .takeover then s.modQueue f (fun q => q.haltedAtEnd .evac) else s

/-- The engine with no segment and no work. -/
def Engine.idle : Engine := ⟨none, [], false⟩

/-- The end of a segment taken by ST, the fault record, the include stack and the snapshot, the engine and the queue, with the halt of
a takeover, in that order (R81, R90, R103, R114). -/
def State.endTaken (s : State) (g : Segment) (fault : Option FaultReason) : State :=
  let t := s.reportEnd g fault.isSome
  let t := t.recordFault g fault
  let t := t.emptyStack g.face
  let t := { t with engine := Engine.idle }
  let t := t.release
  let t := t.queueEnd g.face g.cell ⟨fault, g.pulsed, decide (g.kind = some .waitFrame)⟩
  t.takeoverEnd g.face

/-- A segment end of the face that holds the engine (R90, R114): the end taken, then a deferred template commit (R41), a held
RESET_FACE (R81), and EA's decision (R107). That the commit comes before the reset is the model's choice (log 38). -/
def State.segmentEnd (s : State) (g : Segment) (fault : Option FaultReason) : State :=
  (((s.endTaken g fault).releaseDeferred).applyHeldReset g.face).arbitrate

/-! ### The grant -/

/-- A face's segment begins at its grant (R111): DE reads the next ring cell and the face's language, and checks the cell. A
WAIT_FRAME ends at once (R91). -/
def State.beginSegment (s : State) (f : Face) (i : Fin 16) : State :=
  let cell := (s.face f).queue.cell i
  let g : Segment := ⟨f, i, cellKind cell, (s.face f).language, .finished, none, false, false⟩
  let t := { s with engine := ⟨some g, [], false⟩ }
  if cellKind cell = some .waitFrame then t.segmentEnd g none else t.startCell f cell

/-- FACE_GRANT of a face whose queue claims (R107, R111). -/
def State.faceGrant (s : State) (f : Face) (claims : List Face) : State :=
  match (s.face f).queue.range with
  | some r => (s.grantFace f claims).beginSegment f r.next
  | none => s

/-! ### Template cells -/

/-- The reason for which a kind may not run in a template, given whether the entry snapshot is present (R102). -/
def Kind.templateFault (k : Kind) (snapshot : Bool) : Option FaultReason :=
  match k with
  | .textField | .select => if snapshot then none else some .context
  | .card => if snapshot then some .nestedCard else some .context
  | .route | .clearRoute | .clearSlot | .waitFrame => some .context
  | .fill | .frame | .image | .call | .goto | .endLevel => none

/-- The string of a text field (R120): the name for the language or else for slot 0, or the unit code. -/
def Snapshot.text (n : Snapshot) (field : TextSource) (l : Fin 4) : List Nat :=
  match field with
  | .unit => n.unit
  | .name =>
    match n.names[l] with
    | some codes => codes
    | none => (n.names[(0 : Fin 4)]).getD []

/-- The value of a selector (R100). -/
def Snapshot.select (n : Snapshot) (sel : Selector) (l : Fin 4) : Nat :=
  match sel with
  | .openMark =>
    match n.openMark with
    | .opened => 0
    | .closed => 1
    | .absent => 2
  | .category => n.category % 8
  | .level => n.level
  | .hasName => if (n.names[l]).isSome then 1 else 0

/-- TEXT_FIELD at an origin (R120 to R122): its box must lie inside the face. A field of no position draws nothing. -/
def State.textWork (s : State) (f : Face) (l : Fin 4) (n : Snapshot) (field : TextSource) (m : Combine) (col : Colour)
    (scale x y width : Nat) : State :=
  if !(Rect.mk x y width (glyphSize scale)).inside then s.failSegment .range
  else
    match s.textJob f l m col scale x y width (n.text field l) with
    | [] => s.nextCell f
    | jobs => s.setJobs jobs

/-- The work of a template cell whose fields are in range, at its level's origin (R97 to R100, R116, R120). -/
def State.templateWork (s : State) (f : Face) (language : Fin 4) (top : Level) (seg : Seg) : State :=
  match seg with
  | .fill _ _ _ _ | .frame _ _ _ _ _ | .image _ _ _ _ _ =>
    match s.plainDraw f top.x top.y seg with
    | some (.ok t) => t
    | some (.error r) => s.failSegment r
    | none => s
  | .call t x y => s.enterTemplate f t (top.x + x) (top.y + y) (some (top.cell + 1))
  | .textField field m col scale x y width =>
    match (s.face f).snapshot with
    | some n => s.textWork f language n field m col scale (top.x + x) (top.y + y) width
    | none => s.failSegment .context
  | .select sel n =>
    match (s.face f).snapshot with
    | some sn => s.gotoCell f (top.cell + 1 + Fin.ofNat 16 (min (sn.select sel language) (n - 1)))
    | none => s.failSegment .context
  | .goto cell => s.gotoCell f cell
  | .endLevel => s.popLevel f
  | .card _ _ _ _ | .route _ _ _ | .clearRoute | .clearSlot _ _ | .waitFrame => s.failSegment .context

/-- A template cell reached in the top level (R98, R103): budget, kind, placement, fields, work. -/
def State.templateStep (s : State) (g : Segment) (top : Level) (below : List Level) : State :=
  if top.budget = 0 then s.failSegment .runaway
  else
    let f := g.face
    let t := s.setStack f ({ top with budget := top.budget - 1 } :: below)
    let cell := cellOf ((s.template top.template).cells.getD []) top.cell
    match cellKind cell with
    | none => t.failSegment .badKind
    | some k =>
      match k.templateFault (s.face f).snapshot.isSome with
      | some r => t.failSegment r
      | none =>
        match parseSeg k cell with
        | none => t.failSegment .range
        | some seg => t.templateWork f g.language { top with budget := top.budget - 1 } seg

/-! ### Pixel groups -/

/-- What follows when the last pixel group of a piece of work is written: the level goes on (log 15), a CLEAR_SLOT's slot becomes
EMPTY (R126), or the queue-level cell has done its work. An erase waits for its own end. -/
def State.workDone (s : State) (g : Segment) : State :=
  match g.stage with
  | .expanding => s.nextCell g.face
  | .drawing | .routing => s.setStage .finished
  | .clearing slot => (s.modFace g.face (fun c => c.setCard slot none)).setStage .finished
  | .erasing | .pushing _ _ _ _ | .finished | .failed _ => s

/-- PIXEL_GROUP_WRITE (R113): the next group of the work in hand. -/
def State.pixelGroup (s : State) (count : Nat) : State :=
  let t := s.writeGroup count
  if t.engine.jobs.isEmpty then
    match t.engine.segment with
    | some g => t.workDone g
    | none => t
  else t

/-- ROUTE_ERASE_DONE (R130, R131): the slot becomes NONE; CLEAR_ROUTE has done its work, ROUTE takes its snapshot. -/
def State.eraseDone (s : State) (g : Segment) : State :=
  let t := s.modFace g.face (fun c => { c with route := none })
  match g.kind with
  | some .route =>
    match parseSeg .route ((s.face g.face).queue.cell g.cell) with
    | some (.route n colour width) => t.routeSnapshot g.face n colour width
    | _ => t.failSegment .range
  | _ => t.setStage .finished

/-! ### The commands -/

/-- FACE_GRANT (R107): carries out a decision that chose a face. -/
def execFaceGrant (s : State) : Answer :=
  .next (
    match s.arbiter.holder, s.arbiter.decision with
    | none, some ⟨.face f, claims⟩ => s.faceGrant f claims
    | _, _ => s)

/-- TEMPLATE_CELL_STEP (R98): DE reaches the next cell of the top level. -/
def execTemplateCellStep (s : State) : Answer :=
  .next (
    match s.engine.segment with
    | some g =>
      if g.stage = .expanding ∧ s.engine.jobs.isEmpty then
        match (s.face g.face).queue.stack with
        | top :: below => s.templateStep g top below
        | [] => s
      else s
    | none => s)

/-- PIXEL_GROUP_WRITE (R113): nothing is written with no work in hand, or while GS holds a glyph request. -/
def execPixelGroupWrite (count : Nat) (s : State) : Answer :=
  .next (if s.engine.jobs.isEmpty || s.engine.glyphHeld then s else s.pixelGroup count)

/-- ROUTE_ERASE_DONE (R130). -/
def execRouteEraseDone (s : State) : Answer :=
  .next (
    match s.engine.segment with
    | some g => if g.stage = .erasing ∧ s.engine.jobs.isEmpty then s.eraseDone g else s
    | none => s)

/-- SEGMENT_COMPLETION (R114): a segment whose queue-level cell has done its work completes. -/
def execSegmentCompletion (s : State) : Answer :=
  .next (
    match s.engine.segment with
    | some g => if g.stage = .finished then s.segmentEnd g none else s
    | none => s)

/-- SEGMENT_FAULT (R103): a segment with a failed check or piece of work faults. -/
def execSegmentFault (s : State) : Answer :=
  .next (
    match s.engine.segment with
    | some g =>
      match g.stage with
      | .failed r => s.segmentEnd g (some r)
      | _ => s
    | none => s)

/-- CUTOFF_EXPIRY (R176): EC cuts the segment of the face that holds the engine, if one does. -/
def execCutoffExpiry (s : State) : Answer :=
  .next (
    if s.evac.cutoff.isRunning then
      let t := s.modEvac (fun e => { e with cutoff := .stopped })
      match s.engine.segment with
      | some g => t.segmentEnd g (some .cut)
      | none => t
    else s)

end Sys2Proof.Machine
end

