-- ==== Sys2Proof/Machine/Purge.lean ====
section
/-! DEFINITION. The purge (R44, R45) and the ends of the copies (R36, R37). -/

namespace Sys2Proof.Machine

/-- GLYPH_COPY_DONE (R36). -/
def execGlyphCopyDone (s : State) : Answer :=
  .next (
    match s.glyphs.copying with
    | some p => s.glyphCopied p
    | none => s)

/-- TEMPLATE_COPY_DONE (R37): a push that waited for the copy takes place in the new content (R97). -/
def execTemplateCopyDone (s : State) : Answer :=
  .next (
    match s.templates.copying with
    | some t => (s.templateCopied t).resumePush
    | none => s)

/-- The purge takes the engine, and every queue that is not IDLE is halted (R44). -/
def State.purgeGrant (s : State) : State := (s.grantTo .purge).haltQueues .purged

/-- PURGE_GRANT (R44): carries out a decision that chose the purge. -/
def execPurgeGrant (s : State) : Answer :=
  .next (if s.arbiter.holder = none ∧ s.arbiter.decision.map Decision.chosen = some .purge then s.purgeGrant else s)

/-- Every store at its reset value (R45). -/
def State.clearStores (s : State) : State :=
  { s with
    directory := []
    routes := ⟨[], []⟩
    glyphs := ⟨[], none⟩
    languages := languagesReset
    templates := ⟨[], none, []⟩
    orders := ⟨Vector.replicate 4 [], none⟩
    evac := { s.evac with plans := Vector.replicate 8 none } }

/-- The slots marked and the purge's events raised on every face (R45, R154). -/
def State.purgeNotice (s : State) : State :=
  let t := s.mapFaces (fun f c => c.purgeSlots (s.enabled f))
  ((t.raiseAll .directoryChanged).raiseAll .glyphsChanged).raiseAll .templateChanged

/-- The end of a purge (R45), the requests held behind it (R44, R54, R81), and EA's decision at the release (R107). -/
def State.purgeEnd (s : State) : State :=
  let t := (s.clearStores).purgeNotice
  let t := t.modUpdate (fun u => { u with purging := false, state := .idle, count := u.count + 1, chain := Chain.empty })
  let t := t.release
  (t.answerAllHeld (fun _ => true)).arbitrate

/-- PURGE_END (R45). -/
def execPurgeEnd (s : State) : Answer := .next (if s.purgeHolds then s.purgeEnd else s)

end Sys2Proof.Machine
end

