-- ==== Sys2Proof/Machine/ScanOut.lean ====
section
/-! DEFINITION. Scan-out (R136, R137, R140): frame starts, the choice of the shown palette, and the pixel output. -/

namespace Sys2Proof.Machine

/-- The face palette with its pending writes merged in (R140). -/
def PaletteState.merged (p : PaletteState) : Vector Rgb 16 := Vector.ofFn (fun i : Fin 16 => (p.pending[i]).getD p.own[i])

/-- The shown palette chosen at a frame start (R140). -/
def PaletteState.choose (p : PaletteState) : PaletteState :=
  match p.source with
  | .face => { p with own := p.merged, pending := Vector.replicate 16 none, shown := p.merged }
  | .evacuation => { p with shown := p.evacuation }

/-- A context's frame start at SO: the palette is chosen and the sync interval begins (R136). -/
def FaceContext.frameStart (c : FaceContext) : FaceContext := { c with palette := c.palette.choose, scan := .sync }

/-- A frame start of a face (R136): the palette, the WAITING queue, the sync; a queue left PENDING claims (R106). -/
def State.frameStart (s : State) (f : Face) : State :=
  ((s.modFace f FaceContext.frameStart).waitFrameDone f).arbitrate

/-- FRAME_START of a face (R136); a face that is blank takes none (R143). -/
def execFrameStart (f : Face) (s : State) : Answer := .next (if s.loadEnded && s.enabled f then s.frameStart f else s)

/-- The colour a face shows at a pixel: its value looked up in the shown palette (R134, R137). -/
def State.shownColour (s : State) (f : Face) (x y : Nat) : Rgb := (s.face f).palette.shown[(pixelValue s.planes f x y).toFin]

/-- The pixel output's next moment (R137, R143): rows from the top, each from the left, then the gap to the next frame start. The
sync interval is one moment that ends before the first pixel (log 6). -/
def Scan.next (colour : Nat → Nat → Rgb) : Scan → Scan
  | .blank => .blank
  | .sync => .pixel 0 0 (colour 0 0)
  | .pixel x y _ =>
    if x + 1 < Config.faceWidth then .pixel (x + 1) y (colour (x + 1) y)
    else if y + 1 < Config.faceHeight then .rowGap y
    else .frameGap
  | .rowGap y => .pixel 0 (y + 1) (colour 0 (y + 1))
  | .frameGap => .frameGap

/-- One pixel time of every face's scan (log 6). Each pixel is read as it is scanned, so a group may be split over two frames (log 33). -/
def State.scanTick (s : State) : State := s.mapFaces (fun f c => { c with scan := c.scan.next (s.shownColour f) })

end Sys2Proof.Machine
end

