-- ==== Sys2Proof/Machine/Startup.lean ====
section
/-! DEFINITION. Start-up (chapter 12): the full reset, the configuration read, the clearing of Plane Memory, and the end of the
load (R195). -/

namespace Sys2Proof.Machine

/-- FULL_RESET (R192): the whole part at its full-reset values; the load waits for the release of RESET. The EVAC pin and the
commands still to come are outside the part and stay. -/
def execFullReset (s : State) : Answer := .next (State.fullReset s.pending s.evac.lineLow)

/-- RESET_RELEASE (R192): the load begins, with the 50 ms limit timer. -/
def execResetRelease (s : State) : Answer :=
  .next (
    if s.loader.phase = .held then
      { s with loader := { s.loader with phase := .reading, limit := .running Config.loadLimitMs } }
    else s)

/-- The supervisor record of an enabled face at the end of the load (R162). -/
def Settings.firstSupervisor (c : Settings) : Supervisor :=
  if c.waitMs.isSome then ⟨.recovery, .running c.windowMs, 0⟩ else ⟨.off, .stopped, 0⟩

/-- A context at the end of the load (R195): an enabled face takes its first frame start and its supervisor starts; the reply
slot and the latch of a face not enabled are emptied. -/
def FaceContext.intoService (c : FaceContext) (settings : Settings) (on : Bool) : FaceContext :=
  if on then { c.frameStart with supervisor := settings.firstSupervisor }
  else { c with port := { c.port with reply := none }, latch := 0, scan := .blank, supervisor := ⟨.off, .stopped, 0⟩ }

/-- The end of the load (R195): every block takes its settings and comes into service at one moment. -/
def State.loadEnd (s : State) : State :=
  let t := { s with settings := s.loader.taken, loader := { s.loader with phase := .ended } }
  let t := t.mapFaces (fun f c => c.intoService t.settings (t.enabled f))
  let t := { t with trunk := { t.trunk with rx := .idle } }
  { t with evac := { t.evac with debounce := if t.evac.lineLow then .running Config.lineLowMs else .stopped } }

/-- The load ends once the read has ended and Plane Memory is clear (R192). -/
def State.tryLoadEnd (s : State) : State :=
  if s.loader.phase = .clearing ∧ !s.loader.clearing then s.loadEnd else s

/-- The read ends with a loader state and settings (R192). -/
def State.readEnd (s : State) (st : LoaderState) (taken : Settings) : State :=
  if s.loader.phase = .reading then
    ({ s with loader := { s.loader with state := st, phase := .clearing, limit := .stopped, taken := taken } }).tryLoadEnd
  else s

/-- CONFIG_READ_COMPLETE (R192): LOADED with the settings of the memory if the key matches, else DEFAULTED. -/
def execConfigReadComplete (bytes : Vector Byte 32) (s : State) : Answer :=
  .next (if configKeyOk bytes then s.readEnd .loaded (configSettings bytes) else s.readEnd .defaulted Settings.default)

/-- CONFIG_NO_ACKNOWLEDGE (R192): every default. -/
def execConfigNoAcknowledge (s : State) : Answer := .next (s.readEnd .defaulted Settings.default)

/-- CONFIG_LIMIT_EXPIRY (R192): every default. -/
def execConfigLimitExpiry (s : State) : Answer := .next (s.readEnd .defaulted Settings.default)

/-- PLANE_CLEAR_DONE (R133): every bit of every plane is 0, and a load that waited for it ends. -/
def execPlaneClearDone (s : State) : Answer :=
  .next (
    if s.loader.clearing then
      ({ s with planes := Vector.replicate 4 [], loader := { s.loader with clearing := false } }).tryLoadEnd
    else s)

end Sys2Proof.Machine
end

