-- ==== Sys2Proof/Machine/Crc.lean ====
section
/-! DEFINITION. The check values of the trunk link: CRC-16 over transaction content (R32) and CRC-8 over frames (R188). -/

namespace Sys2Proof.Machine

/-- One bit of the CRC-16: the register's top bit leaves, and the polynomial 1021h comes in where it was set (R32). -/
def crc16Bit (r : Word16) : Word16 := if r.msb then (r <<< 1) ^^^ 0x1021 else r <<< 1

/-- One byte of the CRC-16, most significant bit first (R32). -/
def crc16Byte (r : Word16) (b : Byte) : Word16 :=
  Nat.repeat crc16Bit 8 (r ^^^ ((b.setWidth 16) <<< 8))

/-- The CRC-16 of a byte sequence, register initialised to FFFFh (R32). -/
def crc16 (bs : Bytes) : Word16 := bs.foldl crc16Byte 0xFFFF

/-- One bit of the CRC-8, polynomial 07h (R188). -/
def crc8Bit (r : Byte) : Byte := if r.msb then (r <<< 1) ^^^ 0x07 else r <<< 1

/-- One byte of the CRC-8, most significant bit first (R188). -/
def crc8Byte (r : Byte) (b : Byte) : Byte := Nat.repeat crc8Bit 8 (r ^^^ b)

/-- The CRC-8 of a byte sequence, register initialised to 00h (R188). -/
def crc8 (bs : Bytes) : Byte := bs.foldl crc8Byte 0

end Sys2Proof.Machine
end

