-- ==== Sys2Proof/Machine/Update.lean ====
section
/-! DEFINITION. The Update Controller's frames (R22 to R34, R42, R43): each takes the frame's data and gives the state after it
and the reply. -/

namespace Sys2Proof.Machine

/-- The tag a reply carries (R23): the current transaction's, or else the last-outcome record's. -/
def State.replyTag (s : State) : Word16 :=
  match s.update.txn with
  | some x => x.tag
  | none => s.update.recordTag

/-- ACK with the tag of R23 and the UC state after the frame. -/
def State.ack (s : State) : State × TrunkReply := (s, .ack s.replyTag s.update.state)

/-- NAK with the tag of R23 after the frame. -/
def State.nak (s : State) (r : NakReason) : State × TrunkReply := (s, .nak s.replyTag r)

/-- A frame that belongs to a transaction, in a state that does not take it (R31). -/
def State.nakState (s : State) : State × TrunkReply :=
  match s.update.state with
  | .idle | .staging => s.nak .state
  | .committing | .deferred => s.nak .busy

/-- The last-outcome record takes a tag and an outcome (R46). -/
def State.record (s : State) (tag : Word16) (o : TxnOutcome) : State :=
  s.modUpdate (fun u => { u with recordTag := tag, recordOutcome := o })

/-- The transaction ends without a commit: its staging chain returns to the free set, its image ceases to be held, the record
takes its tag with the outcome, and UC enters IDLE (R14, R22, R46). -/
def State.endTxn (s : State) (o : TxnOutcome) : State :=
  match s.update.txn with
  | some x =>
    let t := { s with routes := s.routes.release s.update.chain }
    (t.modUpdate Update.dropped).record x.tag o
  | none => s

/-! ### OPEN -/

/-- The operations allowed for a target kind (R24). -/
def opAllowed (k : TargetKind) (op : Op) : Bool :=
  match k, op with
  | .entry, .put | .entry, .patch | .entry, .hide | .entry, .show | .entry, .remove => true
  | .template, .load | .template, .clear | .glyphPage, .load | .glyphPage, .clear | .language, .load | .language, .clear
  | .evacPlan, .load | .evacPlan, .clear => true
  | _, _ => false

/-- How many targets a kind has (R24). -/
def TargetKind.count : TargetKind → Nat
  | .entry => 1024
  | .template | .glyphPage => 64
  | .language => 4
  | .evacPlan => 8

/-- An entry operation is allowed from a state (R5). -/
def stateAllows (op : Op) (e : EntryState) : Bool :=
  match op, e with
  | .put, _ => true
  | .patch, .live | .patch, .hidden | .hide, .live | .show, .hidden | .remove, .live | .remove, .hidden => true
  | _, _ => false

/-- The image with which an operation begins, copied from the target at OPEN (R24); none for an operation with no image. -/
def State.startImage (s : State) (k : TargetKind) (n : Nat) (op : Op) : Option Image :=
  match k, op with
  | .entry, .put => some ⟨Config.entryBytes, entryBlank⟩
  | .entry, .patch => some ⟨Config.entryBytes, (s.entry n).image.write 20 0⟩
  | .template, .load => some ⟨Config.templateBytes, ((s.template n).cells).getD []⟩
  | .glyphPage, .load => some ⟨Config.glyphPageBytes, (s.glyphPage n).getD []⟩
  | .language, .load => some ⟨Config.languageBytes, (s.languages[Fin.ofNat 4 n]).getD languageBlank⟩
  | .evacPlan, .load => some ⟨Config.planBytes, (s.evac.plans[Fin.ofNat 8 n]).getD planBlank⟩
  | _, _ => none

/-- A transaction begins in STAGING (R25). -/
def State.beginTxn (s : State) (x : Txn) : State :=
  s.modUpdate (fun u =>
    { u with state := .staging, txn := some x, image := s.startImage x.kind x.number x.op, chain := Chain.empty })

/-- An OPEN of six bytes in IDLE, in the order of R25: kind and operation, range, entry state. -/
def State.openChecked (s : State) (data : Bytes) : State × TrunkReply :=
  let tag : Word16 := BitVec.ofNat 16 (num16 data 0)
  let n := num16 data 3
  match TargetKind.ofCode (data.getD 2 0), Op.ofCode (data.getD 5 0) with
  | some k, some op =>
    if !opAllowed k op then (s.record tag (.refused .format)).nak .format
    else if k.count ≤ n then (s.record tag (.refused .format)).nak .range
    else if k = .entry && !stateAllows op (s.entry n).state then (s.record tag (.refused .state)).nak .state
    else (s.beginTxn ⟨tag, k, n, op⟩).ack
  | _, _ => (s.record tag (.refused .format)).nak .format

/-- OPEN (R25 to R27): in STAGING the staged transaction is displaced first, whatever the checks give. -/
def State.openTxn (s : State) (data : Bytes) : State × TrunkReply :=
  let t := if s.update.state = .staging then s.endTxn .displaced else s
  if data.length ≠ 6 then t.nak .format
  else
    match t.update.state with
    | .committing | .deferred => t.nak .busy
    | .idle | .staging => t.openChecked data

/-! ### CHUNK and WAYPOINTS -/

/-- CHUNK (R28, R31). -/
def State.chunk (s : State) (data : Bytes) : State × TrunkReply :=
  if s.update.state ≠ .staging then s.nakState
  else if data.length < 3 then s.nak .format
  else
    match s.update.image with
    | none => s.nak .state
    | some i =>
      if i.size < num16 data 0 + (data.length - 2) then s.nak .range
      else (s.modUpdate (fun u =>
        { u with image := some { i with bytes := i.bytes.writeBytes (num16 data 0) (data.drop 2) } })).ack

/-- The transaction takes waypoints: an ENTRY PUT or PATCH (R24, R29). -/
def Txn.takesWaypoints (x : Txn) : Bool := decide (x.kind = .entry ∧ (x.op = .put ∨ x.op = .patch))

/-- One waypoint appended to the staging chain, with the lowest free block where one is needed; none where none is free (R13). -/
def stageWaypoint (w : Waypoint) : RouteStore × Chain → Option (RouteStore × Chain)
  | (r, chain) =>
    if chain.count % Config.blockCells = 0 then
      match r.free with
      | b :: _ =>
        some ({ allocated := r.allocated.orderedInsert (· ≤ ·) b, cells := Sparse.write 0 r.cells (Config.blockCells * b) w },
              ⟨chain.blocks ++ [b], chain.count + 1⟩)
      | [] => none
    else
      some ({ r with cells := Sparse.write 0 r.cells
                       (Config.blockCells * chain.blocks.getLastD 0 + chain.count % Config.blockCells) w },
            { chain with count := chain.count + 1 })

/-- The waypoints of a frame in order, none where a needed block is not given: the frame is refused as a whole (R13). -/
def stageWaypoints : List Waypoint → RouteStore × Chain → Option (RouteStore × Chain)
  | [], p => some p
  | w :: ws, p => (stageWaypoint w p).bind (stageWaypoints ws)

/-- The waypoints a WAYPOINTS frame carries. -/
def frameWaypoints (data : Bytes) : List Waypoint := (List.range (data.length / 4)).map (fun i => waypointAt data (4 * i))

/-- WAYPOINTS (R29 to R31). -/
def State.stageFrame (s : State) (data : Bytes) : State × TrunkReply :=
  if s.update.state ≠ .staging then s.nakState
  else if data.length ≠ 4 ∧ data.length ≠ 8 then s.nak .format
  else if !(s.update.txn.any Txn.takesWaypoints) then s.nak .state
  else if Config.maxWaypoints < s.update.chain.count + data.length / 4 then s.nak .range
  else
    match stageWaypoints (frameWaypoints data) (s.routes, s.update.chain) with
    | some (r, chain) => (({ s with routes := r }).modUpdate (fun u => { u with chain := chain })).ack
    | none => (s.endTxn (.refused .space)).nak .space

/-! ### CLOSE -/

/-- The byte sequence that the CRC-16 covers: the staged image, then the staged waypoints in arrival order (R32). -/
def State.crcContent (s : State) : Bytes :=
  (match s.update.image with
   | some i => i.bytes.readBytes 0 i.size
   | none => []) ++ (s.routes.waypoints s.update.chain).flatMap Waypoint.bytes

/-- The format check (R33). -/
def State.formatOk (s : State) (x : Txn) : Bool :=
  match x.kind, x.op with
  | .entry, .put | .entry, .patch => entryImageOk s.staged && routeActionOk x.op s.staged s.update.chain.count
  | .language, .load => languageImageOk s.staged
  | .evacPlan, .load => planImageOk s.staged
  | _, _ => true

/-- A template commit must wait: the template is in use, or the segment that holds the engine has entered it (R34). -/
def State.templateBusy (s : State) (t : Nat) : Bool :=
  decide (0 < (s.template t).use) || s.templates.entered.contains t

/-- The commit of a transaction that passed both checks starts in COMMITTING (R34 to R39). -/
def State.startCommit (s : State) (x : Txn) : State :=
  match x.kind with
  | .entry => s.committing.entryCommit x
  | .template => s.committing.templateCommit x
  | .glyphPage => s.committing.glyphCommit x
  | .language => s.committing.languageCommit x
  | .evacPlan => s.committing.planCommit x

/-- CLOSE (R32 to R34): length, CRC-16, format, then the commit or its deferral. The ACK gives the state entered at the
acceptance, COMMITTING also where the commit ends at once (log 10). -/
def State.close (s : State) (data : Bytes) : State × TrunkReply :=
  match s.update.state, s.update.txn with
  | .staging, some x =>
    if data.length ≠ 2 then s.nak .format
    else if (crc16 s.crcContent).toNat ≠ num16 data 0 then (s.endTxn (.refused .check)).nak .check
    else if !s.formatOk x then (s.endTxn (.refused .format)).nak .format
    else if x.kind = .template ∧ s.templateBusy x.number then
      (s.modUpdate (fun u => { u with state := .deferred })).ack
    else (s.startCommit x, .ack x.tag .committing)
  | _, _ => s.nakState

/-! ### ABANDON and PURGE -/

/-- ABANDON (R31, R42). -/
def State.abandon (s : State) : State × TrunkReply :=
  match s.update.state with
  | .staging | .deferred => (s.endTxn .abandoned).ack
  | .idle | .committing => s.nakState

/-- A purge accepted (R43): the transaction ends with PURGED, the purge is in progress and claims the engine. -/
def State.acceptPurge (s : State) : State :=
  ((s.endTxn .purged).modUpdate (fun u => { u with purging := true, state := .committing })).arbitrate

/-- PURGE (R43), in the order of its table: out of NORMAL it is refused with STATE, also in COMMITTING and during a purge, where
R43's prose and R27 speak of BUSY (log 31). -/
def State.purge (s : State) : State × TrunkReply :=
  if s.evac.state ≠ .normal then s.nak .state
  else if s.update.state = .committing ∨ s.update.purging then s.nak .busy
  else s.acceptPurge.ack

/-! ### ALARM, ALL_CLEAR and POLL -/

/-- ALARM (R173): the trunk source active with the zone, refused above 7. -/
def State.alarm (s : State) (data : Bytes) : State × TrunkReply :=
  match finOf 8 (num data 0) with
  | none => s.nak .range
  | some z =>
    if s.evac.trunkZone = some z then s.ack
    else ((s.modEvac (fun e => { e with trunkZone := some z })).lookSources).ack

/-- ALL_CLEAR (R173): the trunk source inactive. -/
def State.allClear (s : State) : State × TrunkReply :=
  if s.evac.trunkZone = none then s.ack else ((s.modEvac (fun e => { e with trunkZone := none })).lookSources).ack

/-- One bit of a byte set for a face that is enabled (R202); the unused bits 7 to 4 are 0 (log 40). -/
def State.enabledSet (s : State) : Byte :=
  (List.finRange 4).foldl (fun b f => if s.enabled f then b ||| (1#8 <<< f.val) else b) 0

/-- The data of a POLL page (R191, R202), none for a page above 2. -/
def State.pollPage (s : State) (page : Nat) : Option Bytes :=
  match page with
  | 0 => some ([0x00] ++ Word16.bytes s.update.count ++ Word16.bytes s.update.recordTag
               ++ [s.update.recordOutcome.code, s.update.recordOutcome.reasonCode, s.update.state.code])
  | 1 => some ([0x01, s.evac.state.code, byteOf s.shownZone.val]
               ++ (List.finRange 4).map (fun f => (s.face f).supervisor.state.code) ++ [s.enabledSet])
  | 2 => some ([0x02] ++ word16Of s.routes.freeCount
               ++ [byteOf (s.templates.table.countP (fun c => c.2.cells.isSome)),
                   byteOf (s.glyphs.pages.countP (fun c => c.2.isSome)), if s.update.cold then 0x01 else 0x00])
  | _ => none

/-- POLL (R191): the page, read whole; a page above 2 is refused. -/
def State.poll (s : State) (data : Bytes) : State × TrunkReply :=
  match s.pollPage (num data 0) with
  | some page => (s, .state page)
  | none => s.nak .range

end Sys2Proof.Machine
end

