-- ==== Sys2Proof/Machine/TrunkLink.lean ====
section
/-! DEFINITION. The Trunk Interface (chapter 11): the sampling filter, the receiver, the frames it takes and the replies it
sends. -/

namespace Sys2Proof.Machine

/-! ### Receiving -/

/-- A frame dropped: IDLE, with nothing of it kept (R187, log 19). -/
def Trunk.dropped (t : Trunk) : Trunk := { t with rx := .idle, frame := [], bits := 0, bitCount := 0 }

/-- A frame begun or restarted after a sync dip: BODY with an empty buffer (R187). -/
def Trunk.begun (t : Trunk) : Trunk := { t with rx := .body, frame := [], bits := 0, bitCount := 0 }

/-- A byte of the body complete (R187): the address and the length are checked, and the last byte leads to CHECK. -/
def Trunk.bodyByte (own : Byte) (t : Trunk) (b : Byte) : Trunk :=
  let frame := t.frame ++ [b]
  let u := { t with frame := frame, bits := 0, bitCount := 0 }
  if frame.length = 1 then (if b = 0 ∨ b = own then u else t.dropped)
  else if frame.length = 3 ∧ 8 < b.toNat then t.dropped
  else if 3 ≤ frame.length ∧ frame.length = 3 + num frame 2 then { u with rx := .check }
  else u

/-- The frame in a buffer. -/
def takenFrame (bs : Bytes) : Frame := ⟨bs.getD 0 0, bs.getD 1 0, bs.drop 3⟩

/-- The check byte complete (R188): the frame is taken if the CRC-8 agrees, else dropped. -/
def Trunk.checkByte (t : Trunk) (b : Byte) : Trunk × Option Frame :=
  if crc8 t.frame = b then
    ({ t with bits := 0, bitCount := 0, rx := if num t.frame 0 = 0 then .idle else .turnaround }, some (takenFrame t.frame))
  else (t.dropped, none)

/-- A bit added in BODY or CHECK, most significant first (R186, R187). -/
def Trunk.addBit (own : Byte) (t : Trunk) (b : Bool) : Trunk × Option Frame :=
  let bits := (t.bits <<< 1) ||| (if b then 1 else 0)
  if t.bitCount + 1 < 8 then ({ t with bits := bits, bitCount := t.bitCount + 1 }, none)
  else if t.rx = .check then t.checkByte bits
  else (t.bodyByte own bits, none)

/-- An accepted rising edge that ends a dip of a length (R186, R187). -/
def Trunk.dipEnd (own : Byte) (t : Trunk) (dip : Nat) : Trunk × Option Frame :=
  match t.rx with
  | .sync => (if Config.syncDip ≤ dip then t.begun else t.dropped, none)
  | .body | .check =>
    if Config.syncDip ≤ dip then (t.begun, none) else t.addBit own (decide (Config.oneDip ≤ dip))
  | .off | .idle | .turnaround | .reply => (t, none)

/-- An accepted falling edge: in IDLE a dip begins (R187). -/
def Trunk.dipStart (t : Trunk) : Trunk := if t.rx = .idle then { t with rx := .sync } else t

/-- A change of level accepted: the run so far had `len` samples, and the new level has `fresh` (R186). The count of R187 starts
again at this moment (log 19). -/
def Trunk.accept (own : Byte) (t : Trunk) (low : Bool) (len fresh : Nat) : Trunk × Option Frame :=
  let u := { t with low := some low, run := fresh, quiet := 0, other := 0 }
  match t.low, low with
  | some true, false => u.dipEnd own len
  | some false, true => (u.dipStart, none)
  | _, _ => (u, none)

/-- A sample that accepts no edge, with `other` samples in a row of the other level after it: in BODY and CHECK, the 48th since the
last accepted edge drops the frame (R187). Whether the feed is low as IDLE is entered goes by the level accepted last, and the samples
of the other level still count towards the next edge: the model's choice (log 39). -/
def Trunk.timed (t : Trunk) (other : Nat) : Trunk :=
  let u := { t with run := t.run + 1, quiet := t.quiet + 1, other := other }
  if (u.rx = .body ∨ u.rx = .check) ∧ Config.timeoutSamples ≤ u.quiet then u.dropped else u

/-- One sample of the feed with a debounce count of `n` (R186). -/
def Trunk.sample (n : Nat) (own : Byte) (t : Trunk) (low : Bool) : Trunk × Option Frame :=
  if t.low = some low then (t.timed 0, none)
  else
    let other := if t.otherLow = low then t.other + 1 else 1
    if n ≤ other then t.accept own low (t.run + 1 - other) other
    else (({ t with otherLow := low }).timed other, none)

/-- A run of samples of one level, up to the frame that is taken in it. -/
def Trunk.hearRun (n : Nat) (own : Byte) (low : Bool) : Nat → Trunk → Trunk × Option Frame
  | 0, t => (t, none)
  | k + 1, t =>
    match t.sample n own low with
    | (u, none) => u.hearRun n own low k
    | (u, some fr) => (u, some fr)

/-- The runs of a feed, up to the frame that is taken in them; in the states that do not sample, nothing is heard (R187). -/
def Trunk.hear (n : Nat) (own : Byte) : Feed → Trunk → Trunk × Option Frame
  | [], t => (t, none)
  | r :: rs, t =>
    match t.rx with
    | .off | .turnaround | .reply => (t, none)
    | .idle | .sync | .body | .check =>
      match t.hearRun n own r.low r.samples with
      | (u, none) => Trunk.hear n own rs u
      | (u, some fr) => (u, some fr)

/-! ### Replying -/

/-- The kind and data bytes of a reply (R190, R202). -/
def TrunkReply.parts : TrunkReply → Byte × Bytes
  | .ack tag st => (0x81, Word16.bytes tag ++ [st.code])
  | .nak tag r => (0x82, Word16.bytes tag ++ [r.code])
  | .state page => (0x83, page)

/-- A reply as sent: kind, length, data and the CRC-8 over them (R190). -/
def TrunkReply.bytes (r : TrunkReply) : Bytes :=
  let body := r.parts.1 :: byteOf r.parts.2.length :: r.parts.2
  body ++ [crc8 body]

/-- A bit of a reply as a pulse, in quarter bit times (R190). -/
def bitPulse (b : Bool) : Pulse := if b then ⟨4, 4⟩ else ⟨1, 4⟩

/-- A byte of a reply as pulses, most significant bit first (R190). -/
def bytePulses (b : Byte) : List Pulse := (List.range 8).map (fun i => bitPulse (b.getLsbD (7 - i)))

/-- A reply as pulses: sync, then every bit (R190). -/
def replyPulses (bs : Bytes) : List Pulse := ⟨8, 4⟩ :: bs.flatMap bytePulses

/-! ### The frames -/

/-- A change to TI's state. -/
def State.modTrunk (s : State) (g : Trunk → Trunk) : State := { s with trunk := g s.trunk }

/-- What the head-end's feed leaves in TI, and the frame taken. -/
def State.heard (s : State) (feed : Feed) : Trunk × Option Frame :=
  Trunk.hear s.settings.debounce s.settings.address feed s.trunk

/-- A frame acted on (R188, R189): at the pylon's own address the reply is built and the receiver waits to reply; a broadcast
is acted on in the same way and leaves the receiver in IDLE with no reply, its frame buffer emptied (log 19). -/
def State.actOn (s : State) (fr : Frame) (act : State → Bytes → State × TrunkReply) : State :=
  let r := act s fr.data
  if fr.address = 0 then r.1.modTrunk Trunk.dropped
  else r.1.modTrunk (fun t => { t with reply := some r.2.bytes })

/-- A trunk command: the feed is heard, and the frame it carries is acted on if its kind is the command's (log 3). -/
def State.trunkFrame (s : State) (feed : Feed) (mine : Byte → Bool) (act : State → Bytes → State × TrunkReply) : State :=
  match s.heard feed with
  | (t, none) => { s with trunk := t }
  | (t, some fr) => if mine fr.kind then ({ s with trunk := t }).actOn fr act else s

/-- The data length TI checks before the action (R189). -/
def withLength (n : Nat) (act : State → Bytes → State × TrunkReply) (s : State) (data : Bytes) : State × TrunkReply :=
  if data.length = n then act s data else s.nak .format

/-- OPEN (R25 to R27). -/
def execOpenFrame (feed : Feed) (s : State) : Answer := .next (s.trunkFrame feed (· == 0x01) State.openTxn)

/-- CHUNK (R28). -/
def execChunkFrame (feed : Feed) (s : State) : Answer := .next (s.trunkFrame feed (· == 0x02) State.chunk)

/-- WAYPOINTS (R29). -/
def execWaypointsFrame (feed : Feed) (s : State) : Answer := .next (s.trunkFrame feed (· == 0x03) State.stageFrame)

/-- CLOSE (R32). -/
def execCloseFrame (feed : Feed) (s : State) : Answer := .next (s.trunkFrame feed (· == 0x04) State.close)

/-- ABANDON (R42). -/
def execAbandonFrame (feed : Feed) (s : State) : Answer :=
  .next (s.trunkFrame feed (· == 0x05) (withLength 0 (fun t _ => t.abandon)))

/-- PURGE (R43). -/
def execPurgeFrame (feed : Feed) (s : State) : Answer :=
  .next (s.trunkFrame feed (· == 0x09) (withLength 0 (fun t _ => t.purge)))

/-- ALARM (R173). -/
def execAlarmFrame (feed : Feed) (s : State) : Answer := .next (s.trunkFrame feed (· == 0x07) (withLength 1 State.alarm))

/-- ALL_CLEAR (R173). -/
def execAllClearFrame (feed : Feed) (s : State) : Answer :=
  .next (s.trunkFrame feed (· == 0x08) (withLength 0 (fun t _ => t.allClear)))

/-- POLL (R191). -/
def execPollFrame (feed : Feed) (s : State) : Answer := .next (s.trunkFrame feed (· == 0x06) (withLength 1 State.poll))

/-- UNKNOWN_FRAME_KIND (R189): answered NAK FORMAT, with no effect. The codes 81h to 83h, which name reply kinds, are among these
(log 37). -/
def execUnknownFrameKind (feed : Feed) (s : State) : Answer :=
  .next (s.trunkFrame feed (fun k => !trunkKinds.contains k) (fun t _ => t.nak .format))

/-- TRUNK_FRAME_DROPPED (R187, R188): feed activity that ends without a taken frame. -/
def execTrunkFrameDropped (feed : Feed) (s : State) : Answer :=
  .next (
    match s.heard feed with
    | (t, none) => { s with trunk := t }
    | (_, some _) => s)

/-- The receiver after 48 samples at the accepted level, in the states that sample (R187). -/
def Trunk.still (n : Nat) (own : Byte) (t : Trunk) : Trunk :=
  match t.low with
  | some low => (t.hear n own [⟨low, Config.timeoutSamples⟩]).1
  | none => t

/-- TRUNK_FRAME_TIMEOUT (R187): feed activity, then 48 samples with no accepted edge, which drop a frame in BODY or CHECK. -/
def execTrunkFrameTimeout (feed : Feed) (s : State) : Answer :=
  .next (
    match s.heard feed with
    | (t, none) => { s with trunk := t.still s.settings.debounce s.settings.address }
    | (_, some _) => s)

/-- TURNAROUND_END (R190): the reply's pulses begin. -/
def execTurnaroundEnd (s : State) : Answer :=
  .next (
    if s.trunk.rx = .turnaround then
      s.modTrunk (fun t => { t with rx := .reply, sink := replyPulses (t.reply.getD []) })
    else s)

/-- REPLY_END (R190): the off time after the last pulse has passed, and the receiver enters IDLE. The reply buffer is emptied
(log 36), and the feed level is unknown until one is accepted (log 19). -/
def execReplyEnd (s : State) : Answer :=
  .next (
    if s.trunk.rx = .reply then
      s.modTrunk (fun t => { t.dropped with low := none, run := 0, quiet := 0, otherLow := false, other := 0, reply := none, sink := [] })
    else s)

end Sys2Proof.Machine
end

