-- ==== Sys2Proof/Machine/Dispatch.lean ====
section
/-! DEFINITION. The meaning of every command: one arm per constructor of Instr, each one call. -/

namespace Sys2Proof.Machine

/-- What a command does to everything but the queue of waiting commands. -/
def exec (i : Instr) (s : State) : Host.Outcome State Fault Refusal :=
  match i with
  | .fullReset => Sys2Proof.Machine.execFullReset s
  | .resetRelease => Sys2Proof.Machine.execResetRelease s
  | .configReadComplete bytes => Sys2Proof.Machine.execConfigReadComplete bytes s
  | .configNoAcknowledge => Sys2Proof.Machine.execConfigNoAcknowledge s
  | .configLimitExpiry => Sys2Proof.Machine.execConfigLimitExpiry s
  | .planeClearDone => Sys2Proof.Machine.execPlaneClearDone s
  | .openFrame feed => Sys2Proof.Machine.execOpenFrame feed s
  | .chunkFrame feed => Sys2Proof.Machine.execChunkFrame feed s
  | .waypointsFrame feed => Sys2Proof.Machine.execWaypointsFrame feed s
  | .closeFrame feed => Sys2Proof.Machine.execCloseFrame feed s
  | .abandonFrame feed => Sys2Proof.Machine.execAbandonFrame feed s
  | .purgeFrame feed => Sys2Proof.Machine.execPurgeFrame feed s
  | .alarmFrame feed => Sys2Proof.Machine.execAlarmFrame feed s
  | .allClearFrame feed => Sys2Proof.Machine.execAllClearFrame feed s
  | .pollFrame feed => Sys2Proof.Machine.execPollFrame feed s
  | .unknownFrameKind feed => Sys2Proof.Machine.execUnknownFrameKind feed s
  | .trunkFrameDropped feed => Sys2Proof.Machine.execTrunkFrameDropped feed s
  | .trunkFrameTimeout feed => Sys2Proof.Machine.execTrunkFrameTimeout feed s
  | .turnaroundEnd => Sys2Proof.Machine.execTurnaroundEnd s
  | .replyEnd => Sys2Proof.Machine.execReplyEnd s
  | .status f x => Sys2Proof.Machine.execStatus f x s
  | .kick f x => Sys2Proof.Machine.execKick f x s
  | .readEvents f x => Sys2Proof.Machine.execReadEvents f x s
  | .setMask f x => Sys2Proof.Machine.execSetMask f x s
  | .readEntry f x => Sys2Proof.Machine.execReadEntry f x s
  | .listWindow f x => Sys2Proof.Machine.execListWindow f x s
  | .findPrefix f x => Sys2Proof.Machine.execFindPrefix f x s
  | .writeCells f x => Sys2Proof.Machine.execWriteCells f x s
  | .start f x => Sys2Proof.Machine.execStart f x s
  | .append f x => Sys2Proof.Machine.execAppend f x s
  | .stop f x => Sys2Proof.Machine.execStop f x s
  | .readFault f x => Sys2Proof.Machine.execReadFault f x s
  | .writeImage f x => Sys2Proof.Machine.execWriteImage f x s
  | .setMap f x => Sys2Proof.Machine.execSetMap f x s
  | .setLanguage f x => Sys2Proof.Machine.execSetLanguage f x s
  | .setPalette f x => Sys2Proof.Machine.execSetPalette f x s
  | .readSlots f x => Sys2Proof.Machine.execReadSlots f x s
  | .hitTest f x => Sys2Proof.Machine.execHitTest f x s
  | .resetFace f x => Sys2Proof.Machine.execResetFace f x s
  | .fetch f clocked => Sys2Proof.Machine.execFetch f clocked s
  | .unknownRequestCode f code x => Sys2Proof.Machine.execUnknownRequestCode f code x s
  | .faceGrant => Sys2Proof.Machine.execFaceGrant s
  | .templateCellStep => Sys2Proof.Machine.execTemplateCellStep s
  | .pixelGroupWrite count => Sys2Proof.Machine.execPixelGroupWrite count s
  | .routeEraseDone => Sys2Proof.Machine.execRouteEraseDone s
  | .segmentCompletion => Sys2Proof.Machine.execSegmentCompletion s
  | .segmentFault => Sys2Proof.Machine.execSegmentFault s
  | .repositionDone => Sys2Proof.Machine.execRepositionDone s
  | .glyphCopyDone => Sys2Proof.Machine.execGlyphCopyDone s
  | .templateCopyDone => Sys2Proof.Machine.execTemplateCopyDone s
  | .purgeGrant => Sys2Proof.Machine.execPurgeGrant s
  | .purgeEnd => Sys2Proof.Machine.execPurgeEnd s
  | .frameStart f => Sys2Proof.Machine.execFrameStart f s
  | .waitTimeExpiry f => Sys2Proof.Machine.execWaitTimeExpiry f s
  | .pulseTimeExpiry f => Sys2Proof.Machine.execPulseTimeExpiry f s
  | .recoveryWindowExpiry f => Sys2Proof.Machine.execRecoveryWindowExpiry f s
  | .evacLineChange => Sys2Proof.Machine.execEvacLineChange s
  | .lineDebounceExpiry => Sys2Proof.Machine.execLineDebounceExpiry s
  | .cutoffExpiry => Sys2Proof.Machine.execCutoffExpiry s
  | .ecGrant => Sys2Proof.Machine.execEcGrant s
  | .viewDrawingEnd => Sys2Proof.Machine.execViewDrawingEnd s
  | .cycleTimerExpiry => Sys2Proof.Machine.execCycleTimerExpiry s
  | .bandDrawingEnd => Sys2Proof.Machine.execBandDrawingEnd s
  | .blankDrawingEnd => Sys2Proof.Machine.execBlankDrawingEnd s

end Sys2Proof.Machine
end

