-- ==== Sys2Proof/Machine/Step.lean ====
section
/-! DEFINITION. One step: the command at the front of the queue, or, with none waiting, one pixel time of the scan-out. -/

namespace Sys2Proof.Machine

/-- One step of the part. With a command waiting, its meaning on the state with the queue's rest; with none, the block does the
one thing the spec gives no command for, the scan-out's next pixel (R137; log 6). -/
def step (s : State) : Host.Outcome State Fault Refusal :=
  match s.pending with
  | [] => .next s.scanTick
  | c :: rest => exec c { s with pending := rest }

/-- The state with the command that a word spells at the front of its queue. No row of spec/opcode_table.json gives bits, so no
word spells one (log 26). -/
def State.withFetchWord (s : State) (nbits w : Nat) : State :=
  match decodeTableWord nbits w with
  | some c => { s with pending := c :: s.pending }
  | none => s

end Sys2Proof.Machine
end

