-- ==== Sys2Proof/Safety.lean ====
section
/-! DEFINITION. The terms in which claims are stated: what a sound state of the part is, block by block, and the feed by which
the head-end sends a frame. No run of the part stops, so a safe run is one whose states are sound. -/

namespace Sys2Proof.Machine

/-! ### The stores -/

/-- A store that may be absent is canonical. -/
def canonicalOpt (m : Option Mem) : Bool := m.all Memory.wf

/-- The byte stores of a face are canonical. -/
def FaceContext.storesCanonical (c : FaceContext) : Bool := Memory.wf c.image && Memory.wf c.queue.ring

/-- Every store of the state is in its canonical form. -/
def State.storesCanonical (s : State) : Prop :=
  (∀ p : Fin 4, Memory.wf s.planes[p] = true) ∧
  (∀ f : Face, (s.face f).storesCanonical = true) ∧
  (Sparse.wf Entry.free s.directory = true ∧ ∀ n, Memory.wf (s.entry n).image = true) ∧
  (Sparse.wf none s.glyphs.pages = true ∧ ∀ p, canonicalOpt (s.glyphPage p) = true) ∧
  (Sparse.wf Template.empty s.templates.table = true ∧ ∀ t, canonicalOpt (s.template t).cells = true) ∧
  (∀ l : Fin 4, canonicalOpt s.languages[l] = true) ∧
  (∀ z : Fin 8, canonicalOpt s.evac.plans[z] = true) ∧
  (Sparse.wf 0 s.routes.cells = true ∧ Memory.wf s.staged = true)

/-! ### The engine -/

/-- The engine, its arbiter, the face queues and the evacuation state agree (R86, R105 to R107, R111, R180). -/
structure State.EngineSound (s : State) : Prop where
  /-- A face queue is RUNNING exactly when its face holds the engine. -/
  running : ∀ f : Face, (s.face f).queue.state = .running ↔ s.arbiter.holder = some (.face f)
  /-- A face segment is held exactly while a face holds the engine, and it is that face's. -/
  segment : ∀ f : Face, s.arbiter.holder = some (.face f) ↔ s.engine.segment.map Segment.face = some f
  /-- A decision stands only while nobody holds the engine and its claim is still there. -/
  decision : ∀ d : Decision, s.arbiter.decision = some d → s.arbiter.holder = none ∧ s.stillClaims d = true
  /-- EC holds the engine only out of NORMAL, and throughout SHOWING and RELEASING. -/
  evacHolds : (s.arbiter.holder = some .ec → s.evac.state ≠ .normal) ∧
    (s.evac.state = .showing ∨ s.evac.state = .releasing → s.arbiter.holder = some .ec)
  /-- Out of NORMAL no queue is PENDING or WAITING. -/
  halted : s.evac.state ≠ .normal → ∀ f : Face, (s.face f).queue.state ≠ .pending ∧ (s.face f).queue.state ≠ .waiting
  /-- A free engine that some claimant could be granted has its decision recorded. -/
  decided : s.arbiter.holder = none → s.arbiter.decision = none → s.grantDecision = none

/-- The include-stack levels inside a template, over the four faces. -/
def State.levelsIn (s : State) (t : Nat) : Nat :=
  [(0 : Face), 1, 2, 3].foldl (fun n f => n + ((s.face f).queue.stack.countP (fun l => l.template == t))) 0

/-- A push that waits for a copy waits on a stack that has room for it. -/
def State.pushRoom (s : State) (g : Segment) : Prop :=
  match g.stage with
  | .pushing _ _ _ _ => (s.face g.face).queue.stack.length < Config.maxDepth
  | _ => True

/-- The include stacks, the snapshots and the template use counts agree with the engine's holder (R96, R101). -/
structure State.StacksSound (s : State) : Prop where
  engine : s.EngineSound
  /-- Only the face that holds the engine has a non-empty stack or a present snapshot. -/
  holderOnly : ∀ f : Face, s.arbiter.holder ≠ some (.face f) → (s.face f).queue.stack = [] ∧ (s.face f).snapshot = none
  /-- No stack is deeper than four levels. -/
  depth : ∀ f : Face, (s.face f).queue.stack.length ≤ Config.maxDepth
  /-- A waiting push has room. -/
  room : ∀ g : Segment, s.engine.segment = some g → s.pushRoom g
  /-- A template's use count is the number of levels inside it. -/
  uses : ∀ t : Nat, (s.template t).use = s.levelsIn t

/-! ### The slots -/

/-- A record's entry is LIVE with the recorded generation. -/
def State.fresh (s : State) (n : Nat) (generation : Byte) : Prop :=
  (s.entry n).state = .live ∧ (s.entry n).generation = generation

/-- DRAWING and CURRENT card slots, and DRAWING and DRAWN route slots, record their entry's present generation (R150). -/
structure State.SlotsSound (s : State) : Prop where
  cards : ∀ (f : Face) (i : Fin 12) (card : Card), (s.face f).cards[i] = some card →
    card.state = .drawing ∨ card.state = .current → s.fresh card.entry card.generation
  routes : ∀ (f : Face) (r : RouteRecord), (s.face f).route = some r →
    r.state = .drawing ∨ r.state = .drawn → s.fresh r.entry r.generation

/-! ### The commit in flight -/

/-- The work of a commit in flight stands alone, in COMMITTING and out of a purge; a purge in progress is COMMITTING, and a
purge that holds the engine is in progress (R23, R40, R43, R52). -/
structure State.CommitSound (s : State) : Prop where
  engine : s.EngineSound
  purge : (s.update.purging = true → s.update.state = .committing) ∧ (s.purgeHolds = true → s.update.purging = true)
  work : s.orders.reposition.isSome = true ∨ s.glyphs.copying.isSome = true ∨ s.templates.copying.isSome = true →
    s.update.state = .committing ∧ s.update.purging = false
  single : ¬(s.orders.reposition.isSome = true ∧ s.glyphs.copying.isSome = true) ∧
    ¬(s.orders.reposition.isSome = true ∧ s.templates.copying.isSome = true) ∧
    ¬(s.glyphs.copying.isSome = true ∧ s.templates.copying.isSome = true)

/-! ### The route blocks -/

/-- A chain that the Route Store can hold (R11): distinct blocks, one for every eight waypoints, at most 64 waypoints. -/
def Chain.wellBuilt (c : Chain) : Prop := c.blocks.Nodup ∧ c.blocks.length = (c.count + 7) / 8 ∧ c.count ≤ 64

/-- Every block is in exactly one of the free set, one entry's chain, and the staging chain (R12). -/
structure State.RoutesSound (s : State) : Prop where
  commit : s.CommitSound
  /-- The blocks out of the free set are distinct blocks of the store. -/
  blocks : s.routes.allocated.Nodup ∧ ∀ b ∈ s.routes.allocated, b < Config.blockCount
  /-- A block is out of the free set exactly while a chain holds it. -/
  held : ∀ b : Nat, b ∈ s.routes.allocated ↔
    b ∈ s.update.chain.blocks ∨ ∃ n chain, (s.entry n).route = some chain ∧ b ∈ chain.blocks
  /-- Two entries share no block. -/
  apart : ∀ n m chain other, n ≠ m → (s.entry n).route = some chain → (s.entry m).route = some other →
    ∀ b ∈ chain.blocks, b ∉ other.blocks
  /-- The staging chain shares no block with an entry. -/
  stagedApart : ∀ n chain, (s.entry n).route = some chain → ∀ b ∈ chain.blocks, b ∉ s.update.chain.blocks
  /-- Every chain is well built. -/
  built : s.update.chain.wellBuilt ∧ ∀ n chain, (s.entry n).route = some chain → chain.wellBuilt
  /-- Only a transaction in STAGING that takes waypoints has a staging chain. -/
  staging : s.update.chain ≠ Chain.empty → s.update.state = .staging ∧ s.update.txn.any Txn.takesWaypoints = true

/-! ### The order lists -/

/-- The entry that is being repositioned, if one is. -/
def State.moving (s : State) : Option Nat := s.orders.reposition.map Reposition.entry

/-- List `l` without the entry that is being repositioned. -/
def State.settled (s : State) (l : Fin 4) : List Nat := s.orders.lists[l].filter (fun n => decide (some n ≠ s.moving))

/-- The lists hold every LIVE entry exactly once, in the order of R50, but for an entry whose reposition is in flight (R48, R51). -/
structure State.ListsSound (s : State) : Prop where
  commit : s.CommitSound
  /-- A list holds the LIVE entries, the moving one apart. -/
  live : ∀ (l : Fin 4) (n : Nat), n ∈ s.settled l ↔ (s.entry n).state = .live ∧ some n ≠ s.moving
  /-- A list is in strictly ascending order of key and entry number, the moving entry apart. -/
  sorted : ∀ l : Fin 4, (s.settled l).Pairwise (fun m n => s.before l m n = true)
  /-- The reposition in flight knows the moving entry's state now, and a list holds that entry only if it was LIVE before. -/
  mover : ∀ r, s.orders.reposition = some r →
    r.new = (s.entry r.entry).state ∧ ∀ l : Fin 4, r.entry ∈ s.orders.lists[l] → r.old = .live

/-! ### The feed of a frame -/

/-- How the head-end times its dips: samples of a 0 dip, a 1 dip, a sync dip, and the gap after each (R186). -/
structure DipTiming where
  zero : Nat
  one : Nat
  sync : Nat
  gap : Nat
  deriving DecidableEq, Repr

/-- A timing that R186 and R187 let a receiver with debounce count `n` see: each dip in its class and no dip or gap too short
to be seen, no gap so long that its edges are accepted more than 48 samples apart (log 19). -/
def DipTiming.seen (d : DipTiming) (n : Nat) : Prop :=
  n ≤ d.zero ∧ d.zero < Config.oneDip ∧ Config.oneDip ≤ d.one ∧ d.one < Config.syncDip ∧ Config.syncDip ≤ d.sync ∧
  n ≤ d.gap ∧ d.gap ≤ Config.timeoutSamples

/-- The feed of one dip and the gap after it. -/
def dipFeed (low high : Nat) : Feed := [⟨true, low⟩, ⟨false, high⟩]

/-- The feed of one byte, most significant bit first (R186). -/
def byteFeed (d : DipTiming) (b : Byte) : Feed :=
  (List.range 8).flatMap (fun i => dipFeed (if b.getLsbD (7 - i) then d.one else d.zero) d.gap)

/-- The bytes of a frame from the head-end after its sync (R187, R202). -/
def frameBytes (fr : Frame) : Bytes :=
  let body := fr.address :: fr.kind :: byteOf fr.data.length :: fr.data
  body ++ [crc8 body]

/-- The feed of a frame: a sync dip, then its bytes (R187). -/
def frameFeed (d : DipTiming) (fr : Frame) : Feed := dipFeed d.sync d.gap ++ (frameBytes fr).flatMap (byteFeed d)

/-- A receiver at rest in IDLE with the feed high (R187). -/
def Trunk.atRest (t : Trunk) : Prop := t.rx = .idle ∧ t.low = some false ∧ t.other = 0

/-! ### Requests and trunk frames, for the claims -/

/-- A port that takes requests: the load ended, the face enabled, no request in progress (R70, R74). -/
def State.portOpen (s : State) (f : Face) : Prop :=
  s.loadEnded = true ∧ s.enabled f = true ∧ (s.face f).port.inProgress = none

/-- A port that takes every request: open, and the face not withdrawn (R74). -/
def State.portReady (s : State) (f : Face) : Prop := s.portOpen f ∧ s.withdrawn f = false

/-- What a request transaction shifts out: the status byte, then 00h (R69). -/
def State.requestOut (s : State) (f : Face) (x : Transfer) : Bytes := s.statusByte f :: List.replicate x.bytes.length 0

/-- A context whose request was answered at once: the reply in the slot, no request in progress, REPLY_READY latched (R71). -/
def FaceContext.replied (c : FaceContext) (out : Bytes) (code : ReplyCode) (request : Byte) (results : Bytes) : FaceContext :=
  { c with port := ⟨none, some ⟨code, request, results⟩, out⟩, latch := c.latch ||| 1 }

/-- A context whose request is held as the request in progress, its reply slot emptied (R71). -/
def FaceContext.holding (c : FaceContext) (out : Bytes) (h : HeldRequest) : FaceContext :=
  { c with port := ⟨some h, none, out⟩ }

/-- The face, the code and the transfer of a request command (R199). -/
def requestOf : Instr → Option (Face × Byte × Transfer)
  | .status f x => some (f, 0x01, x) | .kick f x => some (f, 0x02, x) | .readEvents f x => some (f, 0x03, x)
  | .setMask f x => some (f, 0x04, x) | .readEntry f x => some (f, 0x10, x) | .listWindow f x => some (f, 0x11, x)
  | .findPrefix f x => some (f, 0x12, x) | .writeCells f x => some (f, 0x20, x) | .start f x => some (f, 0x21, x)
  | .append f x => some (f, 0x22, x) | .stop f x => some (f, 0x23, x) | .readFault f x => some (f, 0x24, x)
  | .writeImage f x => some (f, 0x25, x) | .setMap f x => some (f, 0x30, x) | .setLanguage f x => some (f, 0x31, x)
  | .setPalette f x => some (f, 0x32, x) | .readSlots f x => some (f, 0x40, x) | .hitTest f x => some (f, 0x41, x)
  | .resetFace f x => some (f, 0x50, x)
  | _ => none

/-- A command of a face's port: a request, a FETCH, or a transaction with an unknown code. -/
def portCommandOf : Instr → Option Face
  | .fetch f _ => some f
  | .unknownRequestCode f _ _ => some f
  | c => (requestOf c).map Prod.fst

/-- TI after a frame with an address was acted on with a reply: a broadcast leaves IDLE and no reply, its frame buffer emptied
(log 19), a frame at the pylon's own address leaves the reply in the buffer (R188, R189). -/
def Trunk.answered (t : Trunk) (address : Byte) (r : TrunkReply) : Trunk :=
  if address = 0 then t.dropped else { t with reply := some r.bytes }

/-- A starting image (R24): present, of a size, each byte as given. -/
def startsAs (v : Option Image) (size : Nat) (byte : Nat → Byte) : Prop :=
  ∃ i, v = some i ∧ i.size = size ∧ ∀ a, i.bytes.read a = byte a

/-- The reply code, a request code and zeros: a reply with no results (R197). One to an unknown code has no result bytes (log 17). -/
def bareReply (code : ReplyCode) (request : Byte) : Reply := ⟨code, request, List.replicate (resultLength request) 0⟩

/-- What the start of TAKEOVER leaves (R174): the state, the cut-off timer, nothing drawn, and every queue halted. -/
def State.takenOver (s t : State) : Prop :=
  t.evac.state = .takeover ∧ t.evac.cutoff = .running 40 ∧ t.evac.drawnZone = none ∧ t.evac.language = none ∧
  t.evac.redraw = false ∧ t.arbiter.holder = s.arbiter.holder ∧
  ∀ f : Face, t.face f = { s.face f with queue := (s.face f).queue.haltedBy .evac }

/-- What the end of the segment `g` leaves, at a completion or at a fault or cut (R83, R90, R93, R103, R104, R114, R146, R147): `r`
is the face's active range at the end. -/
structure State.SegmentEnded (s t : State) (g : Segment) (r : ActiveRange) (fault : Option FaultReason) : Prop where
  /-- The engine is free of work, and EA has made its decision. -/
  released : t.engine = ⟨none, [], false⟩ ∧ t.arbiter = ⟨none, s.arbiter.lastServed, t.grantDecision⟩
  /-- Everything but the faces, the engine and the template uses stays. -/
  outside : t = { s with faces := t.faces, arbiter := t.arbiter, engine := t.engine, templates := t.templates }
  others : ∀ f : Face, f ≠ g.face → t.face f = s.face f
  context : t.face g.face = { s.face g.face with
    queue := (t.face g.face).queue, snapshot := none, cards := (t.face g.face).cards, route := (t.face g.face).route
    latch := (t.face g.face).latch }
  /-- Each level taken off the stack returns its use. -/
  uses : t.templates.entered = [] ∧ t.templates.copying = s.templates.copying ∧
    ∀ k, (t.template k).cells = (s.template k).cells ∧
      (t.template k).use = (s.template k).use - (s.face g.face).queue.stack.countP (fun l => l.template == k)
  /-- The table of R90, with the halt of a takeover where the end did not leave the queue IDLE. -/
  queue : ∀ q : Queue, q = { (s.face g.face).queue with
      stack := []
      fault := match fault with
        | some why => some ⟨g.cell, (s.face g.face).queue.stack.length,
            (s.face g.face).queue.stack.head?.map (fun l => (l.template, l.cell)), why⟩
        | none => (s.face g.face).queue.fault } →
    (t.face g.face).queue =
      if fault = some .cut then { q with state := .halted, halt := some .evac, range := none, stop := false }
      else if fault ≠ none then
        { q with state := .halted, halt := some (if s.evac.state = .takeover then .evac else .fault), range := none, stop := false }
      else if g.pulsed = true then
        { q with state := .halted, halt := some (if s.evac.state = .takeover then .evac else .withdrawn), range := none
                 stop := false }
      else if q.stop = true ∨ r.next = r.last then { q with state := .idle, halt := none, range := none, stop := false }
      else if s.evac.state = .takeover then { q with state := .halted, halt := some .evac, range := none, stop := false }
      else { q with state := .pending, range := some ⟨r.next + 1, r.last⟩ }
  /-- SEGMENT_FAULT at a fault, SEGMENT_DONE at a notifying completion, QUEUE_IDLE where the queue becomes IDLE. -/
  latch : (t.face g.face).latch =
    if s.enabled g.face = true then
      (s.face g.face).latch ||| (if fault ≠ none then 0x008 else 0)
        ||| (if fault = none ∧ cellNotify (cellOf (s.face g.face).queue.ring g.cell) = true then 0x002 else 0)
        ||| (if fault = none ∧ g.pulsed = false ∧ ((s.face g.face).queue.stop = true ∨ r.next = r.last) then 0x004 else 0)
    else (s.face g.face).latch
  /-- The CARD segment's slot, if still DRAWING, is CURRENT or BROKEN. -/
  cards : ∀ i : Fin 12, (t.face g.face).cards[i] = (s.face g.face).cards[i].map (fun card =>
    if g.card = some i ∧ card.state = .drawing then { card with state := if fault = none then .current else .broken } else card)
  /-- The ROUTE segment's slot, if still DRAWING, is DRAWN or NONE. -/
  route : (t.face g.face).route = (s.face g.face).route.bind (fun v =>
    if g.routed = true ∧ v.state = .drawing then (if fault = none then some { v with state := .drawn } else none) else some v)

/-- What EC's look at the sources leaves after a change of either (R180, R181, R183), with the zone then shown and whether
evacuation is then wanted (R171). -/
structure State.SourcesLooked (u t : State) (zone : Fin 8) (wanted : Bool) : Prop where
  takeover : u.evac.state = .takeover → t =
    if u.evac.drawing ≠ none ∧ u.evac.drawnZone ≠ some zone then { u with evac := { u.evac with redraw := true } } else u
  showing : u.evac.state = .showing → t =
    if wanted = true then
      if u.evac.drawnZone = some zone then u
      else if u.evac.drawing = none then u.startView
      else { u with evac := { u.evac with redraw := true } }
    else if u.evac.drawing = none then u.startRelease
    else u
  releasing : u.evac.state = .releasing → t = u

/-- What a FILL, FRAME or IMAGE draws (R117, R118): its layer, combine, shape and rectangle, and whether its image fits the buffer. -/
def Seg.plain : Seg → Option (Layer × Combine × Shape × Rect × Bool)
  | .fill l m colour r => some (l, m, .solid colour, r, true)
  | .frame l m colour t r => some (l, m, .outline t colour, r, true)
  | .image l m keyed r offset => some (l, m, .image offset keyed, r, decide (offset + (2 * r.w * r.h + 7) / 8 ≤ 4096))
  | _ => none

/-- The route slot after a drawing on a layer (R119, R147): one on the map layer disturbs a DRAWN or STALE slot. -/
def disturbedBy (l : Layer) (v : Option RouteRecord) : Option RouteRecord :=
  match l, v with
  | .map, some r => some (if r.state = .drawn ∨ r.state = .stale then { r with state := .disturbed } else r)
  | _, v => v

/-- A pixel lies in a square: `less` columns and rows before its centre, `more` after it (R128). -/
def inSquare (less more : Nat) (cx cy : Int) (x y : Nat) : Prop := cx - less ≤ x ∧ x ≤ cx + more ∧ cy - less ≤ y ∧ y ≤ cy + more

/-- `c` is the nearest whole number to k d / n, a half taken upward (R128); 0 for n equal to 0. -/
def isStep (k : Nat) (d : Int) (n : Nat) (c : Int) : Prop :=
  (n = 0 → c = 0) ∧ (n ≠ 0 → 2 * n * c ≤ 2 * k * d + n ∧ 2 * k * d + n < 2 * n * (c + 1))

/-- A consecutive pair of placed waypoints adds a pixel to the route set (R128): a brush square about a centre of its line, or a
marker's square at the one that is on the map level. -/
def pairAdds (w : Nat) (p q : Placed) (x y : Nat) : Prop :=
  match p.onLevel, q.onLevel with
  | true, true => ∃ (n k : Nat) (a b : Int), n = max (q.x - p.x).natAbs (q.y - p.y).natAbs ∧ k ≤ n ∧
      isStep k (q.x - p.x) n a ∧ isStep k (q.y - p.y) n b ∧ inSquare ((w - 1) / 2) (w / 2) (p.x + a) (p.y + b) x y
  | true, false => inSquare 8 7 p.x p.y x y
  | false, true => inSquare 8 7 q.x q.y x y
  | false, false => False

/-- A text line of the VIEW and BAND drawings, or nothing for a plan without it (R179). -/
def messageLine (plan : Mem) (language : Option (Fin 4)) (f : Face) : List Job :=
  match language with
  | some l => ((planMessage plan l).map (fun codes => [Job.message f l codes])).getD []
  | none => []

/-- Commands that can end the configuration load (R192). -/
def endsLoad : Instr → Bool
  | .configReadComplete _ | .configNoAcknowledge | .configLimitExpiry | .planeClearDone => true
  | _ => false

/-- Commands that may write Plane Memory: a full reset, the end of its clearing, and pixel groups (R133). -/
def writesPlanes : Instr → Bool
  | .fullReset | .planeClearDone | .pixelGroupWrite _ => true
  | _ => false

/-- Commands that may change a supervisor record: a full reset, the end of the load, KICK and the expiries (R162 to R168, R170). -/
def movesSupervisor : Instr → Bool
  | .fullReset | .kick _ _ | .waitTimeExpiry _ | .pulseTimeExpiry _ | .recoveryWindowExpiry _ => true
  | c => endsLoad c

/-- Commands that may change what is in force from the configuration: a full reset and the end of the load (R193). -/
def movesSettings : Instr → Bool
  | .fullReset => true
  | c => endsLoad c

end Sys2Proof.Machine
end

