-- ==== Sys2Proof/Certificates/Slice0/Obligations.lean ====
section
/-! DEFINITION. The statements for the provers. -/

open Sys2Proof Sys2Proof.Machine

/-! ### The queue of commands -/

/-- A step takes the command at the front of the queue and runs it on the state with the queue's rest. -/
def Obligations.StepRunsFrontCommand : Prop :=
  ∀ (c : Instr) (rest : List Instr) (s : State), step { s with pending := c :: rest } = exec c { s with pending := rest }

/-- With no command waiting, a step is one pixel time of every face's scan and nothing else (R137; the model's choice of log 6):
row by row from the top, each row from the left, each pixel in the colour its value has in the shown palette. PXf_VS, PXf_DE and
PXf_D in each phase (R136, R137, R143): VS in the sync interval alone, DE and the pixel's colour while a pixel is driven, and neither
with 000000h while blank. That VS is not asserted in the gaps and DE not in the sync is the model's choice (log 6). -/
def Obligations.IdleStepScansOnePixel : Prop :=
  (∀ s : State, s.pending = [] → ∃ t, step s = .next t ∧ t = { s with faces := t.faces } ∧
    ∀ f : Face, t.face f = { s.face f with scan := (t.face f).scan } ∧
      ((s.face f).scan = .sync → (t.face f).scan = .pixel 0 0 (s.shownColour f 0 0)) ∧
      (∀ x y col, (s.face f).scan = .pixel x y col →
        (x < 1079 → (t.face f).scan = .pixel (x + 1) y (s.shownColour f (x + 1) y)) ∧
        (x = 1079 → y < 1919 → (t.face f).scan = .rowGap y) ∧
        (x = 1079 → y = 1919 → (t.face f).scan = .frameGap)) ∧
      (∀ y, (s.face f).scan = .rowGap y → (t.face f).scan = .pixel 0 (y + 1) (s.shownColour f 0 (y + 1))) ∧
      ((s.face f).scan = .frameGap → (t.face f).scan = .frameGap) ∧
      ((s.face f).scan = .blank → (t.face f).scan = .blank)) ∧
  (∀ (s : State) (f : Face),
    ((s.face f).scan = .sync → s.pxVs f = true ∧ s.pxDe f = false) ∧
    (∀ x y col, (s.face f).scan = .pixel x y col → s.pxVs f = false ∧ s.pxDe f = true ∧ s.pxData f = some col) ∧
    ((∃ y, (s.face f).scan = .rowGap y) ∨ (s.face f).scan = .frameGap → s.pxVs f = false ∧ s.pxDe f = false) ∧
    ((s.face f).scan = .blank → s.pxVs f = false ∧ s.pxDe f = false ∧ s.pxData f = some 0))

/-- Every command answers a next state, and none touches the queue of commands that wait behind it. -/
def Obligations.EveryCommandAnswers : Prop :=
  ∀ (c : Instr) (s : State), ∃ t, exec c s = .next t ∧ t.pending = s.pending

/-! ### Start-up -/

/-- FULL_RESET (R9, R16, R21, R22, R48, R105, R171, R185, R192): from any state, the whole part is at its full-reset values; the
waiting commands and the level of the EVAC pin, which are outside the part, stay (log 8). Where the rules give no value, what stands
here is the model's choice, not a rule's: the bytes on FPn_DO (log 4), the load that waits for RESET's release (log 8), the planes
at 0 from this step on (log 9), the trunk filter's level and counts (log 19), loader.taken (log 25), and the trunk address, bit time,
debounce count, wait time, pulse time, recovery window and pulse limit before the load ends (log 34). -/
def Obligations.FullResetValues : Prop :=
  ∀ s : State, ∃ t, exec .fullReset s = .next t ∧
    t.pending = s.pending ∧ t.loader = ⟨.loading, .held, .stopped, true, Settings.default⟩ ∧ t.settings = Settings.default ∧
    (∀ n, t.entry n = ⟨.free, 0, [], none⟩) ∧ t.routes.allocated = [] ∧ t.routes.freeCount = 512 ∧
    (∀ p, t.glyphPage p = none) ∧ t.glyphs.copying = none ∧
    t.languages = #v[some [(2, 0xFF), (3, 0xFF)], none, none, none] ∧
    (∀ k, t.template k = ⟨none, 0⟩) ∧ t.templates.copying = none ∧ t.templates.entered = [] ∧
    t.update = ⟨.idle, none, none, ⟨[], 0⟩, false, 0, .none, 0, true⟩ ∧
    t.orders = ⟨#v[[], [], [], []], none⟩ ∧ t.arbiter = ⟨none, none, none⟩ ∧ t.engine = ⟨none, [], false⟩ ∧
    (∀ p : Fin 4, t.planes[p] = []) ∧
    t.evac = ⟨.normal, false, s.evac.lineLow, .stopped, none, none, none, false, none, .stopped, .stopped,
              Vector.replicate 8 none⟩ ∧
    t.trunk = ⟨.off, none, 0, 0, false, 0, [], 0, 0, none, []⟩ ∧
    ∀ f : Face, t.face f =
      { language := 0, window := ⟨540, 960, 2048, 2048, 0, 4⟩, image := [], port := ⟨none, none, []⟩,
        palette := ⟨defaultPalette, Vector.replicate 16 none, defaultPalette, .face, defaultPalette⟩,
        queue := ⟨[], .idle, none, none, false, [], none⟩, snapshot := none, cards := Vector.replicate 12 none, route := none,
        latch := 0, mask := 0, supervisor := ⟨.off, .stopped, 0⟩, waitCount := 0, scan := .blank }

/-- The configuration load (R192): RESET_RELEASE begins the read with the 50 ms limit; the 32nd byte ends it LOADED with the key
4843h and DEFAULTED without; no acknowledge and the limit end it DEFAULTED; the load ends with the read or with the clearing of
Plane Memory, whichever is later. What a DEFAULTED load takes are the defaults of R193. That the whole read is one command, with
what it fixed kept in loader.taken, is log 25, and that the planes are set to 0 at the end of the clearing is log 9: both are the
model's choices. -/
def Obligations.LoadRunsToItsEnd : Prop :=
  Settings.default =
    { address := 63, bitTimeUs := 200, debounce := 4, enabled := #v[true, true, true, true]
      orientation := #v[.deg0, .deg0, .deg0, .deg0], priority := #v[2, 2, 2, 2], ageLimit := 4, lineZone := 0
      waitMs := some 8000, pulseMs := 100, windowMs := 10000, pulseLimit := 3, cycleMs := 4000 } ∧
  (∀ s : State, s.loader.phase = .held →
    exec .resetRelease s = .next { s with loader := { s.loader with phase := .reading, limit := .running 50 } }) ∧
  (∀ s : State, s.loader.phase = .reading →
    (∀ bytes : Vector Byte 32, ∃ t, exec (.configReadComplete bytes) s = .next t ∧
      t.loader = ⟨if bytes[0] = 0x48 ∧ bytes[1] = 0x43 then .loaded else .defaulted,
        if s.loader.clearing then .clearing else .ended, .stopped, s.loader.clearing,
        if bytes[0] = 0x48 ∧ bytes[1] = 0x43 then configSettings bytes else Settings.default⟩) ∧
    (∀ c : Instr, c = .configNoAcknowledge ∨ c = .configLimitExpiry → ∃ t, exec c s = .next t ∧
      t.loader = ⟨.defaulted, if s.loader.clearing then .clearing else .ended, .stopped, s.loader.clearing,
        Settings.default⟩)) ∧
  (∀ s : State, s.loader.clearing = true → ∃ t, exec .planeClearDone s = .next t ∧
    (∀ p : Fin 4, t.planes[p] = []) ∧ t.loader.clearing = false ∧
    t.loader.phase = if s.loader.phase = .clearing then .ended else s.loader.phase)

/-- The end of the load (R192, R195): at the step that ends it, every block takes its settings and comes into service, CFG_CLK is high
and CFG_DAT released, the output of an enabled face is in its sync and that of another is blank. The 20 ms of a line that is low, and
no timer for one that is high, are deduced (log 18); the sync's levels rest on log 6. -/
def Obligations.LoadEndServes : Prop :=
  ∀ (c : Instr) (s t : State), s.loadEnded = false → exec c s = .next t → t.loadEnded = true →
    t.settings = t.loader.taken ∧ t.trunk.rx = .idle ∧ t.cfgClkHigh = some true ∧ t.cfgDatReleased = some true ∧
    t.evac.debounce = (if s.evac.lineLow then .running 20 else .stopped) ∧
    ∀ f : Face,
      (t.enabled f = true →
        (t.face f).port = (s.face f).port ∧ (t.face f).latch = (s.face f).latch ∧ (t.face f).scan = .sync ∧
        t.pxVs f = true ∧ t.pxDe f = false ∧
        (t.face f).supervisor =
          (if t.settings.waitMs = none then ⟨.off, .stopped, 0⟩ else ⟨.recovery, .running t.settings.windowMs, 0⟩) ∧
        t.portState f = (if (s.face f).port.inProgress ≠ none then .working
                         else if (s.face f).port.reply ≠ none then .replyWaiting else .ready)) ∧
      (t.enabled f = false →
        (t.face f).port.reply = none ∧ (t.face f).latch = 0 ∧ (t.face f).scan = .blank ∧
        t.pxVs f = false ∧ t.pxDe f = false ∧ t.pxData f = some 0 ∧
        (t.face f).supervisor = ⟨.off, .stopped, 0⟩ ∧ t.portState f = .absent ∧ t.attn f = false)

/-- The settings of a LOADED load (R193, R203): each field from its byte, or its default where the byte is out of range. -/
def Obligations.ConfigFieldsOrDefaults : Prop :=
  ∀ m : Vector Byte 32,
    ((configSettings m).address = if 1 ≤ m[2].toNat ∧ m[2].toNat ≤ 63 then m[2] else 63) ∧
    ((configSettings m).bitTimeUs = if m[3] = 0 then 100 else if m[3] = 2 then 400 else 200) ∧
    ((configSettings m).debounce = if m[4] = 1 then 1 else if m[4] = 2 then 2 else if m[4] = 8 then 8 else 4) ∧
    (∀ f : Face, (configSettings m).enabled[f] = m[5].getLsbD f.val ∧
      (configSettings m).priority[f].val = (m[7].toNat / 4 ^ f.val) % 4 ∧
      (configSettings m).orientation[f] =
        (if (m[6].toNat / 4 ^ f.val) % 4 = 0 then .deg0 else if (m[6].toNat / 4 ^ f.val) % 4 = 1 then .deg90
         else if (m[6].toNat / 4 ^ f.val) % 4 = 2 then .deg180 else .deg270)) ∧
    ((configSettings m).ageLimit = if 1 ≤ m[8].toNat ∧ m[8].toNat ≤ 15 then m[8].toNat else 4) ∧
    ((configSettings m).lineZone.val = if m[9].toNat ≤ 7 then m[9].toNat else 0) ∧
    ((configSettings m).waitMs = if m[10] = 0xFF then none else if m[10].toNat ≤ 7 then some (250 * 2 ^ m[10].toNat) else some 8000) ∧
    ((configSettings m).pulseMs = if m[11] = 0 then 20 else if m[11] = 1 then 50 else if m[11] = 3 then 200 else 100) ∧
    ((configSettings m).windowMs = if m[12] = 0 then 2000 else if m[12] = 1 then 5000 else if m[12] = 3 then 20000 else 10000) ∧
    ((configSettings m).pulseLimit = if 1 ≤ m[13].toNat ∧ m[13].toNat ≤ 7 then m[13].toNat else 3) ∧
    ((configSettings m).cycleMs = if m[14] = 0 then 2000 else if m[14] = 2 then 6000 else if m[14] = 3 then 8000 else 4000)

/-! ### What only some commands change -/

/-- Plane Memory, the supervisor records and the settings each change at their own commands alone (R133, R170, R193): the planes at
a full reset, at the end of their clearing and at pixel groups; the supervisors at a full reset, the end of the load, KICK and
the expiries; the settings at a full reset and at the end of the load. -/
def Obligations.OnlyTheirCommandsWrite : Prop :=
  ∀ (c : Instr) (s t : State), exec c s = .next t →
    (writesPlanes c = false → t.planes = s.planes) ∧
    (movesSupervisor c = false → ∀ f : Face, (t.face f).supervisor = (s.face f).supervisor) ∧
    (movesSettings c = false → t.settings = s.settings)

/-! ### The trunk link: feed and replies -/

/-- A frame as the head-end sends it, at every timing that R186 admits, is taken with the address, kind and data it was sent
with; the receiver then waits to reply, or is IDLE after a broadcast (R186 to R188, R202). The bound of 48 on the gap counts R187's
samples from the acceptance of the last edge, an edge accepted at the 48th being in time: log 19, the model's choice. -/
def Obligations.SentFrameIsTaken : Prop :=
  ∀ (n : Nat) (own : Byte) (d : DipTiming) (fr : Frame) (tr : Trunk),
    1 ≤ n → tr.atRest → d.seen n → (fr.address = 0 ∨ fr.address = own) → fr.data.length ≤ 8 →
    ∃ tr', Trunk.hear n own (frameFeed d fr) tr = (tr', some fr) ∧
      tr'.rx = (if fr.address = 0 then .idle else .turnaround) ∧ tr'.reply = tr.reply ∧ tr'.sink = tr.sink

/-- A frame for another address, and a frame whose check byte does not agree, are dropped: no frame is taken and the receiver is
in IDLE when the feed has passed (R187, R188). The commands that carry such a feed change the receiver alone; TRUNK_FRAME_TIMEOUT adds
48 samples at the accepted level, which drop a frame in BODY or CHECK (R187). What is kept after a drop (nothing of the frame) and how
the 48 samples are counted (from the acceptance of the last edge, at the accepted level) are the model's choices (log 19). -/
def Obligations.OtherFramesAreDropped : Prop :=
  (∀ (n : Nat) (own : Byte) (d : DipTiming) (fr : Frame) (tr : Trunk),
    1 ≤ n → tr.atRest → d.seen n → fr.address ≠ 0 → fr.address ≠ own →
    ∃ tr', Trunk.hear n own (frameFeed d fr) tr = (tr', none) ∧ tr'.rx = .idle) ∧
  (∀ (n : Nat) (own : Byte) (d : DipTiming) (fr : Frame) (check : Byte) (tr : Trunk),
    1 ≤ n → tr.atRest → d.seen n → (fr.address = 0 ∨ fr.address = own) → fr.data.length ≤ 8 →
    check ≠ crc8 (fr.address :: fr.kind :: byteOf fr.data.length :: fr.data) →
    ∃ tr', Trunk.hear n own
      (dipFeed d.sync d.gap ++
        (fr.address :: fr.kind :: byteOf fr.data.length :: fr.data ++ [check]).flatMap (byteFeed d)) tr = (tr', none) ∧
      tr'.rx = .idle) ∧
  (∀ (s : State) (feed : Feed) (tr : Trunk), s.heard feed = (tr, none) →
    exec (.trunkFrameDropped feed) s = .next { s with trunk := tr } ∧
    (tr.low = none → exec (.trunkFrameTimeout feed) s = .next { s with trunk := tr }) ∧
    (∀ l, tr.low = some l →
      (tr.rx = .idle ∨ tr.rx = .sync →
        exec (.trunkFrameTimeout feed) s = .next { s with trunk :=
          { tr with run := tr.run + 48, quiet := tr.quiet + 48, other := 0 } }) ∧
      (tr.rx = .body ∨ tr.rx = .check →
        exec (.trunkFrameTimeout feed) s = .next { s with trunk :=
          { tr with run := tr.run + 48, quiet := tr.quiet + 48, other := 0, rx := .idle, frame := [], bits := 0, bitCount := 0 } }) ∧
      (tr.rx = .off ∨ tr.rx = .turnaround ∨ tr.rx = .reply →
        exec (.trunkFrameTimeout feed) s = .next { s with trunk := tr })))

/-- The reply (R190): at the turnaround's end the pulses of the reply begin, a sync pulse and then each bit of kind, length, data
and CRC-8, a 1 on for one bit time and a 0 for a quarter, each off for one, with LOADSINK on in the first part of the pulse that
heads what is to be sent, and off with none; the bytes of an ACK, a NAK and a STATE are kind, length, data and the CRC-8, which R188
gives bit by bit: polynomial 07h, register from 00h, most significant bit first; at its end the receiver is IDLE with nothing to
send. That the reply buffer is then empty is the model's choice (log 36), and so is the feed level, unknown until one is accepted
(log 19). -/
def Obligations.ReplyIsSent : Prop :=
  (∀ (s : State) (r : TrunkReply), s.trunk.rx = .turnaround → s.trunk.reply = some r.bytes →
    exec .turnaroundEnd s = .next { s with trunk := { s.trunk with rx := .reply, sink := replyPulses r.bytes } } ∧
    State.loadSink { s with trunk := { s.trunk with rx := .reply, sink := replyPulses r.bytes } } = true) ∧
  (∀ s : State, s.loadSink = true ↔ ∃ p rest, s.trunk.sink = p :: rest ∧ 0 < p.on) ∧
  (∀ s : State, s.trunk.rx = .reply → ∃ t, exec .replyEnd s = .next t ∧ t = { s with trunk := t.trunk } ∧
    t.trunk.rx = .idle ∧ t.trunk.reply = none ∧ t.trunk.sink = [] ∧ t.trunk.low = none ∧ t.loadSink = false) ∧
  (∀ tag st, (TrunkReply.ack tag st).bytes =
    0x81 :: 3 :: Word16.bytes tag ++ [st.code] ++ [crc8 (0x81 :: 3 :: Word16.bytes tag ++ [st.code])]) ∧
  (∀ tag r, (TrunkReply.nak tag r).bytes =
    0x82 :: 3 :: Word16.bytes tag ++ [r.code] ++ [crc8 (0x82 :: 3 :: Word16.bytes tag ++ [r.code])]) ∧
  (∀ page : Bytes, (TrunkReply.state page).bytes =
    0x83 :: byteOf page.length :: page ++ [crc8 (0x83 :: byteOf page.length :: page)]) ∧
  (∀ bs : Bytes, replyPulses bs =
    ⟨8, 4⟩ :: bs.flatMap (fun b => (List.range 8).map (fun i => if b.getLsbD (7 - i) then ⟨4, 4⟩ else ⟨1, 4⟩))) ∧
  crc8 [] = 0 ∧
  (∀ (bs : Bytes) (b : Byte) (r : Nat → Byte), r 0 = crc8 bs →
    (∀ i, i < 8 → r (i + 1) = (r i <<< 1) ^^^ (if (r i).getLsbD 7 = b.getLsbD (7 - i) then 0 else 0x07)) →
    crc8 (bs ++ [b]) = r 8)

/-! ### Update transactions -/

/-- OPEN that passes every check of R25 begins the transaction in STAGING with the starting image of R24; in STAGING it displaces
the staged transaction first (R26), whose chain returns to the free set and whose tag is recorded with DISPLACED. The starting images
are those of R24's table, byte by byte in the layouts of R201; an operation with no image has none. -/
def Obligations.OpenBeginsTransaction : Prop :=
  (∀ (s : State) (feed : Feed) (tr : Trunk) (fr : Frame) (k : TargetKind) (op : Op) (x : Txn),
    s.heard feed = (tr, some fr) → fr.kind = 0x01 → fr.data.length = 6 →
    TargetKind.ofCode (fr.data.getD 2 0) = some k → Op.ofCode (fr.data.getD 5 0) = some op → opAllowed k op = true →
    num16 fr.data 3 < k.count → (k = .entry → stateAllows op (s.entry (num16 fr.data 3)).state = true) →
    x = ⟨BitVec.ofNat 16 (num16 fr.data 0), k, num16 fr.data 3, op⟩ →
    (s.update.state = .idle →
      exec (.openFrame feed) s = .next { s with
        update := { s.update with state := .staging, txn := some x, image := s.startImage k x.number op, chain := ⟨[], 0⟩ }
        trunk := tr.answered fr.address (.ack x.tag .staging) }) ∧
    (∀ old : Txn, s.update.state = .staging → s.update.txn = some old →
      exec (.openFrame feed) s = .next { s with
        routes := s.routes.release s.update.chain
        update := { s.update with
          state := .staging, txn := some x, image := s.startImage k x.number op, chain := ⟨[], 0⟩
          recordTag := old.tag, recordOutcome := .displaced }
        trunk := tr.answered fr.address (.ack x.tag .staging) })) ∧
  (∀ (s : State) (n : Nat),
    startsAs (s.startImage .entry n .put) 217
      (fun a => if a = 20 then 1 else if a = 13 ∨ a = 14 ∨ (16 ≤ a ∧ a ≤ 19) then 0xFF else 0) ∧
    startsAs (s.startImage .entry n .patch) 217 (fun a => if a = 20 then 0 else (s.entry n).image.read a) ∧
    startsAs (s.startImage .template n .load) 256
      (fun a => match (s.template n).cells with
                | some m => m.read a
                | none => 0) ∧
    startsAs (s.startImage .glyphPage n .load) 4608
      (fun a => match s.glyphPage n with
                | some m => m.read a
                | none => 0) ∧
    (∀ l : Fin 4, n = l.val → startsAs (s.startImage .language n .load) 4
      (fun a => match s.languages[l] with
                | some m => m.read a
                | none => if a = 2 ∨ a = 3 then 0xFF else 0)) ∧
    (∀ z : Fin 8, n = z.val → startsAs (s.startImage .evacPlan n .load) 315
      (fun a => match s.evac.plans[z] with
                | some m => m.read a
                | none => if a = 0 ∨ a = 1 then 0xFF else 0)) ∧
    (∀ k op, op ≠ .put → op ≠ .patch → op ≠ .load → s.startImage k n op = none))

/-- OPEN refused (R25 to R27), in every UC state: length, then BUSY, then kind and operation, then the number's range, then the
entry's state; from the third check on, the record takes the OPEN's tag with the refusal. In STAGING the staged transaction is
displaced first, whatever the check that fails, and UC is left in IDLE with its chain released and its image dropped (R26). The
operations of each kind, the numbers of each kind and the states each operation may start from are those of R24 and R5, the codes of
kinds and operations are those of R198, and the tag of a NAK is that of R23. A released chain gives its blocks back to the free set and
changes no cell (R14). -/
def Obligations.OpenIsRefusedInOrder : Prop :=
  (∀ (s : State) (feed : Feed) (tr : Trunk) (fr : Frame) (tag : Word16),
    s.heard feed = (tr, some fr) → fr.kind = 0x01 → tag = BitVec.ofNat 16 (num16 fr.data 0) →
    (s.update.state ≠ .staging → fr.data.length ≠ 6 →
      exec (.openFrame feed) s = .next { s with trunk := tr.answered fr.address (.nak s.replyTag .format) }) ∧
    (fr.data.length = 6 → s.update.state = .committing ∨ s.update.state = .deferred →
      exec (.openFrame feed) s = .next { s with trunk := tr.answered fr.address (.nak s.replyTag .busy) }) ∧
    (∀ base : State,
      (s.update.state = .idle ∧ s.update.txn = none ∧ base = s) ∨
      (∃ old : Txn, s.update.state = .staging ∧ s.update.txn = some old ∧ base = { s with
        routes := s.routes.release s.update.chain
        update := { s.update with
          state := .idle, txn := none, image := none, chain := ⟨[], 0⟩, recordTag := old.tag, recordOutcome := .displaced } }) →
      (fr.data.length ≠ 6 →
        exec (.openFrame feed) s = .next { base with trunk := tr.answered fr.address (.nak base.update.recordTag .format) }) ∧
      (fr.data.length = 6 →
        ((∀ k op, TargetKind.ofCode (fr.data.getD 2 0) = some k → Op.ofCode (fr.data.getD 5 0) = some op →
            opAllowed k op = false) →
          exec (.openFrame feed) s = .next { base with
            update := { base.update with recordTag := tag, recordOutcome := .refused .format }
            trunk := tr.answered fr.address (.nak tag .format) }) ∧
        (∀ k op, TargetKind.ofCode (fr.data.getD 2 0) = some k → Op.ofCode (fr.data.getD 5 0) = some op →
          opAllowed k op = true →
          (k.count ≤ num16 fr.data 3 →
            exec (.openFrame feed) s = .next { base with
              update := { base.update with recordTag := tag, recordOutcome := .refused .format }
              trunk := tr.answered fr.address (.nak tag .range) }) ∧
          (num16 fr.data 3 < k.count → k = .entry → stateAllows op (s.entry (num16 fr.data 3)).state = false →
            exec (.openFrame feed) s = .next { base with
              update := { base.update with recordTag := tag, recordOutcome := .refused .state }
              trunk := tr.answered fr.address (.nak tag .state) }))))) ∧
  (∀ k op, opAllowed k op = true ↔
    (k = .entry ∧ (op = .put ∨ op = .patch ∨ op = .hide ∨ op = .show ∨ op = .remove)) ∨
    (k ≠ .entry ∧ (op = .load ∨ op = .clear))) ∧
  (TargetKind.entry.count = 1024 ∧ TargetKind.template.count = 64 ∧ TargetKind.glyphPage.count = 64 ∧
    TargetKind.language.count = 4 ∧ TargetKind.evacPlan.count = 8) ∧
  (∀ op st, stateAllows op st = true ↔
    op = .put ∨ ((op = .patch ∨ op = .remove) ∧ (st = .live ∨ st = .hidden)) ∨ (op = .hide ∧ st = .live) ∨
    (op = .show ∧ st = .hidden)) ∧
  (∀ s : State, (s.update.txn = none → s.replyTag = s.update.recordTag) ∧
    ∀ x, s.update.txn = some x → s.replyTag = x.tag) ∧
  (∀ (b : Byte) (k : TargetKind), TargetKind.ofCode b = some k ↔ b =
    (match k with
     | .entry => 0
     | .template => 1
     | .glyphPage => 2
     | .language => 3
     | .evacPlan => 4)) ∧
  (∀ (b : Byte) (op : Op), Op.ofCode b = some op ↔ b =
    (match op with
     | .put => 0
     | .patch => 1
     | .hide => 2
     | .show => 3
     | .remove => 4
     | .load => 5
     | .clear => 6)) ∧
  (∀ (r : RouteStore) (chain : Chain), (r.release chain).cells = r.cells ∧
    ∀ b, b ∈ (r.release chain).allocated ↔ b ∈ r.allocated ∧ b ∉ chain.blocks)

/-- CHUNK (R28, R31): in STAGING, with 3 to 8 bytes inside the image, the content bytes overwrite the image from the offset, and
every other image byte keeps its value; the refusals leave all but the reply as it was. -/
def Obligations.ChunkOverwritesImage : Prop :=
  ∀ (s : State) (feed : Feed) (tr : Trunk) (fr : Frame), s.heard feed = (tr, some fr) → fr.kind = 0x02 →
    (∀ (x : Txn) (i : Image), s.update.state = .staging → s.update.txn = some x → s.update.image = some i → 3 ≤ fr.data.length →
      (num16 fr.data 0 + (fr.data.length - 2) ≤ i.size →
        (exec (.chunkFrame feed) s = .next { s with
          update := { s.update with image := some { i with bytes := i.bytes.writeBytes (num16 fr.data 0) (fr.data.drop 2) } }
          trunk := tr.answered fr.address (.ack x.tag .staging) }) ∧
        ∀ a, (i.bytes.writeBytes (num16 fr.data 0) (fr.data.drop 2)).read a =
          if num16 fr.data 0 ≤ a ∧ a < num16 fr.data 0 + (fr.data.length - 2) then fr.data.getD (2 + (a - num16 fr.data 0)) 0
          else i.bytes.read a) ∧
      (i.size < num16 fr.data 0 + (fr.data.length - 2) →
        exec (.chunkFrame feed) s = .next { s with trunk := tr.answered fr.address (.nak x.tag .range) })) ∧
    (s.update.state = .staging → fr.data.length < 3 →
      exec (.chunkFrame feed) s = .next { s with trunk := tr.answered fr.address (.nak s.replyTag .format) }) ∧
    (s.update.state = .staging → 3 ≤ fr.data.length → s.update.image = none →
      exec (.chunkFrame feed) s = .next { s with trunk := tr.answered fr.address (.nak s.replyTag .state) }) ∧
    (s.update.state = .idle →
      exec (.chunkFrame feed) s = .next { s with trunk := tr.answered fr.address (.nak s.replyTag .state) }) ∧
    (s.update.state = .committing ∨ s.update.state = .deferred →
      exec (.chunkFrame feed) s = .next { s with trunk := tr.answered fr.address (.nak s.replyTag .busy) })

/-- WAYPOINTS (R13, R29 to R31): a frame of one or two waypoints is appended in order, a new chain or a full last block taking the
lowest free block; with no block to give, the whole frame is refused and the transaction ends REFUSED SPACE. The waypoints of a frame
are its data by fours, the first byte the most significant, the first four bytes first (R196, R202), and each is staged on what the one
before it left (StagedWaypointEndsTheRoute says how one is). An ENTRY PUT and PATCH take waypoints (R24, R29). -/
def Obligations.WaypointsExtendChain : Prop :=
  (∀ a b c d : Byte, frameWaypoints [a, b, c, d] = [a ++ b ++ c ++ d]) ∧
  (∀ a b c d e f g h : Byte, frameWaypoints [a, b, c, d, e, f, g, h] = [a ++ b ++ c ++ d, e ++ f ++ g ++ h]) ∧
  (∀ (w v : Waypoint) (p : RouteStore × Chain), stageWaypoints [w] p = stageWaypoint w p ∧
    (stageWaypoint w p = none → stageWaypoints [w, v] p = none) ∧
    ∀ q, stageWaypoint w p = some q → stageWaypoints [w, v] p = stageWaypoint v q) ∧
  (∀ x : Txn, x.takesWaypoints = true ↔ x.kind = .entry ∧ (x.op = .put ∨ x.op = .patch)) ∧
  ∀ (s : State) (feed : Feed) (tr : Trunk) (fr : Frame), s.heard feed = (tr, some fr) → fr.kind = 0x03 →
    (∀ (x : Txn), s.update.state = .staging → s.update.txn = some x → fr.data.length = 4 ∨ fr.data.length = 8 →
      (x.takesWaypoints = true → s.update.chain.count + fr.data.length / 4 ≤ 64 →
        (∀ r chain, stageWaypoints (frameWaypoints fr.data) (s.routes, s.update.chain) = some (r, chain) →
          exec (.waypointsFrame feed) s = .next { s with
            routes := r, update := { s.update with chain := chain }
            trunk := tr.answered fr.address (.ack x.tag .staging) }) ∧
        (stageWaypoints (frameWaypoints fr.data) (s.routes, s.update.chain) = none →
          exec (.waypointsFrame feed) s = .next { s with
            routes := s.routes.release s.update.chain
            update := { s.update with state := .idle, txn := none, image := none, chain := ⟨[], 0⟩
                                      recordTag := x.tag, recordOutcome := .refused .space }
            trunk := tr.answered fr.address (.nak x.tag .space) })) ∧
      (x.takesWaypoints = false →
        exec (.waypointsFrame feed) s = .next { s with trunk := tr.answered fr.address (.nak x.tag .state) }) ∧
      (x.takesWaypoints = true → 64 < s.update.chain.count + fr.data.length / 4 →
        exec (.waypointsFrame feed) s = .next { s with trunk := tr.answered fr.address (.nak x.tag .range) })) ∧
    (s.update.state = .staging → fr.data.length ≠ 4 → fr.data.length ≠ 8 →
      exec (.waypointsFrame feed) s = .next { s with trunk := tr.answered fr.address (.nak s.replyTag .format) }) ∧
    (s.update.state = .idle →
      exec (.waypointsFrame feed) s = .next { s with trunk := tr.answered fr.address (.nak s.replyTag .state) }) ∧
    (s.update.state = .committing ∨ s.update.state = .deferred →
      exec (.waypointsFrame feed) s = .next { s with trunk := tr.answered fr.address (.nak s.replyTag .busy) })

/-- One waypoint staged in a sound state (R11, R13, R30): it stands at the end of the route, the waypoints before it keep their places,
no entry's route changes, and the block taken, if one is needed, is the lowest free one. None is staged exactly when the staging chain
is empty or its last block full and no block of the 512 is free. -/
def Obligations.StagedWaypointEndsTheRoute : Prop :=
  ∀ (s : State) (w : Waypoint), s.RoutesSound → s.update.chain.count < 64 →
    (stageWaypoint w (s.routes, s.update.chain) = none ↔
      s.update.chain.count % 8 = 0 ∧ ∀ b, b < 512 → b ∈ s.routes.allocated) ∧
    ∀ (r : RouteStore) (chain : Chain), stageWaypoint w (s.routes, s.update.chain) = some (r, chain) →
    r.waypoints chain = s.routes.waypoints s.update.chain ++ [w] ∧
    (∀ n other, (s.entry n).route = some other → r.waypoints other = s.routes.waypoints other) ∧
    (s.update.chain.count % 8 ≠ 0 → r.allocated = s.routes.allocated ∧ chain.blocks = s.update.chain.blocks) ∧
    (s.update.chain.count % 8 = 0 → ∃ b, chain.blocks = s.update.chain.blocks ++ [b] ∧ b < 512 ∧ b ∉ s.routes.allocated ∧
      (∀ a, a < b → a ∈ s.routes.allocated) ∧ ∀ a, a ∈ r.allocated ↔ a = b ∨ a ∈ s.routes.allocated)

/-- CLOSE refused (R31 to R33): a wrong length leaves the transaction staged; a CRC-16 that differs ends it REFUSED CHECK, a failed
format check ends it REFUSED FORMAT, each with its chain returned to the free set and its image dropped. The format check is R33's,
byte by byte in the layouts of R201: an ENTRY image under R3 and R4 with a route action that agrees with the staged waypoints (R14),
a LANGUAGE image, an EVAC_PLAN image under R175, and no check for any other operation. The CRC-16 is R32's, bit by bit: polynomial
1021h, register from FFFFh, each byte most significant bit first; its content is every byte of the staged image from offset 0, and then
the staged waypoints in arrival order, each in its 4-byte form, the waypoints of a chain being those of R11. -/
def Obligations.CloseIsRefusedInOrder : Prop :=
  crc16 [] = 0xFFFF ∧
  (∀ (bs : Bytes) (b : Byte) (r : Nat → Word16), r 0 = crc16 bs →
    (∀ i, i < 8 → r (i + 1) = (r i <<< 1) ^^^ (if (r i).getLsbD 15 = b.getLsbD (7 - i) then 0 else 0x1021)) →
    crc16 (bs ++ [b]) = r 8) ∧
  (∀ (s : State) (image waypoints : Bytes),
    waypoints = (s.routes.waypoints s.update.chain).flatMap (fun w =>
      [w.extractLsb' 24 8, w.extractLsb' 16 8, w.extractLsb' 8 8, w.extractLsb' 0 8]) →
    (s.update.image = none → image = []) → (∀ i, s.update.image = some i → image = (List.range i.size).map i.bytes.read) →
    s.crcContent = image ++ waypoints) ∧
  (∀ (r : RouteStore) (chain : Chain), (r.waypoints chain).length = chain.count ∧
    ∀ k, k < chain.count → (r.waypoints chain)[k]? = some (Sparse.read 0 r.cells (8 * chain.blocks.getD (k / 8) 0 + k % 8))) ∧
  (∀ (s : State) (feed : Feed) (tr : Trunk) (fr : Frame), s.heard feed = (tr, some fr) → fr.kind = 0x04 →
    (∀ x : Txn, s.update.state = .staging → s.update.txn = some x →
      (fr.data.length ≠ 2 →
        exec (.closeFrame feed) s = .next { s with trunk := tr.answered fr.address (.nak x.tag .format) }) ∧
      (fr.data.length = 2 → (crc16 s.crcContent).toNat ≠ num16 fr.data 0 →
        exec (.closeFrame feed) s = .next { s with
          routes := s.routes.release s.update.chain
          update := { s.update with state := .idle, txn := none, image := none, chain := ⟨[], 0⟩
                                    recordTag := x.tag, recordOutcome := .refused .check }
          trunk := tr.answered fr.address (.nak x.tag .check) }) ∧
      (fr.data.length = 2 → (crc16 s.crcContent).toNat = num16 fr.data 0 → s.formatOk x = false →
        exec (.closeFrame feed) s = .next { s with
          routes := s.routes.release s.update.chain
          update := { s.update with state := .idle, txn := none, image := none, chain := ⟨[], 0⟩
                                    recordTag := x.tag, recordOutcome := .refused .format }
          trunk := tr.answered fr.address (.nak x.tag .format) })) ∧
    (s.update.state = .idle →
      exec (.closeFrame feed) s = .next { s with trunk := tr.answered fr.address (.nak s.replyTag .state) }) ∧
    (s.update.state = .committing ∨ s.update.state = .deferred →
      exec (.closeFrame feed) s = .next { s with trunk := tr.answered fr.address (.nak s.replyTag .busy) })) ∧
  (∀ (s : State) (x : Txn) (m : Mem), m = (match s.update.image with
                                          | some i => i.bytes
                                          | none => []) →
    (x.kind = .entry → x.op = .put ∨ x.op = .patch →
      (s.formatOk x = true ↔
        (1 ≤ m.num 0 ∧ m.num 0 ≤ 6 ∧ (∀ i, i < m.num 0 → m.num16 (1 + 2 * i) < 64)) ∧
        (m.num 13 ≤ 7 ∧ m.num 14 ≤ 63 ∧ m.num 15 ≤ 2 ∧ m.num16 16 ≤ 4095 ∧ m.num16 18 ≤ 4095) ∧
        (1 ≤ m.num 21 ∧ ∀ l : Fin 4, m.num (21 + 49 * l.val) ≤ 24 ∧
          ∀ i, i < m.num (21 + 49 * l.val) → m.num16 (22 + 49 * l.val + 2 * i) < 4096) ∧
        ((m.num 20 = 0 ∧ x.op = .patch ∧ s.update.chain.count = 0) ∨ (m.num 20 = 1 ∧ s.update.chain.count = 0) ∨
          (m.num 20 = 2 ∧ 2 ≤ s.update.chain.count ∧ s.update.chain.count ≤ 64)))) ∧
    (x.kind = .language → x.op = .load →
      (s.formatOk x = true ↔ m.num 0 ≤ 1 ∧ (m.num16 2 ≤ 4095 ∨ m.num16 2 = 0xFFFF))) ∧
    (x.kind = .evacPlan → x.op = .load →
      (s.formatOk x = true ↔
        (m.num16 0 ≤ 1023 ∨ m.num16 0 = 0xFFFF) ∧
        (m.num16 2 ≤ 1079 ∧ m.num16 4 ≤ 1919 ∧ m.num16 6 ≤ 4095 ∧ m.num16 8 ≤ 4095 ∧ m.num 10 ≤ 7 ∧ 1 ≤ m.num 11 ∧ m.num 11 ≤ 16) ∧
        ∀ l : Fin 4, m.num (60 + 61 * l.val) ≤ 30 ∧
          ∀ i, i < m.num (60 + 61 * l.val) → m.num16 (61 + 61 * l.val + 2 * i) < 4096)) ∧
    (¬(x.kind = .entry ∧ (x.op = .put ∨ x.op = .patch)) → ¬(x.kind = .language ∧ x.op = .load) →
      ¬(x.kind = .evacPlan ∧ x.op = .load) → s.formatOk x = true))

/-- CLOSE of an ENTRY transaction that passes both checks (R5 to R7, R14, R34, R35, R148): the entry takes state, content and
generation at once, its old chain and the staging chain move, a reposition is in flight, every face's slots that hold the entry are
marked with their events as State.commitNotice does (pinned by CommitNoticeMarksSlots), DIRECTORY_CHANGED is raised on the enabled
faces, and EC is given the notice (CommitReachesEvacuation); nothing else changes. The route action is byte 20 of the image: KEEP, NONE
or NEW (R198, R201). -/
def Obligations.CloseCommitsEntry : Prop :=
  (∀ m : Mem, imgRouteAction m =
    if m.num 20 = 0 then some .keep else if m.num 20 = 1 then some .none else if m.num 20 = 2 then some .new else none) ∧
  ∀ (s : State) (feed : Feed) (tr : Trunk) (fr : Frame) (x : Txn), s.heard feed = (tr, some fr) → fr.kind = 0x04 →
    s.update.state = .staging → s.update.txn = some x → x.kind = .entry → fr.data.length = 2 →
    (crc16 s.crcContent).toNat = num16 fr.data 0 → s.formatOk x = true →
    ∃ t : State, exec (.closeFrame feed) s = .next (t.noticeEntry x.number) ∧
      t = { s with
        directory := t.directory, routes := t.routes, faces := t.faces
        update := { s.update with state := .committing, chain := ⟨[], 0⟩ }
        orders := { s.orders with reposition := some ⟨x.number, (s.entry x.number).state, (t.entry x.number).state⟩ }
        trunk := tr.answered fr.address (.ack x.tag .committing) } ∧
      (∀ n, n ≠ x.number → t.entry n = s.entry n) ∧
      (t.entry x.number).generation = (s.entry x.number).generation + 1 ∧
      (t.entry x.number).state =
        (match x.op with
         | .put | .show => EntryState.live
         | .hide => EntryState.hidden
         | .remove => EntryState.free
         | _ => (s.entry x.number).state) ∧
      (x.op = .put ∨ x.op = .patch → (t.entry x.number).image = s.staged ∧
        (imgRouteAction s.staged = some .new → (t.entry x.number).route = some s.update.chain) ∧
        (imgRouteAction s.staged = some .none → (t.entry x.number).route = none) ∧
        (imgRouteAction s.staged = some .keep → (t.entry x.number).route = (s.entry x.number).route ∧ t.routes = s.routes) ∧
        (imgRouteAction s.staged ≠ some .keep →
          t.routes = ((s.entry x.number).route.map s.routes.release).getD s.routes)) ∧
      (x.op = .hide ∨ x.op = .show →
        (t.entry x.number).image = (s.entry x.number).image ∧ (t.entry x.number).route = (s.entry x.number).route ∧
        t.routes = s.routes) ∧
      (x.op = .remove → (t.entry x.number).image = [] ∧ (t.entry x.number).route = none ∧
        t.routes = ((s.entry x.number).route.map s.routes.release).getD s.routes) ∧
      ∀ f : Face,
        (∀ c : FaceContext, c = (s.commitNotice x.number (t.entry x.number).state).face f →
          t.face f = { c with latch := if s.enabled f = true then c.latch ||| 0x040 else c.latch }) ∧
        ∀ i : Fin 12, (t.face f).cards[i] =
          (match (s.face f).cards[i] with
           | none => none
           | some card =>
             if card.entry = x.number ∧ (card.state = .drawing ∨ card.state = .current ∨ card.state = .stale) then
               some { card with state := if (t.entry x.number).state = .live then .stale else .gone }
             else some card)

/-- The marking of the slots and the two slot events at a commit's notice (R148, R149), which CLOSE gives at its commit
(CloseCommitsEntry): SLOT_CHANGED once where a card slot is marked, ROUTE_CHANGED where the route slot is; a face that is not enabled
has its slots marked without an event (R158). Nothing else of any face changes. -/
def Obligations.CommitNoticeMarksSlots : Prop :=
  ∀ (s : State) (n : Nat) (new : EntryState) (f : Face),
    s.commitNotice n new = { s with faces := (s.commitNotice n new).faces } ∧
    (∀ c : FaceContext, c = (s.commitNotice n new).face f →
      c = { s.face f with cards := c.cards, route := c.route, latch := c.latch }) ∧
    (∀ i : Fin 12, ((s.commitNotice n new).face f).cards[i] = (s.face f).cards[i].map (fun card =>
      if card.entry = n ∧ (card.state = .drawing ∨ card.state = .current ∨ card.state = .stale) then
        { card with state := if new = .live then .stale else .gone }
      else card)) ∧
    (s.enabled f = false → ((s.commitNotice n new).face f).latch = (s.face f).latch) ∧
    (s.enabled f = true → ((s.commitNotice n new).face f).latch = (s.face f).latch |||
      (if ∃ (i : Fin 12) (card : Card), (s.face f).cards[i] = some card ∧ card.entry = n ∧
          (card.state = .drawing ∨ card.state = .current ∨ card.state = .stale) then 0x010 else 0) |||
      (if ∃ r, (s.face f).route = some r ∧ r.entry = n ∧
          (r.state = .drawing ∨ r.state = .drawn ∨ r.state = .stale ∨ (r.state = .disturbed ∧ new ≠ .live))
        then 0x020 else 0)) ∧
    (((s.commitNotice n new).face f).route =
      (match (s.face f).route with
       | none => none
       | some r =>
         if r.entry ≠ n then some r
         else match r.state, new with
           | .gone, _ => some r
           | .disturbed, .live => some r
           | _, .live => some { r with state := .stale }
           | _, _ => some { r with state := .gone }))

/-- EC's part in a commit (R35, R39, R180, R181): a notice for the shown plan or its exit entry sets redraw pending while a drawing
is in flight in TAKEOVER or SHOWING, starts a redraw in SHOWING with none in flight, and has no effect otherwise. A plan's exit entry is
its bytes 0 and 1, FFFFh where it has none (R201). -/
def Obligations.CommitReachesEvacuation : Prop :=
  (∀ m : Mem, planExit m = if m.num16 0 = 0xFFFF then none else some (m.num16 0)) ∧
  ∀ (s : State) (t : State),
    (∃ n, t = s.noticeEntry n ∧ (s.evac.plans[s.shownZone].bind planExit) = some n) ∨ t = s.noticePlan s.shownZone.val →
    (s.evac.state = .normal ∨ s.evac.state = .releasing → t = s) ∧
    (s.evac.state = .takeover → s.evac.drawing = none → t = s) ∧
    (s.evac.state = .takeover ∨ s.evac.state = .showing → s.evac.drawing ≠ none →
      t = { s with evac := { s.evac with redraw := true } }) ∧
    (s.evac.state = .showing → s.evac.drawing = none → t = s.startView) ∧
    (∀ n, (s.evac.plans[s.shownZone].bind planExit) ≠ some n → s.noticeEntry n = s) ∧
    (∀ z, z ≠ s.shownZone.val → s.noticePlan z = s)

/-- CLOSE of a LANGUAGE, EVAC_PLAN, GLYPH_PAGE or free TEMPLATE transaction that passes both checks (R34, R36 to R40): a slot or a
plan takes its content and the commit ends at once; a LOAD of a page or a template begins its copy; a CLEAR ends at once. The
commit's end moves the count, records COMMITTED, clears the cold flag and raises its event on the enabled faces. That a commit which
ends at once is answered ACK COMMITTING, with UC in IDLE after the step, is deduced from R34 (log 10). That a page or a template keeps
its old bytes until copy done is log 16. What is raised, and what a page or a template replaced leaves, is spelled first. -/
def Obligations.CloseCommitsStores : Prop :=
  (∀ (s : State) (e : Event) (bit : BitVec 12), (e = .glyphsChanged ∧ bit = 0x080) ∨ (e = .templateChanged ∧ bit = 0x100) →
    s.raiseAll e = { s with faces := (s.raiseAll e).faces } ∧
    ∀ f : Face, (s.raiseAll e).face f = { s.face f with
      latch := if s.enabled f = true then (s.face f).latch ||| bit else (s.face f).latch }) ∧
  (∀ (s : State) (n : Nat) (v : Option Mem), s.setGlyphPage n v = { s with glyphs := (s.setGlyphPage n v).glyphs } ∧
    (s.setGlyphPage n v).glyphs.copying = s.glyphs.copying ∧
    ∀ k, (s.setGlyphPage n v).glyphPage k = if k = n then v else s.glyphPage k) ∧
  (∀ (s : State) (n : Nat) (v : Template), s.setTemplate n v = { s with templates := (s.setTemplate n v).templates } ∧
    (s.setTemplate n v).templates.copying = s.templates.copying ∧ (s.setTemplate n v).templates.entered = s.templates.entered ∧
    ∀ k, (s.setTemplate n v).template k = if k = n then v else s.template k) ∧
  ∀ (s : State) (feed : Feed) (tr : Trunk) (fr : Frame) (x : Txn) (done : Update), s.heard feed = (tr, some fr) → fr.kind = 0x04 →
    s.update.state = .staging → s.update.txn = some x → fr.data.length = 2 →
    (crc16 s.crcContent).toNat = num16 fr.data 0 → s.formatOk x = true →
    done = { s.update with state := .idle, txn := none, image := none, chain := ⟨[], 0⟩, count := s.update.count + 1
                           recordTag := x.tag, recordOutcome := .committed, cold := false } →
    (∀ l : Fin 4, x.kind = .language → x.number = l.val → x.op = .load ∨ x.op = .clear →
      exec (.closeFrame feed) s = .next (State.raiseAll { s with
        languages := s.languages.set l
          (if x.op = .load then some s.staged else if l = 0 then some [(2, 0xFF), (3, 0xFF)] else none)
        update := done, trunk := tr.answered fr.address (.ack x.tag .committing) } .glyphsChanged)) ∧
    (∀ z : Fin 8, x.kind = .evacPlan → x.number = z.val → x.op = .load ∨ x.op = .clear →
      exec (.closeFrame feed) s = .next (State.noticePlan { s with
        evac := { s.evac with plans := s.evac.plans.set z (if x.op = .load then some s.staged else none) }
        update := done, trunk := tr.answered fr.address (.ack x.tag .committing) } z.val)) ∧
    (x.kind = .glyphPage → x.op = .load →
      ∃ t, exec (.closeFrame feed) s = .next t ∧
        t = { s with glyphs := t.glyphs, update := { s.update with state := .committing }
                     trunk := tr.answered fr.address (.ack x.tag .committing) } ∧
        t.glyphs.copying = some x.number ∧ (t.glyphPage x.number).isSome = true ∧
        ∀ p, p ≠ x.number → t.glyphPage p = s.glyphPage p) ∧
    (x.kind = .glyphPage → x.op = .clear →
      exec (.closeFrame feed) s = .next (State.raiseAll { s.setGlyphPage x.number none with
        update := done, trunk := tr.answered fr.address (.ack x.tag .committing) } .glyphsChanged)) ∧
    (x.kind = .template → (s.template x.number).use = 0 → x.number ∉ s.templates.entered → x.op = .load →
      ∃ t, exec (.closeFrame feed) s = .next t ∧
        t = { s with templates := t.templates, update := { s.update with state := .committing }
                     trunk := tr.answered fr.address (.ack x.tag .committing) } ∧
        t.templates.copying = some x.number ∧ t.templates.entered = s.templates.entered ∧
        (t.template x.number).cells.isSome = true ∧ (t.template x.number).use = 0 ∧
        ∀ k, k ≠ x.number → t.template k = s.template k) ∧
    (x.kind = .template → (s.template x.number).use = 0 → x.number ∉ s.templates.entered → x.op = .clear →
      exec (.closeFrame feed) s = .next (State.raiseAll { s.setTemplate x.number ⟨none, 0⟩ with
        update := done, trunk := tr.answered fr.address (.ack x.tag .committing) } .templateChanged))

/-- DEFERRED (R34, R41, R42): a CLOSE of a template in use, or entered by the segment that holds the engine, waits in DEFERRED with
its image held; ABANDON ends a transaction that is STAGING or DEFERRED with ABANDONED, and is refused otherwise (R31). -/
def Obligations.DeferredAndAbandoned : Prop :=
  ∀ (s : State) (feed : Feed) (tr : Trunk) (fr : Frame), s.heard feed = (tr, some fr) →
    (∀ x : Txn, fr.kind = 0x04 → s.update.state = .staging → s.update.txn = some x → fr.data.length = 2 →
      (crc16 s.crcContent).toNat = num16 fr.data 0 → s.formatOk x = true → x.kind = .template →
      0 < (s.template x.number).use ∨ x.number ∈ s.templates.entered →
      exec (.closeFrame feed) s = .next { s with
        update := { s.update with state := .deferred }, trunk := tr.answered fr.address (.ack x.tag .deferred) }) ∧
    (∀ x : Txn, fr.kind = 0x05 → fr.data = [] → s.update.state = .staging ∨ s.update.state = .deferred →
      s.update.txn = some x →
      exec (.abandonFrame feed) s = .next { s with
        routes := s.routes.release s.update.chain
        update := { s.update with state := .idle, txn := none, image := none, chain := ⟨[], 0⟩
                                  recordTag := x.tag, recordOutcome := .abandoned }
        trunk := tr.answered fr.address (.ack x.tag .idle) }) ∧
    (fr.kind = 0x05 → fr.data = [] → s.update.state = .idle →
      exec (.abandonFrame feed) s = .next { s with trunk := tr.answered fr.address (.nak s.replyTag .state) }) ∧
    (fr.kind = 0x05 → fr.data = [] → s.update.state = .committing →
      exec (.abandonFrame feed) s = .next { s with trunk := tr.answered fr.address (.nak s.replyTag .busy) }) ∧
    (fr.kind = 0x05 → fr.data ≠ [] →
      exec (.abandonFrame feed) s = .next { s with trunk := tr.answered fr.address (.nak s.replyTag .format) })

/-- PURGE (R31, R43): refused with STATE out of NORMAL, also in COMMITTING and during a purge (log 31, the model's choice between two
passages of the spec), and with BUSY in COMMITTING and during a purge in NORMAL; otherwise the transaction, if one is held, ends
PURGED, the purge is in progress, UC is COMMITTING, and the purge claims the engine. -/
def Obligations.PurgeIsAcceptedOrRefused : Prop :=
  ∀ (s : State) (feed : Feed) (tr : Trunk) (fr : Frame), s.heard feed = (tr, some fr) → fr.kind = 0x09 →
    (fr.data ≠ [] →
      exec (.purgeFrame feed) s = .next { s with trunk := tr.answered fr.address (.nak s.replyTag .format) }) ∧
    (fr.data = [] → s.evac.state ≠ .normal →
      exec (.purgeFrame feed) s = .next { s with trunk := tr.answered fr.address (.nak s.replyTag .state) }) ∧
    (fr.data = [] → s.evac.state = .normal → s.update.state = .committing ∨ s.update.purging = true →
      exec (.purgeFrame feed) s = .next { s with trunk := tr.answered fr.address (.nak s.replyTag .busy) }) ∧
    (fr.data = [] → s.evac.state = .normal → s.update.state ≠ .committing → s.update.purging = false →
      (s.update.txn = none →
        exec (.purgeFrame feed) s = .next (State.arbitrate { s with
          update := { s.update with purging := true, state := .committing }
          trunk := tr.answered fr.address (.ack s.update.recordTag .committing) })) ∧
      (∀ x, s.update.txn = some x →
        exec (.purgeFrame feed) s = .next (State.arbitrate { s with
          routes := s.routes.release s.update.chain
          update := { s.update with purging := true, state := .committing, txn := none, image := none, chain := ⟨[], 0⟩
                                    recordTag := x.tag, recordOutcome := .purged }
          trunk := tr.answered fr.address (.ack x.tag .committing) })))

/-- ALARM and ALL_CLEAR (R173, R174, R180, R181, R183), and the frames refused by their length or kind (R189): an ALARM makes the
trunk source active with its zone, ALL_CLEAR makes it inactive, and what EC then does follows its state, the zone shown and whether
evacuation is wanted: from NORMAL, a first ALARM starts TAKEOVER; in TAKEOVER and SHOWING another zone is a redraw, at once or
pending; in SHOWING an end of both sources starts RELEASING. The codes that name a kind are 01h to 09h (R202). That the codes 81h to
83h name no kind is the model's choice (log 37). -/
def Obligations.AlarmFramesMoveTheSource : Prop :=
  (∀ kind : Byte, trunkKinds.contains kind = true ↔ 1 ≤ kind.toNat ∧ kind.toNat ≤ 9) ∧
  ∀ (s : State) (feed : Feed) (tr : Trunk) (fr : Frame), s.heard feed = (tr, some fr) →
    (fr.kind = 0x07 → fr.data.length = 1 →
      (∀ z : Fin 8, num fr.data 0 = z.val →
        (s.evac.trunkZone = some z →
          exec (.alarmFrame feed) s = .next { s with trunk := tr.answered fr.address (.ack s.replyTag s.update.state) }) ∧
        (s.evac.trunkZone ≠ some z → ∀ u : State,
          u = { s with evac := { s.evac with trunkZone := some z }
                       trunk := tr.answered fr.address (.ack s.replyTag s.update.state) } →
          exec (.alarmFrame feed) s = .next u.lookSources ∧ u.SourcesLooked u.lookSources z true) ∧
        (s.evac.state = .normal → s.evac.trunkZone = none →
          ∃ t, exec (.alarmFrame feed) s = .next t ∧ s.takenOver t ∧ t.evac.trunkZone = some z)) ∧
      (7 < num fr.data 0 →
        exec (.alarmFrame feed) s = .next { s with trunk := tr.answered fr.address (.nak s.replyTag .range) })) ∧
    (fr.kind = 0x08 → fr.data = [] →
      (s.evac.trunkZone = none →
        exec (.allClearFrame feed) s = .next { s with trunk := tr.answered fr.address (.ack s.replyTag s.update.state) }) ∧
      (s.evac.trunkZone ≠ none → ∀ u : State,
        u = { s with evac := { s.evac with trunkZone := none }
                     trunk := tr.answered fr.address (.ack s.replyTag s.update.state) } →
        exec (.allClearFrame feed) s = .next u.lookSources ∧
        u.SourcesLooked u.lookSources s.settings.lineZone s.evac.asserted ∧
        (s.evac.state = .normal → s.evac.asserted = false → u.lookSources = u))) ∧
    (fr.kind = 0x07 → fr.data.length ≠ 1 →
      exec (.alarmFrame feed) s = .next { s with trunk := tr.answered fr.address (.nak s.replyTag .format) }) ∧
    (fr.kind = 0x08 → fr.data ≠ [] →
      exec (.allClearFrame feed) s = .next { s with trunk := tr.answered fr.address (.nak s.replyTag .format) }) ∧
    (trunkKinds.contains fr.kind = false →
      exec (.unknownFrameKind feed) s = .next { s with trunk := tr.answered fr.address (.nak s.replyTag .format) })

/-- POLL (R191, R202): the three pages, each with the bytes of its row, and NAK RANGE above 2; nothing but the reply changes. The codes
of UC states, outcomes, refusal reasons, NAK reasons, evacuation states and supervisor states are those of R198, in the order listed.
That the unused bits of the enabled set are 0 is the model's choice (log 40). -/
def Obligations.PollReadsItsPage : Prop :=
  [UcState.idle, .staging, .committing, .deferred].map UcState.code = [0, 1, 2, 3] ∧
  [TxnOutcome.none, .committed, .abandoned, .displaced, .purged].map (fun o => (o.code, o.reasonCode)) =
    [(0, 0), (1, 0), (3, 0), (4, 0), (5, 0)] ∧
  [RefusalReason.format, .check, .space, .state].map (fun r => ((TxnOutcome.refused r).code, (TxnOutcome.refused r).reasonCode)) =
    [(2, 1), (2, 2), (2, 3), (2, 4)] ∧
  [NakReason.busy, .state, .range, .format, .check, .space].map NakReason.code = [0, 1, 2, 3, 4, 5] ∧
  [EvacState.normal, .takeover, .showing, .releasing].map EvacState.code = [0, 1, 2, 3] ∧
  [SupState.off, .watch, .pulse, .recovery, .disabled].map SupState.code = [0, 1, 2, 3, 4] ∧
  ∀ (s : State) (feed : Feed) (tr : Trunk) (fr : Frame), s.heard feed = (tr, some fr) → fr.kind = 0x06 →
    (fr.data.length ≠ 1 →
      exec (.pollFrame feed) s = .next { s with trunk := tr.answered fr.address (.nak s.replyTag .format) }) ∧
    (fr.data = [0] → exec (.pollFrame feed) s = .next { s with trunk := tr.answered fr.address (.state
      ([0x00, s.update.count.extractLsb' 8 8, s.update.count.extractLsb' 0 8,
        s.update.recordTag.extractLsb' 8 8, s.update.recordTag.extractLsb' 0 8,
        s.update.recordOutcome.code, s.update.recordOutcome.reasonCode, s.update.state.code])) }) ∧
    (fr.data = [1] → ∃ set : Byte, (∀ i, i < 8 → set.getLsbD i = (if h : i < 4 then s.enabled ⟨i, h⟩ else false)) ∧
      exec (.pollFrame feed) s = .next { s with trunk := tr.answered fr.address (.state
        [0x01, s.evac.state.code, byteOf s.shownZone.val, (s.face 0).supervisor.state.code, (s.face 1).supervisor.state.code,
         (s.face 2).supervisor.state.code, (s.face 3).supervisor.state.code, set]) }) ∧
    (fr.data = [2] → ∃ templates pages : Nat,
      (s.storesCanonical → (∀ p, 64 ≤ p → s.glyphPage p = none) → (∀ k, 64 ≤ k → (s.template k).cells = none) →
        templates = (List.range 64).countP (fun k => (s.template k).cells.isSome) ∧
        pages = (List.range 64).countP (fun p => (s.glyphPage p).isSome)) ∧
      exec (.pollFrame feed) s = .next { s with trunk := tr.answered fr.address (.state
        ([0x02] ++ word16Of s.routes.freeCount ++ [byteOf templates, byteOf pages, if s.update.cold then 0x01 else 0x00])) }) ∧
    (∀ page : Byte, fr.data = [page] → 2 < page.toNat →
      exec (.pollFrame feed) s = .next { s with trunk := tr.answered fr.address (.nak s.replyTag .range) })

/-! ### Face ports -/

/-- A command of one face's port changes that face's context alone, and the arbiter's recorded decision (R64, R77); that the decision is
a record of its own before its grant step is the model's choice (log 1). -/
def Obligations.PortCommandsStayOnTheirFace : Prop :=
  ∀ (c : Instr) (f : Face) (s t : State), portCommandOf c = some f → exec c s = .next t →
    t = { s with faces := t.faces, arbiter := { s.arbiter with decision := t.arbiter.decision } } ∧
    ∀ g : Face, g ≠ f → t.face g = s.face g

/-- The port's checks in their order (R69, R72, R74, R194): NOT_READY during the load; nothing but the shift on a face not enabled;
BUSY with a request in progress, which stays; FORMAT for a code outside the list; WITHDRAWN; FORMAT for a wrong length, the lengths being
those of R199. Every refusal fills the reply slot with a bare reply and latches REPLY_READY (R158: on an enabled face): reply code,
request code and 00h in each result byte of the request's row (R197, R199); that the reply to an unknown code has no result bytes is the
model's choice (log 17). -/
def Obligations.PortRefusesInOrder : Prop :=
  (∀ (n : Nat) (code : Byte),
    (code ∈ [0x01, 0x02, 0x03, 0x23, 0x24, 0x40, 0x50] → (lengthAllowed code n = true ↔ n = 0)) ∧
    (code ∈ [0x22, 0x31] → (lengthAllowed code n = true ↔ n = 1)) ∧
    (code ∈ [0x04, 0x21] → (lengthAllowed code n = true ↔ n = 2)) ∧
    (code = 0x10 → (lengthAllowed code n = true ↔ n = 3)) ∧
    (code = 0x41 → (lengthAllowed code n = true ↔ n = 4)) ∧
    (code = 0x11 → (lengthAllowed code n = true ↔ n = 5)) ∧
    (code = 0x30 → (lengthAllowed code n = true ↔ n = 10)) ∧
    (code = 0x12 → (lengthAllowed code n = true ↔ n = 14)) ∧
    (code = 0x20 → (lengthAllowed code n = true ↔ n = 17 ∨ n = 33 ∨ n = 49 ∨ n = 65)) ∧
    (code = 0x25 → (lengthAllowed code n = true ↔ 3 ≤ n ∧ n ≤ 66)) ∧
    (code = 0x32 → (lengthAllowed code n = true ↔ ∃ k, 1 ≤ k ∧ k ≤ 16 ∧ n = 1 + 3 * k))) ∧
  (∀ (r : ReplyCode) (code : Byte), bareReply r code = ⟨r, code, List.replicate
    (if code = 0x01 ∨ code = 0x24 then 6 else if code = 0x03 then 2 else if code = 0x10 then 75 else if code = 0x11 then 45
     else if code = 0x12 then 7 else if code = 0x40 then 151 else if code = 0x41 then 5 else 0) 0⟩) ∧
  ∀ (c : Instr) (f : Face) (code : Byte) (x : Transfer) (s : State) (known : Bool) (refused : ReplyCode → State),
    (known = true ∧ requestOf c = some (f, code, x)) ∨ (known = false ∧ c = .unknownRequestCode f code x) →
    (∀ r, refused r = s.modFace f (fun k =>
      { k with port := ⟨k.port.inProgress, some (bareReply r code), s.requestOut f x⟩
               latch := if s.enabled f then k.latch ||| 1 else k.latch })) →
    (s.loadEnded = false → exec c s = .next (refused .notReady)) ∧
    (s.loadEnded = true → s.enabled f = false →
      exec c s = .next (s.modFace f (fun k => { k with port := { k.port with dataOut := s.requestOut f x } }))) ∧
    (s.loadEnded = true → s.enabled f = true → (s.face f).port.inProgress ≠ none → exec c s = .next (refused .busy)) ∧
    (s.portOpen f → known = false → exec c s = .next (refused .format)) ∧
    (s.portOpen f → known = true → s.withdrawn f = true → code ≠ 0x01 → code ≠ 0x02 → code ≠ 0x03 →
      exec c s = .next (refused .withdrawn)) ∧
    (s.portOpen f → known = true → s.withdrawn f = false ∨ code = 0x01 ∨ code = 0x02 ∨ code = 0x03 →
      lengthAllowed code x.bytes.length = false → exec c s = .next (refused .format))

/-- STATUS, READ_FAULT, READ_EVENTS and SET_MASK (R76, R94, R104, R160, R161, R199), each answered at the moment it is taken. The status
byte (R70, R198) that every transaction shifts out first: the first port state of R70's table that holds, and the WITHDRAWN flag in
bit 7; its other bits, and those of the event set above bit 11, are 0 by the model's choice (log 40). ATTN (R159): asserted after the
load, on an enabled face, while the latch holds an event that is not in the mask. The codes of queue states, halt reasons, supervisor
states, evacuation states, fault reasons, reply codes and entry states are those of R198, in the order listed. -/
def Obligations.StatusAndEventsAreAnswered : Prop :=
  [QueueState.idle, .pending, .running, .waiting, .halted].map QueueState.code = [0, 1, 2, 3, 4] ∧
  [none, some HaltReason.fault, some .evac, some .withdrawn, some .purged].map haltCode = [0, 1, 2, 3, 4] ∧
  [SupState.off, .watch, .pulse, .recovery, .disabled].map SupState.code = [0, 1, 2, 3, 4] ∧
  [EvacState.normal, .takeover, .showing, .releasing].map EvacState.code = [0, 1, 2, 3] ∧
  [FaultReason.badKind, .range, .notLive, .noTemplate, .depth, .context, .nestedCard, .runaway, .imageRange, .cut].map FaultReason.code =
    [0, 1, 2, 3, 4, 5, 6, 7, 8, 9] ∧
  [ReplyCode.ok, .busy, .state, .range, .notLive, .withdrawn, .evac, .format, .notReady].map ReplyCode.code =
    [0, 1, 2, 3, 4, 5, 6, 7, 8] ∧
  [EntryState.free, .live, .hidden].map EntryState.code = [0, 1, 2] ∧
  ∀ (s : State) (f : Face) (x : Transfer),
    (s.portOpen f → x.bytes = [] →
      exec (.status f x) s = .next (s.modFace f (fun c => c.replied (s.requestOut f x) .ok 0x01
        ([c.queue.state.code, haltCode c.queue.halt, c.supervisor.state.code, s.evac.state.code] ++ Word16.bytes s.update.count)))) ∧
    (s.portOpen f → x.bytes = [] →
      exec (.readEvents f x) s = .next (s.modFace f (fun c =>
        { c with latch := 0
                 port := ⟨none, some ⟨.ok, 0x03, Word16.bytes (c.latch.setWidth 16)⟩, s.requestOut f x⟩ }))) ∧
    (s.portReady f → x.bytes.length = 2 →
      exec (.setMask f x) s = .next (s.modFace f (fun c =>
        { c.replied (s.requestOut f x) .ok 0x04 [] with mask := BitVec.ofNat 12 (num16 x.bytes 0) }))) ∧
    (s.portReady f → x.bytes = [] →
      ((s.face f).queue.fault = none →
        exec (.readFault f x) s = .next (s.modFace f (fun c =>
          c.replied (s.requestOut f x) .ok 0x24 [0, 0, 0, 0, 0, 0]))) ∧
      (∀ r : FaultRecord, (s.face f).queue.fault = some r →
        exec (.readFault f x) s = .next (s.modFace f (fun c =>
          c.replied (s.requestOut f x) .ok 0x24
            [1, byteOf r.cell.val, byteOf r.depth, (r.top.map (fun p => byteOf p.1)).getD 0xFF,
             (r.top.map (fun p => byteOf p.2.val)).getD 0xFF, r.reason.code])))) ∧
    (s.statusByte f =
      (if s.loadEnded = false then 3
       else if s.enabled f = false then 4
       else if (s.face f).port.inProgress ≠ none then 1
       else if (s.face f).port.reply ≠ none then 2
       else 0) |||
      (if s.loadEnded = true ∧ s.enabled f = true ∧ ((s.face f).supervisor.state = .pulse ∨
          (s.face f).supervisor.state = .recovery ∨ (s.face f).supervisor.state = .disabled) then 0x80 else 0)) ∧
    (s.attn f = true ↔ s.loadEnded = true ∧ s.enabled f = true ∧
      ∃ e, e < 12 ∧ (s.face f).latch.getLsbD e = true ∧ (s.face f).mask.getLsbD e = false)

/-- SET_LANGUAGE, SET_MAP and SET_PALETTE (R78, R79, R139): taken whole or refused with nothing changed but the reply. -/
def Obligations.ContextRequestsAreTakenWhole : Prop :=
  ∀ (s : State) (f : Face) (x : Transfer), s.portReady f →
    (∀ b : Byte, x.bytes = [b] →
      (∀ l : Fin 4, b.toNat = l.val →
        exec (.setLanguage f x) s = .next (s.modFace f (fun c =>
          { c.replied (s.requestOut f x) .ok 0x31 [] with language := l }))) ∧
      (3 < b.toNat →
        exec (.setLanguage f x) s = .next (s.modFace f (fun c => c.replied (s.requestOut f x) .range 0x31 [])))) ∧
    (∀ w : MapWindow, x.bytes.length = 10 →
      w = ⟨num16 x.bytes 0, num16 x.bytes 2, num16 x.bytes 4, num16 x.bytes 6, num x.bytes 8, num x.bytes 9⟩ →
      (w.cx ≤ 1079 ∧ w.cy ≤ 1919 ∧ w.mx ≤ 4095 ∧ w.my ≤ 4095 ∧ w.level ≤ 7 ∧ 1 ≤ w.scale ∧ w.scale ≤ 16 →
        ((∀ r, (s.face f).route = some r → r.state = .gone ∨ r.state = .disturbed) →
          exec (.setMap f x) s = .next (s.modFace f (fun c =>
            { c.replied (s.requestOut f x) .ok 0x30 [] with window := w }))) ∧
        (∀ r, (s.face f).route = some r → r.state = .drawing ∨ r.state = .drawn ∨ r.state = .stale →
          exec (.setMap f x) s = .next (s.modFace f (fun c => c.replied (s.requestOut f x) .state 0x30 [])))) ∧
      (¬(w.cx ≤ 1079 ∧ w.cy ≤ 1919 ∧ w.mx ≤ 4095 ∧ w.my ≤ 4095 ∧ w.level ≤ 7 ∧ 1 ≤ w.scale ∧ w.scale ≤ 16) →
        exec (.setMap f x) s = .next (s.modFace f (fun c => c.replied (s.requestOut f x) .range 0x30 [])))) ∧
    (∀ n : Nat, 1 ≤ n → n ≤ 16 → x.bytes.length = 1 + 3 * n →
      (num x.bytes 0 + n ≤ 16 →
        exec (.setPalette f x) s = .next (s.modFace f (fun c =>
          { c.replied (s.requestOut f x) .ok 0x32 [] with
            palette := { c.palette with pending := Vector.ofFn (fun i : Fin 16 =>
              if num x.bytes 0 ≤ i.val ∧ i.val < num x.bytes 0 + n then
                some (x.bytes.getD (1 + 3 * (i.val - num x.bytes 0)) 0 ++ x.bytes.getD (2 + 3 * (i.val - num x.bytes 0)) 0
                      ++ x.bytes.getD (3 + 3 * (i.val - num x.bytes 0)) 0)
              else c.palette.pending[i]) } }))) ∧
      (16 < num x.bytes 0 + n →
        exec (.setPalette f x) s = .next (s.modFace f (fun c => c.replied (s.requestOut f x) .range 0x32 []))))

/-- WRITE_IMAGE and WRITE_CELLS (R80, R85): the bytes land from the offset onward, the cells in order from the first, wrapping from
15 to 0; every other byte of the buffer and of the ring reads as before; refused with BUSY and RANGE, nothing is written. A cell is in an
active range if it comes no later than the last from the next on, wrapping (R83). -/
def Obligations.BuffersAreWritten : Prop :=
  (∀ (r : ActiveRange) (i : Fin 16), r.holds i = true ↔ (i - r.next).val ≤ (r.last - r.next).val) ∧
  ∀ (s : State) (f : Face) (x : Transfer), s.portReady f →
    (3 ≤ x.bytes.length → x.bytes.length ≤ 66 →
      ((s.face f).queue.state = .idle ∨ (s.face f).queue.state = .halted →
        (num16 x.bytes 0 + (x.bytes.length - 2) ≤ 4096 →
          ∃ m : Mem, exec (.writeImage f x) s = .next (s.modFace f (fun c =>
              { c.replied (s.requestOut f x) .ok 0x25 [] with image := m })) ∧
            ∀ a, m.read a =
              if num16 x.bytes 0 ≤ a ∧ a < num16 x.bytes 0 + (x.bytes.length - 2) then x.bytes.getD (2 + (a - num16 x.bytes 0)) 0
              else (s.face f).image.read a) ∧
        (4096 < num16 x.bytes 0 + (x.bytes.length - 2) →
          exec (.writeImage f x) s = .next (s.modFace f (fun c => c.replied (s.requestOut f x) .range 0x25 [])))) ∧
      ((s.face f).queue.state = .pending ∨ (s.face f).queue.state = .running ∨ (s.face f).queue.state = .waiting →
        exec (.writeImage f x) s = .next (s.modFace f (fun c => c.replied (s.requestOut f x) .busy 0x25 [])))) ∧
    (∀ n : Nat, 1 ≤ n → n ≤ 4 → x.bytes.length = 1 + 16 * n →
      (∀ first : Fin 16, num x.bytes 0 = first.val →
        ((s.face f).queue.state = .idle ∨ (s.face f).queue.state = .halted ∨
          (∀ r, (s.face f).queue.range = some r → ∀ i, i < n → r.holds (first + Fin.ofNat 16 i) = false) →
          ∃ m : Mem, exec (.writeCells f x) s = .next (s.modFace f (fun c =>
              { c.replied (s.requestOut f x) .ok 0x20 [] with queue := { c.queue with ring := m } })) ∧
            ∀ (k : Fin 16) (b : Nat), b < 16 → m.read (16 * k.val + b) =
              if (k - first).val < n then x.bytes.getD (1 + 16 * (k - first).val + b) 0
              else (s.face f).queue.ring.read (16 * k.val + b)) ∧
        (∀ r i, (s.face f).queue.state = .pending ∨ (s.face f).queue.state = .running ∨ (s.face f).queue.state = .waiting →
          (s.face f).queue.range = some r → i < n → r.holds (first + Fin.ofNat 16 i) = true →
          exec (.writeCells f x) s = .next (s.modFace f (fun c => c.replied (s.requestOut f x) .busy 0x20 [])))) ∧
      (15 < num x.bytes 0 →
        exec (.writeCells f x) s = .next (s.modFace f (fun c => c.replied (s.requestOut f x) .range 0x20 []))))

/-- RESET_FACE (R81, R82): held while the face or a purge holds the engine; otherwise the context returns to its values at one
moment, with the enabled flag, the supervisor, the shown palette and the scan kept, and REPLY_READY alone in the latch. -/
def Obligations.ResetFaceAppliesOrIsHeld : Prop :=
  ∀ (s : State) (f : Face) (x : Transfer), s.portReady f → x.bytes = [] →
    (s.faceHolds f = true ∨ s.purgeHolds = true →
      exec (.resetFace f x) s = .next (s.modFace f (fun c => c.holding (s.requestOut f x) .resetFace))) ∧
    (s.faceHolds f = false → s.purgeHolds = false →
      exec (.resetFace f x) s = .next ((s.modFace f (fun c =>
        { c with
          language := 0, window := ⟨540, 960, 2048, 2048, 0, 4⟩, image := []
          port := ⟨none, some ⟨.ok, 0x50, []⟩, s.requestOut f x⟩
          palette := { c.palette with own := defaultPalette, pending := Vector.replicate 16 none }
          queue := ⟨[], .idle, none, none, false, [], none⟩, snapshot := none
          cards := Vector.replicate 12 none, route := none, latch := 1, mask := 0, waitCount := 0 })).arbitrate))

/-- READ_ENTRY, LIST_WINDOW and FIND_PREFIX with parameters in range (R53, R56 to R62): held behind a reposition or a purge that holds
the engine, and otherwise answered from the state as it stands, with the results the rules give: the 75 bytes of an entry, its name or
else its name for slot 0 (R57, R58), the tuples of a window in ascending position (R59, R60), and the lower bound of a prefix in a list
with its match flag (R62), each key being that of R49. Results shorter than their row are filled with 00h (R197), a code takes two bytes
(R196), and a filter of FFh is ANY (R198). -/
def Obligations.ReadsAreAnsweredOrHeld : Prop :=
  (∀ results : Bytes, padResults 0x10 results = results ++ List.replicate (75 - results.length) 0 ∧
    padResults 0x11 results = results ++ List.replicate (45 - results.length) 0 ∧
    padResults 0x12 results = results ++ List.replicate (7 - results.length) 0) ∧
  (∀ (m : Mem) (a n : Nat), m.codes a n = (List.range n).map (fun i => m.num16 (a + 2 * i))) ∧
  (∀ k, filterOf k = if k = 0xFF then some none else if k ≤ 63 then some (some k) else none) ∧
  (∀ (s : State) (f : Face) (x : Transfer) (query : Instr) (h : HeldRequest) (code : Byte) (r : ReplyCode) (results : Bytes),
    s.portReady f →
    ((query = .readEntry f x ∧ code = 0x10 ∧ x.bytes.length = 3 ∧ ∃ l : Fin 4,
        num16 x.bytes 0 ≤ 1023 ∧ num x.bytes 2 = l.val ∧ h = .readEntry (num16 x.bytes 0) l ∧
        ((s.entry (num16 x.bytes 0)).state = .free → r = .notLive ∧
          results = [0x00, (s.entry (num16 x.bytes 0)).generation] ++ Word16.bytes s.update.count) ∧
        ((s.entry (num16 x.bytes 0)).state ≠ .free → r = .ok ∧ results = s.entryResults (num16 x.bytes 0) l)) ∨
     (query = .listWindow f x ∧ code = 0x11 ∧ x.bytes.length = 5 ∧ r = .ok ∧ ∃ (l : Fin 4) (filter : Option Nat),
        num x.bytes 0 = l.val ∧ 1 ≤ num x.bytes 3 ∧ num x.bytes 3 ≤ 8 ∧ filterOf (num x.bytes 4) = some filter ∧
        h = .listWindow l (num16 x.bytes 1) (num x.bytes 3) filter ∧
        results = s.windowResults l (num16 x.bytes 1) (num x.bytes 3) filter) ∨
     (query = .findPrefix f x ∧ code = 0x12 ∧ x.bytes.length = 14 ∧ r = .ok ∧ ∃ (l : Fin 4) (codes : List Nat),
        num x.bytes 0 = l.val ∧ 1 ≤ num x.bytes 1 ∧ num x.bytes 1 ≤ 6 ∧
        codes = (List.range (num x.bytes 1)).map (fun i => num16 x.bytes (2 + 2 * i)) ∧ (∀ k ∈ codes, k < 4096) ∧
        h = .findPrefix l codes ∧ results = s.prefixResults l codes)) →
    (s.orders.reposition = none → s.purgeHolds = false →
      exec query s = .next (s.modFace f (fun c => c.replied (s.requestOut f x) r code (padResults code results)))) ∧
    (s.orders.reposition ≠ none ∨ s.purgeHolds = true →
      exec query s = .next (s.modFace f (fun c => c.holding (s.requestOut f x) h)))) ∧
  (∀ (s : State) (n : Nat) (l : Fin 4) (m : Mem) (name : Nat), m = (s.entry n).image →
    name = (if m.num (21 + 49 * l.val) = 0 then 21 else 21 + 49 * l.val) →
    s.key l n = m.codes (name + 1) (m.num name) ∧
    (m.num 0 ≤ 6 → m.num name ≤ 24 → s.entryResults n l =
      [(s.entry n).state.code, (s.entry n).generation, s.update.count.extractLsb' 8 8, s.update.count.extractLsb' 0 8, m.read 0] ++
      (List.range 12).map (fun i => if i < 2 * m.num 0 then m.read (1 + i) else 0) ++
      [m.read 13, m.read 14, m.read 15, m.read 16, m.read 17, m.read 18, m.read 19, byteOf (s.routeOf (s.entry n)).length,
       if m.num (21 + 49 * l.val) = 0 then 0x01 else 0x00, m.read name] ++
      (List.range 48).map (fun i => if i < 2 * m.num name then m.read (name + 1 + i) else 0))) ∧
  (∀ (s : State) (l : Fin 4) (start count : Nat) (filter : Option Nat) (list : List Nat), list = s.orders.lists[l] →
    ∃ tuples : List (Nat × Nat),
      s.windowResults l start count filter =
        word16Of list.length ++ Word16.bytes s.update.count ++ [byteOf tuples.length] ++
        tuples.flatMap (fun p => word16Of p.2 ++ word16Of p.1 ++ [(s.entry p.1).generation]) ∧
      tuples.length ≤ count ∧ tuples.Pairwise (fun p q => p.2 < q.2) ∧
      (∀ n pos, (n, pos) ∈ tuples →
        start ≤ pos ∧ list[pos]? = some n ∧ ∀ k, filter = some k → (s.entry n).image.num 14 = k) ∧
      (∀ n pos, start ≤ pos → list[pos]? = some n → (∀ k, filter = some k → (s.entry n).image.num 14 = k) →
        (n, pos) ∈ tuples ∨ (tuples.length = count ∧ ∀ q ∈ tuples, q.2 < pos))) ∧
  (∀ (s : State) (l : Fin 4) (codes list : List Nat), list = s.orders.lists[l] → ∃ (bound : Nat) (found : Bool),
    s.prefixResults l codes =
      word16Of bound ++ [if found = true then 0x01 else 0x00] ++ word16Of list.length ++ Word16.bytes s.update.count ∧
    bound ≤ list.length ∧
    (∀ pos n, pos < bound → list[pos]? = some n → keyLess (s.key l n) codes = true) ∧
    (∀ n, list[bound]? = some n → keyLess (s.key l n) codes = false) ∧
    (found = true ↔ ∃ n rest, list[bound]? = some n ∧ s.key l n = codes ++ rest))

/-- The directory and slot reads refused with RANGE at once (R56, R157), and the slot reads answered or held (R44, R156, R157): the 12
bytes of a card slot and the 7 of the route slot (R198, R199), and the slots that a point hits: CURRENT, STALE or DRAWING, with the
pixel in the slot's rectangle (R157). The bytes of the absent fields of an EMPTY card slot and a NONE route slot are deduced from R196
and R197 (log 12), and so is the RANGE of a HIT_TEST that comes during a purge (log 13). -/
def Obligations.SlotsAreReadAndRangesChecked : Prop :=
  (∀ card : Card, cardBytes (some card) =
    (match card.state with
     | .drawing => 1
     | .current => 2
     | .stale => 3
     | .gone => 4
     | .broken => 5) ::
    (word16Of card.entry ++ [card.generation] ++ word16Of card.rect.x ++ word16Of card.rect.y ++ word16Of card.rect.w
      ++ word16Of card.rect.h)) ∧
  cardBytes none = [0, 0xFF, 0xFF, 0, 0, 0, 0, 0, 0, 0, 0, 0] ∧
  (∀ r : RouteRecord, routeBytes (some r) =
    (match r.state with
     | .drawing => 1
     | .drawn => 2
     | .stale => 3
     | .gone => 4
     | .disturbed => 5) ::
    (word16Of r.entry ++ [r.generation, byteOf r.colour.toNat, byteOf r.width, byteOf r.copy.length])) ∧
  routeBytes none = [0, 0xFF, 0xFF, 0, 0, 0, 0] ∧
  (∀ (x y : Nat) (card : Card), cardHit x y (some card) = true ↔
    (card.state = .current ∨ card.state = .stale ∨ card.state = .drawing) ∧
    card.rect.x ≤ x ∧ x < card.rect.x + card.rect.w ∧ card.rect.y ≤ y ∧ y < card.rect.y + card.rect.h) ∧
  (∀ x y, cardHit x y none = false) ∧
  ∀ (s : State) (f : Face) (x : Transfer), s.portReady f →
    (x.bytes = [] →
      (s.purgeHolds = false → exec (.readSlots f x) s = .next (s.modFace f (fun c =>
        c.replied (s.requestOut f x) .ok 0x40 (c.cards.toList.flatMap cardBytes ++ routeBytes c.route)))) ∧
      (s.purgeHolds = true → exec (.readSlots f x) s = .next (s.modFace f (fun c => c.holding (s.requestOut f x) .readSlots)))) ∧
    (x.bytes.length = 4 → num16 x.bytes 0 ≤ 1079 → num16 x.bytes 2 ≤ 1919 →
      (s.purgeHolds = true → exec (.hitTest f x) s = .next (s.modFace f (fun c =>
        c.holding (s.requestOut f x) (.hitTest (num16 x.bytes 0) (num16 x.bytes 2))))) ∧
      (s.purgeHolds = false →
        (∀ (i : Fin 12) (card : Card), (s.face f).cards[i] = some card →
          cardHit (num16 x.bytes 0) (num16 x.bytes 2) (some card) = true →
          (∀ j : Fin 12, j < i → cardHit (num16 x.bytes 0) (num16 x.bytes 2) (s.face f).cards[j] = false) →
          exec (.hitTest f x) s = .next (s.modFace f (fun c => c.replied (s.requestOut f x) .ok 0x41
            ([1, byteOf i.val] ++ word16Of card.entry ++ [cardStateCode (some card)])))) ∧
        ((∀ j : Fin 12, cardHit (num16 x.bytes 0) (num16 x.bytes 2) (s.face f).cards[j] = false) →
          exec (.hitTest f x) s = .next (s.modFace f (fun c => c.replied (s.requestOut f x) .ok 0x41 [0, 0, 0, 0, 0]))))) ∧
    (x.bytes.length = 4 → 1079 < num16 x.bytes 0 ∨ 1919 < num16 x.bytes 2 →
      exec (.hitTest f x) s = .next (s.modFace f (fun c => c.replied (s.requestOut f x) .range 0x41 [0, 0, 0, 0, 0]))) ∧
    (x.bytes.length = 3 → 1023 < num16 x.bytes 0 ∨ 3 < num x.bytes 2 →
      exec (.readEntry f x) s = .next (s.modFace f (fun c =>
        c.replied (s.requestOut f x) .range 0x10 (List.replicate 75 0)))) ∧
    (x.bytes.length = 5 → 3 < num x.bytes 0 ∨ num x.bytes 3 = 0 ∨ 8 < num x.bytes 3 ∨
        (63 < num x.bytes 4 ∧ num x.bytes 4 ≠ 0xFF) →
      exec (.listWindow f x) s = .next (s.modFace f (fun c =>
        c.replied (s.requestOut f x) .range 0x11 (List.replicate 45 0)))) ∧
    (x.bytes.length = 14 → 3 < num x.bytes 0 ∨ num x.bytes 1 = 0 ∨ 6 < num x.bytes 1 ∨
        (∃ i, i < num x.bytes 1 ∧ 4095 < num16 x.bytes (2 + 2 * i)) →
      exec (.findPrefix f x) s = .next (s.modFace f (fun c =>
        c.replied (s.requestOut f x) .range 0x12 (List.replicate 7 0))))

/-- START, APPEND and STOP (R87 to R89): the range, the state and the events each leaves, and the refusals in their order. -/
def Obligations.QueueRequestsFollowTheirTables : Prop :=
  ∀ (s : State) (f : Face) (x : Transfer), s.portReady f →
    (∀ first last : Fin 16, x.bytes = [byteOf first.val, byteOf last.val] →
      (s.evac.state = .normal → (s.face f).queue.state = .idle ∨ (s.face f).queue.state = .halted →
        exec (.start f x) s = .next ((s.modFace f (fun c => { c.replied (s.requestOut f x) .ok 0x21 [] with
          queue := { c.queue with state := .pending, halt := none, range := some ⟨first, last⟩, stop := false, fault := none } })).arbitrate)) ∧
      (s.evac.state ≠ .normal →
        exec (.start f x) s = .next (s.modFace f (fun c => c.replied (s.requestOut f x) .evac 0x21 []))) ∧
      (s.evac.state = .normal →
        (s.face f).queue.state = .pending ∨ (s.face f).queue.state = .running ∨ (s.face f).queue.state = .waiting →
        exec (.start f x) s = .next (s.modFace f (fun c => c.replied (s.requestOut f x) .state 0x21 [])))) ∧
    (x.bytes.length = 2 → 15 < num x.bytes 0 ∨ 15 < num x.bytes 1 →
      exec (.start f x) s = .next (s.modFace f (fun c => c.replied (s.requestOut f x) .range 0x21 []))) ∧
    (∀ last : Fin 16, x.bytes = [byteOf last.val] →
      (s.evac.state ≠ .normal →
        exec (.append f x) s = .next (s.modFace f (fun c => c.replied (s.requestOut f x) .evac 0x22 []))) ∧
      (s.evac.state = .normal →
        (∀ r, (s.face f).queue.state = .pending ∨ (s.face f).queue.state = .running ∨ (s.face f).queue.state = .waiting →
          (s.face f).queue.stop = false → (s.face f).queue.range = some r →
          ((r.last - r.next).val + 1 + (last - r.last).val ≤ 16 →
            exec (.append f x) s = .next (s.modFace f (fun c => { c.replied (s.requestOut f x) .ok 0x22 [] with
              queue := { c.queue with range := some { r with last := last } } }))) ∧
          (16 < (r.last - r.next).val + 1 + (last - r.last).val →
            exec (.append f x) s = .next (s.modFace f (fun c => c.replied (s.requestOut f x) .range 0x22 [])))) ∧
        ((s.face f).queue.state = .idle ∨ (s.face f).queue.state = .halted ∨ (s.face f).queue.stop = true →
          exec (.append f x) s = .next (s.modFace f (fun c => c.replied (s.requestOut f x) .state 0x22 []))))) ∧
    (x.bytes.length = 1 → 15 < num x.bytes 0 →
      exec (.append f x) s = .next (s.modFace f (fun c => c.replied (s.requestOut f x) .range 0x22 []))) ∧
    (x.bytes = [] →
      ((s.face f).queue.state = .idle →
        exec (.stop f x) s = .next ((s.modFace f (fun c => c.replied (s.requestOut f x) .ok 0x23 [])).arbitrate)) ∧
      ((s.face f).queue.state = .pending ∨ (s.face f).queue.state = .waiting ∨ (s.face f).queue.state = .halted →
        exec (.stop f x) s = .next ((s.modFace f (fun c => { c.replied (s.requestOut f x) .ok 0x23 [] with
          queue := { c.queue with state := .idle, halt := none, range := none, stop := false }
          latch := c.latch ||| 0x005 })).arbitrate)) ∧
      ((s.face f).queue.state = .running →
        exec (.stop f x) s = .next ((s.modFace f (fun c => { c.replied (s.requestOut f x) .ok 0x23 [] with
          queue := { c.queue with stop := true } })).arbitrate)))

/-- FETCH (R73, R197): the reply, if one is held, is shifted out after the status byte and the slot is empty afterwards, however many
bytes are clocked; with none, and in NOT_READY and ABSENT, zeros, and the slot keeps what it holds in those two states. -/
def Obligations.FetchDeliversTheReply : Prop :=
  ∀ (s : State) (f : Face) (n : Nat),
    (s.loadEnded = true → s.enabled f = true →
      (∀ r : Reply, (s.face f).port.reply = some r →
        exec (.fetch f n) s = .next (s.modFace f (fun c => { c with port :=
          ⟨c.port.inProgress, none, s.statusByte f :: (r.code.code :: r.request :: r.results ++ List.replicate n 0).take n⟩ }))) ∧
      ((s.face f).port.reply = none →
        exec (.fetch f n) s = .next (s.modFace f (fun c => { c with port :=
          ⟨c.port.inProgress, none, s.statusByte f :: List.replicate n 0⟩ })))) ∧
    (s.loadEnded = false ∨ s.enabled f = false →
      exec (.fetch f n) s = .next (s.modFace f (fun c => { c with port :=
        { c.port with dataOut := s.statusByte f :: List.replicate n 0 } })))

/-! ### The engine and its segments -/

/-- EA's choice (R107, R108): the purge, then EC, then no face out of NORMAL; else, of the faces that claim, one of the lowest
effective level, and of several the first in rotation after the last one served. That the choice is recorded with the faces that
claimed, and carried out by a grant step of its own, is the model's choice (log 1). -/
def Obligations.GrantFollowsItsOrder : Prop :=
  ∀ (s : State) (level : Face → Nat) (first : Face),
    (∀ f, level f = if s.settings.ageLimit ≤ (s.face f).waitCount then 0 else (s.settings.priority[f]).val) →
    first = (match s.arbiter.lastServed with
             | none => 0
             | some l => l + 1) →
    (s.update.purging = true → s.arbiter.holder ≠ some .purge → s.grantDecision = some ⟨.purge, s.claims⟩) ∧
    (s.update.purging = false ∨ s.arbiter.holder = some .purge →
      (s.evac.state = .takeover → s.arbiter.holder ≠ some .ec → s.grantDecision = some ⟨.ec, s.claims⟩) ∧
      (s.evac.state = .showing ∨ s.evac.state = .releasing → s.grantDecision = none) ∧
      (s.evac.state = .normal → (∀ f : Face, (s.face f).queue.state ≠ .pending) → s.grantDecision = none) ∧
      (s.evac.state = .normal → (∃ f : Face, (s.face f).queue.state = .pending) →
        ∃ f : Face, s.grantDecision = some ⟨.face f, s.claims⟩ ∧ (s.face f).queue.state = .pending ∧
          ∀ g : Face, (s.face g).queue.state = .pending →
            level f ≤ level g ∧ (level g = level f → (f - first).val ≤ (g - first).val)))

/-- FACE_GRANT of a decision that chose a face (R107, R109, R111): the face holds the engine, its queue is RUNNING, the wait counts
move, and its segment begins at the next cell with the face's language; a cell of no kind, of a kind that may not run at queue level,
or with a field out of range has failed its check (R103). A FILL, FRAME or IMAGE inside the face has its pixels to write, one on the
map layer disturbing the route slot (R116 to R119); a CALL and a CARD enter their template, wait for its copy or find none (R97), a
CARD after its snapshot of a LIVE entry (R124); a ROUTE and a CLEAR_ROUTE erase a DRAWN or STALE slot first, or take their snapshot or
empty the slot (R130, R131); a CLEAR_SLOT has its slot's rectangle to fill, or is done (R126). A WAIT_FRAME ends at once, its queue
WAITING and the engine free (R91). A cell is read as R200 lays it out: the kind of byte 0, the 16 bytes of its place, and for each kind its
fields with the ranges of R84, so that a cell is out of range exactly where one of them is; the snapshot is R112's, from the image of
R201. The recorded decision is log 1, and that a segment whose work is done, or has failed, waits in that
stage for a step of its own is log 14: both are the model's choices. -/
def Obligations.FaceGrantBeginsSegment : Prop :=
  (∀ (c : Bytes) (k : Kind), cellKind c = some k ↔ num c 0 =
    (match k with
     | .fill => 1
     | .frame => 2
     | .image => 3
     | .call => 4
     | .card => 5
     | .route => 6
     | .clearRoute => 7
     | .clearSlot => 8
     | .waitFrame => 9
     | .textField => 10
     | .select => 11
     | .goto => 12
     | .endLevel => 13)) ∧
  (∀ (m : Mem) (i : Fin 16), cellOf m i = (List.range 16).map (fun j => m.read (16 * i.val + j))) ∧
  (∀ (c : Bytes) (k : Kind) (seg : Seg) (layer : Layer → Prop) (combine : Combine → Prop) (boxed : Rect → Prop),
    (∀ l, layer l ↔ num c 2 = (match l with
                               | .map => 0
                               | .card => 1)) →
    (∀ m, combine m ↔ num c 3 = (match m with
                                 | .replace => 0
                                 | .and => 1
                                 | .or => 2
                                 | .xor => 3)) →
    (∀ r, boxed r ↔ num16 c 6 = r.x ∧ r.x ≤ 1079 ∧ num16 c 8 = r.y ∧ r.y ≤ 1919 ∧
      num16 c 10 = r.w ∧ 1 ≤ r.w ∧ r.w ≤ 1080 ∧ num16 c 12 = r.h ∧ 1 ≤ r.h ∧ r.h ≤ 1920) →
    (parseSeg k c = some seg ↔
      match k, seg with
      | .fill, .fill l m col r => layer l ∧ combine m ∧ num c 4 = col.toNat ∧ boxed r
      | .frame, .frame l m col t r => layer l ∧ combine m ∧ num c 4 = col.toNat ∧ num c 5 = t ∧ 1 ≤ t ∧ t ≤ 8 ∧ boxed r
      | .image, .image l m keyed r o =>
        layer l ∧ combine m ∧ num c 5 = (if keyed = true then 1 else 0) ∧ boxed r ∧ num16 c 14 = o ∧ o ≤ 4095
      | .call, .call t x y => num c 5 = t ∧ t ≤ 63 ∧ num16 c 6 = x ∧ x ≤ 1079 ∧ num16 c 8 = y ∧ y ≤ 1919
      | .card, .card n slot t r => num16 c 2 = n ∧ n ≤ 1023 ∧ num c 4 = slot.val ∧ num c 5 = t ∧ t ≤ 63 ∧ boxed r
      | .route, .route n col w => num16 c 2 = n ∧ n ≤ 1023 ∧ num c 4 = col.toNat ∧ col ≠ 0 ∧ num c 5 = w ∧ 1 ≤ w ∧ w ≤ 8
      | .clearSlot, .clearSlot slot col => num c 4 = slot.val ∧ num c 5 = col.toNat
      | .textField, .textField field m col scale x y w =>
        num c 2 = (match field with
                   | .name => 0
                   | .unit => 1) ∧ combine m ∧ num c 4 = col.toNat ∧ num c 5 = scale ∧ 1 ≤ scale ∧ scale ≤ 2 ∧
        num16 c 6 = x ∧ x ≤ 1079 ∧ num16 c 8 = y ∧ y ≤ 1919 ∧ num16 c 10 = w ∧ 1 ≤ w ∧ w ≤ 1080
      | .select, .select sel n =>
        num c 2 = (match sel with
                   | .openMark => 0
                   | .category => 1
                   | .level => 2
                   | .hasName => 3) ∧ num c 4 = n ∧ 1 ≤ n ∧ n ≤ 8
      | .goto, .goto i => num c 4 = i.val
      | .clearRoute, .clearRoute | .waitFrame, .waitFrame | .endLevel, .endLevel => True
      | _, _ => False)) ∧
  (∀ (e : Entry) (n : Nat) (m : Mem), m = e.image → e.snapshot n =
    ⟨n, e.state, e.generation, m.codes 1 (m.num 0), m.num 13, m.num 14,
     if m.num 15 = 1 then .opened else if m.num 15 = 2 then .closed else .absent,
     Vector.ofFn (fun l : Fin 4 =>
       if m.num (21 + 49 * l.val) = 0 then none else some (m.codes (22 + 49 * l.val) (m.num (21 + 49 * l.val))))⟩) ∧
  ∀ (s : State) (f : Face) (claims : List Face) (r : ActiveRange) (cell : Bytes) (count : Face → Nat),
    s.arbiter.holder = none → s.arbiter.decision = some ⟨.face f, claims⟩ → (s.face f).queue.range = some r →
    cell = cellOf (s.face f).queue.ring r.next →
    (∀ h : Face, count h =
      if h = f then 0 else if h ∈ claims then min ((s.face h).waitCount + 1) 15 else (s.face h).waitCount) →
    (cellKind cell ≠ some .waitFrame → ∃ (t : State) (g : Segment), exec .faceGrant s = .next t ∧
      t = { s with faces := t.faces, arbiter := ⟨some (.face f), some f, none⟩, engine := t.engine, templates := t.templates } ∧
      (∀ h : Face, h ≠ f → t.face h = { s.face h with waitCount := count h }) ∧
      (t.face f).queue.state = .running ∧ (t.face f).waitCount = 0 ∧ (t.face f).queue.range = some r ∧
      (t.face f).queue.ring = (s.face f).queue.ring ∧ (t.face f).latch = (s.face f).latch ∧
      t.engine.segment = some g ∧ t.engine.glyphHeld = false ∧
      g.face = f ∧ g.cell = r.next ∧ g.kind = cellKind cell ∧ g.language = (s.face f).language ∧ g.pulsed = false ∧
      (cellKind cell = none → g.stage = .failed .badKind) ∧
      (cellKind cell = some .textField ∨ cellKind cell = some .select ∨ cellKind cell = some .goto ∨
        cellKind cell = some .endLevel → g.stage = .failed .context) ∧
      (∀ k, cellKind cell = some k → k ≠ .textField → k ≠ .select → k ≠ .goto → k ≠ .endLevel → parseSeg k cell = none →
        g.stage = .failed .range) ∧
      (∀ k seg l m shape box fits, cellKind cell = some k → parseSeg k cell = some seg →
        seg.plain = some (l, m, shape, box, fits) →
        (1080 < box.x + box.w ∨ 1920 < box.y + box.h →
          g.stage = .failed .range ∧ t.engine.jobs = [] ∧ (t.face f).route = (s.face f).route) ∧
        (box.x + box.w ≤ 1080 → box.y + box.h ≤ 1920 →
          (fits = false → g.stage = .failed .imageRange ∧ t.engine.jobs = [] ∧ (t.face f).route = (s.face f).route) ∧
          (fits = true → g.stage = .drawing ∧ t.engine.jobs = [.plot ⟨f, l, m, shape, box, 0⟩] ∧
            (t.face f).route = disturbedBy l (s.face f).route))) ∧
      (∀ k x y, cellKind cell = some .call → parseSeg .call cell = some (.call k x y) → (s.face f).queue.stack = [] →
        ((s.template k).cells = none → g.stage = .failed .noTemplate) ∧
        ((s.template k).cells ≠ none → s.templates.copying = some k → g.stage = .pushing k x y none) ∧
        ((s.template k).cells ≠ none → s.templates.copying ≠ some k →
          g.stage = .expanding ∧ (t.face f).queue.stack = [⟨k, 0, none, x, y, 32⟩] ∧
          (t.template k).use = (s.template k).use + 1 ∧ k ∈ t.templates.entered)) ∧
      (∀ n slot k box, cellKind cell = some .card → parseSeg .card cell = some (.card n slot k box) →
        (1080 < box.x + box.w ∨ 1920 < box.y + box.h → g.stage = .failed .range ∧ (t.face f).cards = (s.face f).cards) ∧
        (box.x + box.w ≤ 1080 → box.y + box.h ≤ 1920 →
          ((s.entry n).state ≠ .live → g.stage = .failed .notLive ∧ (t.face f).cards = (s.face f).cards ∧
            (t.face f).snapshot = (s.face f).snapshot) ∧
          ((s.entry n).state = .live → (t.face f).snapshot = some ((s.entry n).snapshot n) ∧ g.card = some slot ∧
            (t.face f).cards = (s.face f).cards.set slot (some ⟨.drawing, n, (s.entry n).generation, box⟩) ∧
            ((s.face f).queue.stack = [] →
              ((s.template k).cells = none → g.stage = .failed .noTemplate) ∧
              ((s.template k).cells ≠ none → s.templates.copying = some k → g.stage = .pushing k box.x box.y none) ∧
              ((s.template k).cells ≠ none → s.templates.copying ≠ some k →
                g.stage = .expanding ∧ (t.face f).queue.stack = [⟨k, 0, none, box.x, box.y, 32⟩] ∧
                (t.template k).use = (s.template k).use + 1 ∧ k ∈ t.templates.entered))))) ∧
      (∀ r, cellKind cell = some .clearRoute ∨ (cellKind cell = some .route ∧ parseSeg .route cell ≠ none) →
        (s.face f).route = some r → r.state = .drawn ∨ r.state = .stale →
        g.stage = .erasing ∧ (t.face f).route = (s.face f).route ∧
        t.engine.jobs = routeJob f (s.face f).window s.settings.orientation[f] r.colour r.width r.copy) ∧
      ((∀ r, (s.face f).route = some r → r.state = .drawing ∨ r.state = .gone ∨ r.state = .disturbed) →
        (cellKind cell = some .clearRoute → g.stage = .finished ∧ (t.face f).route = none ∧ t.engine.jobs = []) ∧
        (∀ n colour width, cellKind cell = some .route → parseSeg .route cell = some (.route n colour width) →
          ((s.entry n).state ≠ .live → g.stage = .failed .notLive ∧ (t.face f).route = (s.face f).route ∧ t.engine.jobs = []) ∧
          ((s.entry n).state = .live →
            (t.face f).route = some ⟨.drawing, n, (s.entry n).generation, colour, width, s.routeOf (s.entry n)⟩ ∧ g.routed = true ∧
            t.engine.jobs = routeJob f (s.face f).window s.settings.orientation[f] colour width (s.routeOf (s.entry n)) ∧
            g.stage = if t.engine.jobs = [] then .finished else .routing))) ∧
      (∀ slot colour, cellKind cell = some .clearSlot → parseSeg .clearSlot cell = some (.clearSlot slot colour) →
        (t.face f).cards = (s.face f).cards ∧
        ((s.face f).cards[slot] = none → g.stage = .finished ∧ t.engine.jobs = []) ∧
        (∀ card : Card, (s.face f).cards[slot] = some card → g.stage = .clearing slot ∧
          t.engine.jobs = (if card.rect.w = 0 ∨ card.rect.h = 0 then []
                           else [.plot ⟨f, .card, .replace, .solid colour, card.rect, 0⟩])))) ∧
    (cellKind cell = some .waitFrame → (s.face f).queue.stop = false → (s.face f).queue.stack = [] →
      s.evac.state = .normal → s.update.state ≠ .deferred → (s.face f).port.inProgress ≠ some .resetFace →
      ∃ t : State, exec .faceGrant s = .next t ∧
        t = { s with faces := t.faces, arbiter := ⟨none, some f, t.grantDecision⟩, engine := ⟨none, [], false⟩
                     templates := { s.templates with entered := [] } } ∧
        t.face f = { s.face f with waitCount := 0, snapshot := none, queue := { (s.face f).queue with state := .waiting } } ∧
        ∀ h : Face, h ≠ f → t.face h = { s.face h with waitCount := count h })

/-- TEMPLATE_CELL_STEP at a SELECT (R100). -/
def Obligations.SelectContinuesAtItsCell : Prop :=
  ∀ (s : State) (g : Segment) (top : Level) (below : List Level) (sn : Snapshot) (cell : Bytes) (sel : Selector) (n v : Nat),
    s.engine.segment = some g → g.stage = .expanding → s.engine.jobs = [] →
    (s.face g.face).queue.stack = top :: below → 1 ≤ top.budget → (s.face g.face).snapshot = some sn →
    cell = cellOf ((s.template top.template).cells.getD []) top.cell →
    cellKind cell = some .select → parseSeg .select cell = some (.select sel n) →
    v = (match sel with
         | .openMark => (match sn.openMark with
                         | .opened => 0
                         | .closed => 1
                         | .absent => 2)
         | .category => sn.category % 8
         | .level => sn.level
         | .hasName => if (sn.names[g.language]).isSome = true then 1 else 0) →
    exec .templateCellStep s = .next (s.modFace g.face (fun c => { c with queue := { c.queue with
      stack := { top with cell := top.cell + 1 + Fin.ofNat 16 (if n ≤ v then n - 1 else v), budget := top.budget - 1 } :: below } }))

/-- TEMPLATE_CELL_STEP at the other template cells (R97 to R99, R102, R103, R116 to R122): the budget is looked at first; GOTO goes on
at its cell; END pops the level, and the level below goes on at the return cell or the segment's work is done; CALL enters its template
or fails with DEPTH or NO_TEMPLATE or waits for a copy; a FILL, FRAME or IMAGE inside the face has its pixels to write at the level's
origin, one on the map layer disturbing the route slot; a TEXT_FIELD inside the face has its string laid out under the language slot's
direction and ellipsis, or goes on where no position is left; a cell of no kind, a kind that may not run there, a field out of range,
a shape that leaves the face and an image that leaves the buffer fail. That a failed or finished segment waits in that stage for
SEGMENT_FAULT or SEGMENT_COMPLETION is log 14, and that a level stays at a drawing cell until its last pixel group is log 15: both
are the model's choices. -/
def Obligations.TemplateCellsRun : Prop :=
  ∀ (s : State) (g : Segment) (top : Level) (below : List Level) (cell : Bytes) (spent : State) (fails : FaultReason → State),
    s.engine.segment = some g → g.stage = .expanding → s.engine.jobs = [] →
    (s.face g.face).queue.stack = top :: below →
    cell = cellOf ((s.template top.template).cells.getD []) top.cell →
    spent = s.modFace g.face (fun c => { c with queue := { c.queue with
      stack := { top with budget := top.budget - 1 } :: below } }) →
    (∀ why, fails why = { spent with engine := { s.engine with segment := some { g with stage := .failed why } } }) →
    (top.budget = 0 → exec .templateCellStep s =
      .next { s with engine := { s.engine with segment := some { g with stage := .failed .runaway } } }) ∧
    (1 ≤ top.budget →
      (cellKind cell = none → exec .templateCellStep s = .next (fails .badKind)) ∧
      (cellKind cell = some .route ∨ cellKind cell = some .clearRoute ∨ cellKind cell = some .clearSlot ∨
        cellKind cell = some .waitFrame → exec .templateCellStep s = .next (fails .context)) ∧
      (cellKind cell = some .textField ∨ cellKind cell = some .select ∨ cellKind cell = some .card →
        (s.face g.face).snapshot = none → exec .templateCellStep s = .next (fails .context)) ∧
      (cellKind cell = some .card → (s.face g.face).snapshot ≠ none → exec .templateCellStep s = .next (fails .nestedCard)) ∧
      (∀ k, cellKind cell = some k → k = .fill ∨ k = .frame ∨ k = .image ∨ k = .call ∨ k = .goto → parseSeg k cell = none →
        exec .templateCellStep s = .next (fails .range)) ∧
      (∀ k, cellKind cell = some k → k = .textField ∨ k = .select → (s.face g.face).snapshot ≠ none → parseSeg k cell = none →
        exec .templateCellStep s = .next (fails .range)) ∧
      (∀ i, cellKind cell = some .goto → parseSeg .goto cell = some (.goto i) →
        exec .templateCellStep s = .next (s.modFace g.face (fun c => { c with queue := { c.queue with
          stack := { top with cell := i, budget := top.budget - 1 } :: below } }))) ∧
      (cellKind cell = some .endLevel → ∃ t : State, exec .templateCellStep s = .next t ∧
        t = { s with faces := t.faces, engine := t.engine, templates := { s.templates with table := t.templates.table } } ∧
        (∀ k, t.template k =
          if k = top.template then { s.template k with use := (s.template k).use - 1 } else s.template k) ∧
        (∀ f : Face, f ≠ g.face → t.face f = s.face f) ∧
        (below = [] → t.engine.segment = some { g with stage := .finished } ∧ (t.face g.face).queue.stack = []) ∧
        (∀ l ls, below = l :: ls → t.engine = s.engine ∧
          (t.face g.face).queue.stack = { l with cell := top.ret.getD (l.cell + 1) } :: ls)) ∧
      (∀ k x y, cellKind cell = some .call → parseSeg .call cell = some (.call k x y) →
        (4 ≤ below.length + 1 → exec .templateCellStep s = .next (fails .depth)) ∧
        (below.length + 1 < 4 →
          ((s.template k).cells = none → exec .templateCellStep s = .next (fails .noTemplate)) ∧
          ((s.template k).cells ≠ none → s.templates.copying = some k → exec .templateCellStep s = .next { spent with
            engine := { s.engine with segment := some { g with
              stage := .pushing k (top.x + x) (top.y + y) (some (top.cell + 1)) } } }) ∧
          ((s.template k).cells ≠ none → s.templates.copying ≠ some k → ∃ t : State, exec .templateCellStep s = .next t ∧
            t = { s with faces := t.faces, templates := t.templates } ∧
            (t.face g.face).queue.stack =
              ⟨k, 0, some (top.cell + 1), top.x + x, top.y + y, 32⟩ :: { top with budget := top.budget - 1 } :: below ∧
            (∀ j, t.template j = if j = k then { s.template j with use := (s.template j).use + 1 } else s.template j) ∧
            t.templates.copying = s.templates.copying ∧ ∀ j, j ∈ t.templates.entered ↔ j = k ∨ j ∈ s.templates.entered))) ∧
      (∀ k seg l m shape box fits, cellKind cell = some k → parseSeg k cell = some seg →
        seg.plain = some (l, m, shape, box, fits) →
        (1080 < top.x + box.x + box.w ∨ 1920 < top.y + box.y + box.h → exec .templateCellStep s = .next (fails .range)) ∧
        (top.x + box.x + box.w ≤ 1080 → top.y + box.y + box.h ≤ 1920 →
          (fits = false → exec .templateCellStep s = .next (fails .imageRange)) ∧
          (fits = true → exec .templateCellStep s = .next (State.modFace { spent with engine := { s.engine with
              jobs := [.plot ⟨g.face, l, m, shape, ⟨top.x + box.x, top.y + box.y, box.w, box.h⟩, 0⟩] } } g.face
            (fun c => { c with route := disturbedBy l c.route }))))) ∧
      (∀ field m col scale x y width (sn : Snapshot), cellKind cell = some .textField →
        parseSeg .textField cell = some (.textField field m col scale x y width) → (s.face g.face).snapshot = some sn →
        (1080 < top.x + x + width ∨ 1920 < top.y + y + 24 * scale → exec .templateCellStep s = .next (fails .range)) ∧
        (top.x + x + width ≤ 1080 → top.y + y + 24 * scale ≤ 1920 →
          ∀ (codes : List Nat) (rtl : Bool) (ellipsis : Option Nat) (positions : List (Nat × Nat)),
          codes = (match field with
                   | .unit => sn.unit
                   | .name =>
                     match sn.names[g.language] with
                     | some name => name
                     | none => (sn.names[(0 : Fin 4)]).getD []) →
          (rtl, ellipsis) = (match s.languages[g.language] with
                             | some i => (decide (i.num 0 = 1), if i.num16 2 = 0xFFFF then none else some (i.num16 2))
                             | none => (false, none)) →
          positions = layoutText rtl ellipsis (top.x + x) width (24 * scale) codes →
          (positions = [] → exec .templateCellStep s = .next (s.modFace g.face (fun c => { c with queue := { c.queue with
            stack := { top with cell := top.cell + 1, budget := top.budget - 1 } :: below } }))) ∧
          (positions ≠ [] → exec .templateCellStep s = .next { spent with engine := { s.engine with
            jobs := [.text ⟨g.face, m, col, scale, top.y + y, positions⟩] } }))))

/-- The one pixel of a plot through the pixel path (R115, R117, R118, R123, R128, R133, R134): a pixel the mask admits takes the source
combined with its colour on the target layer; every other pixel of the layer, every pixel of the other layer, and every pixel of the
other faces keep their colours. The sources: a solid shape, an outline, an image, a glyph's covered pixels, and a route set, whose
pixels are those of the brush squares of its lines and of its level markers. A run of pixels combined by XOR twice, from the same plot,
leaves every pixel of every layer as it was (R129). Text is laid out in positions, cut to as many as fit with the ellipsis in the last
(R121, R122). A waypoint is placed through the window and the orientation, rounded down (R127), and the route set of a copy is one
plot whose box holds every pixel of the set on the face, or none where it has no such pixel (R128, R129); that the box is the run of
the pixel groups is the model's choice (log 5). -/
def Obligations.PixelPathWritesItsPixel : Prop :=
  (∀ (p : Plot) (buffer : Mem) (planes : Vector Mem 4) (c r : Nat), p.box.x + c < 1080 → p.box.y + r < 1920 →
     (∀ (l : Layer) (f : Face) (x y : Nat), x < 1080 → y < 1920 →
       layerColour (plotPixel p buffer planes c r) l f x y =
         if l = p.layer ∧ f = p.face ∧ x = p.box.x + c ∧ y = p.box.y + r then
           match p.source buffer c r with
           | none => layerColour planes l f x y
           | some src =>
             match p.combine with
             | .replace => src
             | .and => src &&& layerColour planes l f x y
             | .or => src ||| layerColour planes l f x y
             | .xor => src ^^^ layerColour planes l f x y
         else layerColour planes l f x y) ∧
     (∀ col, p.shape = .solid col → p.source buffer c r = some col) ∧
     (∀ t col, p.shape = .outline t col → c < p.box.w → r < p.box.h →
       p.source buffer c r =
         if c < t ∨ (p.box.w : Int) - t ≤ c ∨ r < t ∨ (p.box.h : Int) - t ≤ r then some col else none) ∧
     (∀ o keyed, p.shape = .image o keyed → ∀ (b : Byte) (i : Nat),
       b = buffer.read (o + (r * p.box.w + c) / 4) → i = (r * p.box.w + c) % 4 →
       p.source buffer c r =
         if keyed = true ∧ b.extractLsb' (6 - 2 * i) 2 = 0 then none else some (b.extractLsb' (6 - 2 * i) 2)) ∧
     (∀ glyph scale col, p.shape = .glyph glyph scale col →
       p.source buffer c r =
         if (glyph.getD (3 * (r / scale) + c / scale / 8) 0).getLsbD (7 - c / scale % 8) = true then some col else none) ∧
     (∀ points w col, p.shape = .route points w col →
       ((∃ i a b, points[i]? = some a ∧ points[i + 1]? = some b ∧ pairAdds w a b (p.box.x + c) (p.box.y + r)) →
         p.source buffer c r = some col) ∧
       ((∀ i a b, points[i]? = some a → points[i + 1]? = some b → ¬pairAdds w a b (p.box.x + c) (p.box.y + r)) →
         p.source buffer c r = none))) ∧
  (∀ (p : Plot) (buffer : Mem) (n c r : Nat) (planes : Vector Mem 4), p.combine = .xor →
     p.box.x + c + n ≤ 1080 → p.box.y + r < 1920 →
     ∀ (l : Layer) (f : Face) (x y : Nat), x < 1080 → y < 1920 →
       layerColour (plotRun p buffer n c r (plotRun p buffer n c r planes)) l f x y = layerColour planes l f x y) ∧
  (∀ (rtl : Bool) (ellipsis : Option Nat) (x m g : Nat) (codes : List Nat) (positions : List (Nat × Nat)), 1 ≤ g →
     positions = layoutText rtl ellipsis x m g codes →
     positions.length = min codes.length (m / g) ∧
     ∀ i code edge, positions[i]? = some (code, edge) →
       edge = (if rtl = true then x + m - (i + 1) * g else x + i * g) ∧
       (codes.length ≤ m / g ∨ ellipsis = none ∨ i + 1 < m / g → codes[i]? = some code) ∧
       (∀ e, m / g < codes.length → ellipsis = some e → i + 1 = m / g → code = e)) ∧
  (∀ (win : MapWindow) (o : Orientation) (w : Waypoint) (q : Placed) (dx dy rx ry : Int), 1 ≤ win.scale → q = placeWaypoint win o w →
     dx = (w.extractLsb' 20 12).toNat - win.mx → dy = (w.extractLsb' 8 12).toNat - win.my →
     (rx, ry) = (match o with
                 | .deg0 => (dx, dy)
                 | .deg90 => (-dy, dx)
                 | .deg180 => (-dx, -dy)
                 | .deg270 => (dy, -dx)) →
     (q.onLevel = true ↔ (w.extractLsb' 0 3).toNat = win.level) ∧
     (q.x - win.cx) * win.scale ≤ rx ∧ rx < (q.x - win.cx + 1) * win.scale ∧
     (q.y - win.cy) * win.scale ≤ ry ∧ ry < (q.y - win.cy + 1) * win.scale) ∧
  (∀ (face : Face) (win : MapWindow) (o : Orientation) (colour : Colour) (width : Nat) (copy : List Waypoint)
     (points : List Placed) (inSet : Nat → Nat → Prop), points = copy.map (placeWaypoint win o) →
     (∀ x y, inSet x y ↔ x < 1080 ∧ y < 1920 ∧
       ∃ i a b, points[i]? = some a ∧ points[i + 1]? = some b ∧ pairAdds width a b x y) →
     (routeJob face win o colour width copy = [] ∧ ∀ x y, ¬inSet x y) ∨
     (∃ box : Rect, routeJob face win o colour width copy = [.plot ⟨face, .map, .xor, .route points width colour, box, 0⟩] ∧
       box.x + box.w ≤ 1080 ∧ box.y + box.h ≤ 1920 ∧
       ∀ x y, inSet x y → box.x ≤ x ∧ x < box.x + box.w ∧ box.y ≤ y ∧ y < box.y + box.h))

/-- PIXEL_GROUP_WRITE (R18, R113, R117, R123, R126): the next pixels of the row are written; with the last of them the work moves on. A
text field's next position is a glyph of the page its code names, of page 0's code 0 where that page is BLANK, of no covered pixel where
page 0 is BLANK too, and a request for a page in copy is held and writes nothing. A message of EC is the text field in REPLACE at
scale 2 in colour 2 in the box (24, 96, 1032, 48), laid out under the direction and ellipsis of its language's slot as it starts (R179);
a message has a code at least (R175). The group's length (log 5), the level that goes
on with its last group (log 15), the stage finished that waits for SEGMENT_COMPLETION (log 14), and the glyph asked for with its first
group (log 27) are the model's choices. -/
def Obligations.PixelGroupWritesAdvance : Prop :=
  ∀ (s : State) (count n : Nat) (p : Plot) (rest : List Job) (t : State),
    s.engine.glyphHeld = false → s.engine.jobs = .plot p :: rest →
    n = min (min count 32) (p.box.w - p.passed % p.box.w) →
    t = { s with planes := plotRun p (s.face p.face).image n (p.passed % p.box.w) (p.passed / p.box.w) s.planes } →
    (p.passed + n < p.box.w * p.box.h →
      exec (.pixelGroupWrite count) s = .next { t with engine := { s.engine with jobs := .plot { p with passed := p.passed + n } :: rest } }) ∧
    (p.box.w * p.box.h ≤ p.passed + n →
      (rest ≠ [] ∨ s.engine.segment = none →
        exec (.pixelGroupWrite count) s = .next { t with engine := { s.engine with jobs := rest } }) ∧
      (∀ g, rest = [] → s.engine.segment = some g →
        (g.stage = .drawing ∨ g.stage = .routing →
          exec (.pixelGroupWrite count) s =
            .next { t with engine := { s.engine with jobs := [], segment := some { g with stage := .finished } } }) ∧
        (∀ slot, g.stage = .clearing slot →
          exec (.pixelGroupWrite count) s =
            .next (State.modFace { t with engine := { s.engine with jobs := [], segment := some { g with stage := .finished } } }
              g.face (fun c => { c with cards := c.cards.set slot none }))) ∧
        (g.stage = .erasing → exec (.pixelGroupWrite count) s = .next { t with engine := { s.engine with jobs := [] } }) ∧
        (∀ l ls, g.stage = .expanding → (s.face g.face).queue.stack = l :: ls →
          exec (.pixelGroupWrite count) s =
            .next (State.modFace { t with engine := { s.engine with jobs := [] } } g.face (fun c =>
              { c with queue := { c.queue with stack := { l with cell := l.cell + 1 } :: ls } }))))) ∧
    (∀ (u : State) (field : TextRun) (code edge : Nat), u = { s with engine := { s.engine with jobs := .text field :: rest } } →
      field.rest.head? = some (code, edge) →
      (u.glyphRequest code = none →
        exec (.pixelGroupWrite count) u = .next { u with engine := { u.engine with glyphHeld := true } }) ∧
      (∀ glyph later, u.glyphRequest code = some glyph →
        later = (if field.rest.tail = [] then rest else .text { field with rest := field.rest.tail } :: rest) →
        exec (.pixelGroupWrite count) u = exec (.pixelGroupWrite count) { u with engine := { u.engine with
          jobs := .plot ⟨field.face, .card, field.combine, .glyph glyph field.scale field.colour,
            ⟨edge, field.y, 24 * field.scale, 24 * field.scale⟩, 0⟩ :: later } })) ∧
    (∀ (u : State) (f : Face) (l : Fin 4) (codes : List Nat) (rtl : Bool) (ellipsis : Option Nat),
      u = { s with engine := { s.engine with jobs := .message f l codes :: rest } } → codes ≠ [] →
      (rtl, ellipsis) = (match s.languages[l] with
                         | some i => (decide (i.num 0 = 1), if i.num16 2 = 0xFFFF then none else some (i.num16 2))
                         | none => (false, none)) →
      exec (.pixelGroupWrite count) u = exec (.pixelGroupWrite count) { u with engine := { u.engine with
        jobs := .text ⟨f, .replace, 2, 2, 96, layoutText rtl ellipsis 24 1032 48 codes⟩ :: rest } }) ∧
    (∀ code page : Nat, page = code / 64 →
      (s.glyphs.copying = some page → s.glyphRequest code = none) ∧
      (s.glyphs.copying ≠ some page →
        (∀ m, s.glyphPage page = some m → s.glyphRequest code = some (m.readBytes (72 * (code % 64)) 72)) ∧
        (s.glyphPage page = none →
          (s.glyphs.copying = some 0 → s.glyphRequest code = none) ∧
          (s.glyphs.copying ≠ some 0 →
            (∀ m, s.glyphPage 0 = some m → s.glyphRequest code = some (m.readBytes 0 72)) ∧
            (s.glyphPage 0 = none → s.glyphRequest code = some (List.replicate 72 0))))))

/-- The pixel value and the place of its bits (R133, R134): the byte and the bit of a plane that hold a pixel of a face, each
layer's colour from its two planes, the value from the two colours, the entry of the shown palette that SO drives, the planes a
write to a layer sets, and what the default palette (R142) shows. -/
def Obligations.PixelValueIndexesThePalette : Prop :=
  (∀ (m : Mem) (f : Face) (x y n : Nat), n = y * 1080 + x →
    pixelByte f x y = 259200 * f.val + n / 8 ∧ pixelBit x y = 7 - n % 8 ∧
    Mem.bit m (pixelByte f x y) (pixelBit x y) = (m.read (pixelByte f x y)).getLsbD (7 - n % 8)) ∧
  ∀ (s : State) (f : Face) (x y : Nat) (bit : Fin 4 → Nat),
    (∀ p : Fin 4, bit p = if Mem.bit s.planes[p] (pixelByte f x y) (pixelBit x y) = true then 1 else 0) →
    (layerColour s.planes .map f x y).toNat = bit 0 + 2 * bit 1 ∧
    (layerColour s.planes .card f x y).toNat = bit 2 + 2 * bit 3 ∧
    (pixelValue s.planes f x y).toNat =
      (layerColour s.planes .map f x y).toNat + 4 * (layerColour s.planes .card f x y).toNat ∧
    (∀ i : Fin 16, i.val = (pixelValue s.planes f x y).toNat → s.shownColour f x y = (s.face f).palette.shown[i]) ∧
    (∀ v : Colour,
      layerColour (putColour s.planes .map f x y v) .map f x y = v ∧
      (∀ p : Fin 4, p = 2 ∨ p = 3 → (putColour s.planes .map f x y v)[p] = s.planes[p]) ∧
      layerColour (putColour s.planes .card f x y v) .card f x y = v ∧
      (∀ p : Fin 4, p = 0 ∨ p = 1 → (putColour s.planes .card f x y v)[p] = s.planes[p])) ∧
    ((s.face f).palette.shown = defaultPalette → ∀ map card : Nat,
      map = (layerColour s.planes .map f x y).toNat → card = (layerColour s.planes .card f x y).toNat →
      s.shownColour f x y =
        if card = 1 then 0xFFFFFF else if card = 2 then 0x2E3135 else if card = 3 then 0xF2661C
        else if map = 0 then 0xE6DFCF else if map = 1 then 0xCFD1D3 else if map = 2 then 0x8E9296 else 0x1F3C73)

/-- ROUTE_ERASE_DONE (R130, R131): the route slot becomes NONE; CLEAR_ROUTE has done its work, and ROUTE takes its snapshot: a slot in
DRAWING with its own copy, whose route set is to be drawn, or NOT_LIVE. That the segment then waits in stage finished or failed for its
SEGMENT_COMPLETION or SEGMENT_FAULT is the model's choice (log 14). -/
def Obligations.EraseEndLeavesNone : Prop :=
  ∀ (s : State) (g : Segment), s.engine.segment = some g → g.stage = .erasing → s.engine.jobs = [] →
    (g.kind = some .clearRoute → exec .routeEraseDone s =
      .next (State.modFace { s with engine := { s.engine with segment := some { g with stage := .finished } } } g.face
        (fun c => { c with route := none }))) ∧
    (∀ n colour width, g.kind = some .route →
      parseSeg .route (cellOf (s.face g.face).queue.ring g.cell) = some (.route n colour width) →
      ((s.entry n).state ≠ .live → exec .routeEraseDone s =
        .next (State.modFace { s with engine := { s.engine with segment := some { g with stage := .failed .notLive } } } g.face
          (fun c => { c with route := none }))) ∧
      ((s.entry n).state = .live → ∀ jobs : List Job,
        jobs = routeJob g.face (s.face g.face).window s.settings.orientation[g.face] colour width (s.routeOf (s.entry n)) →
        exec .routeEraseDone s =
          .next (State.modFace { s with engine := { s.engine with
              jobs := jobs
              segment := some { g with routed := true, stage := if jobs = [] then .finished else .routing } } } g.face
            (fun c => { c with route := some ⟨.drawing, n, (s.entry n).generation, colour, width, s.routeOf (s.entry n)⟩ }))))

/-- SEGMENT_COMPLETION, SEGMENT_FAULT and CUTOFF_EXPIRY (R90, R92, R103, R104, R114, R174, R176): each ends the segment of the face that
holds the engine, as State.SegmentEnded gives, with no deferred commit and no held RESET_FACE, and in TAKEOVER the queue the end does
not leave IDLE is halted with EVAC: for a completion R90 writes that out, and for a fault it is deduced from R92 and R174 (log 11);
that completion and fault are steps of their own is log 14; a cut-off timer that expires with no
segment only stops. At each of the three ends, a deferred template commit whose template the end leaves unused is released: a LOAD
begins its copy, and a CLEAR empties the template, ends its commit and raises TEMPLATE_CHANGED (R37, R40, R41); and a held RESET_FACE
applies (R81, R82). That at an end with both the reset comes after the commit, and empties the latch, is the model's choice (log 38). -/
def Obligations.SegmentsEndAsTheTableGives : Prop :=
  (∀ (s : State) (g : Segment) (r : ActiveRange), s.engine.segment = some g → (s.face g.face).queue.range = some r →
    g.kind ≠ some .waitFrame → s.update.state ≠ .deferred → (s.face g.face).port.inProgress ≠ some .resetFace →
    (g.stage = .finished → ∃ t : State, exec .segmentCompletion s = .next t ∧ s.SegmentEnded t g r none) ∧
    (∀ why, g.stage = .failed why → why ≠ .cut → ∃ t : State, exec .segmentFault s = .next t ∧ s.SegmentEnded t g r (some why)) ∧
    (∀ ms, s.evac.cutoff = .running ms → ∃ t : State, exec .cutoffExpiry s = .next t ∧
      State.SegmentEnded { s with evac := { s.evac with cutoff := .stopped } } t g r (some .cut))) ∧
  (∀ (s : State) (ms : Nat), s.engine.segment = none → s.evac.cutoff = .running ms →
    exec .cutoffExpiry s = .next { s with evac := { s.evac with cutoff := .stopped } }) ∧
  (∀ (s : State) (g : Segment) (c : Instr), s.engine.segment = some g →
    (c = .segmentCompletion ∧ g.stage = .finished) ∨ (c = .segmentFault ∧ ∃ why, g.stage = .failed why) ∨
      (c = .cutoffExpiry ∧ ∃ ms, s.evac.cutoff = .running ms) →
    ∃ t : State, exec c s = .next t ∧
      (∀ x : Txn, s.update.state = .deferred → s.update.txn = some x →
        (s.template x.number).use = (s.face g.face).queue.stack.countP (fun l => l.template == x.number) →
        (x.op = .load → t.update = { s.update with state := .committing } ∧ t.templates.copying = some x.number ∧
          (t.template x.number).cells.isSome = true ∧ (t.template x.number).use = 0) ∧
        (x.op = .clear →
          t.update = { s.update with
            state := .idle, txn := none, image := none, chain := ⟨[], 0⟩, count := s.update.count + 1
            recordTag := x.tag, recordOutcome := .committed, cold := false } ∧
          t.template x.number = ⟨none, 0⟩ ∧ t.templates.copying = s.templates.copying ∧
          (∀ f : Face, f ≠ g.face → t.face f = { s.face f with
            latch := if s.enabled f = true then (s.face f).latch ||| 0x100 else (s.face f).latch }) ∧
          (s.enabled g.face = true → (s.face g.face).port.inProgress ≠ some .resetFace →
            (t.face g.face).latch.getLsbD 8 = true))) ∧
      ((s.face g.face).port.inProgress = some .resetFace → t.face g.face = { s.face g.face with
        language := 0, window := ⟨540, 960, 2048, 2048, 0, 4⟩, image := []
        port := ⟨none, some ⟨.ok, 0x50, []⟩, (s.face g.face).port.dataOut⟩
        palette := { (s.face g.face).palette with own := defaultPalette, pending := Vector.replicate 16 none }
        queue := ⟨[], .idle, none, none, false, [], none⟩, snapshot := none
        cards := Vector.replicate 12 none, route := none
        latch := if s.enabled g.face = true then 1 else 0, mask := 0, waitCount := 0 }))

/-! ### The order of names, and the ends of commits -/

/-- The order of keys and of list places (R50). -/
def Obligations.KeysAreComparedCodeByCode : Prop :=
  (∀ a b : List Nat, keyLess a b = true ↔
    (∃ (pre as bs : List Nat) (m n : Nat), a = pre ++ m :: as ∧ b = pre ++ n :: bs ∧ m < n) ∨ (∃ m bs, b = a ++ m :: bs)) ∧
  (∀ a b : List Nat, a ≠ b ↔ keyLess a b = true ∨ keyLess b a = true) ∧
  (∀ a b : List Nat, keyLess a b = true → keyLess b a = false) ∧
  (∀ (s : State) (l : Fin 4) (m n : Nat),
    (s.before l m n = true ↔ keyLess (s.key l m) (s.key l n) = true ∨ (s.key l m = s.key l n ∧ m < n)) ∧
    (m ≠ n → (s.before l m n = true ↔ s.before l n m = false)))

/-- REPOSITION_DONE (R40, R51 to R53): the entry leaves each list if it was LIVE before and stands in it once if it is LIVE now, the
others keep their order; the commit is done; and each directory query that was held is answered from the new lists with the new
count. That the lists hold their old content until this step is the model's choice (log 16). -/
def Obligations.RepositionEndsTheCommit : Prop :=
  ∀ (s : State) (r : Reposition) (x : Txn), s.orders.reposition = some r → s.update.txn = some x →
    ∃ t : State, exec .repositionDone s = .next t ∧
      t = { s with
        orders := ⟨t.orders.lists, none⟩, faces := t.faces
        update := { s.update with state := .idle, txn := none, image := none, chain := ⟨[], 0⟩, count := s.update.count + 1
                                  recordTag := x.tag, recordOutcome := .committed, cold := false } } ∧
      (∀ l : Fin 4,
        t.orders.lists[l].filter (fun m => m != r.entry) = s.orders.lists[l].filter (fun m => m != r.entry) ∧
        (r.old = .live ∨ r.entry ∉ s.orders.lists[l] →
          t.orders.lists[l].count r.entry = if r.new = .live then 1 else 0)) ∧
      ∀ f : Face,
        t.face f = { s.face f with port := (t.face f).port, latch := (t.face f).latch } ∧
        ((s.face f).port.inProgress = none ∨ (s.face f).port.inProgress = some .resetFace ∨
          (s.face f).port.inProgress = some .readSlots ∨ (∃ px py, (s.face f).port.inProgress = some (.hitTest px py)) →
          t.face f = s.face f) ∧
        (∀ n l, (s.face f).port.inProgress = some (.readEntry n l) → (s.entry n).state ≠ .free →
          (t.face f).port = ⟨none, some ⟨.ok, 0x10, padResults 0x10 (t.entryResults n l)⟩, (s.face f).port.dataOut⟩) ∧
        (∀ n l, (s.face f).port.inProgress = some (.readEntry n l) → (s.entry n).state = .free →
          (t.face f).port = ⟨none, some ⟨.notLive, 0x10, padResults 0x10
            ([0x00, (s.entry n).generation] ++ Word16.bytes (s.update.count + 1))⟩, (s.face f).port.dataOut⟩) ∧
        (∀ l start count filter, (s.face f).port.inProgress = some (.listWindow l start count filter) →
          (t.face f).port = ⟨none, some ⟨.ok, 0x11, padResults 0x11 (t.windowResults l start count filter)⟩,
            (s.face f).port.dataOut⟩) ∧
        (∀ l codes, (s.face f).port.inProgress = some (.findPrefix l codes) →
          (t.face f).port = ⟨none, some ⟨.ok, 0x12, padResults 0x12 (t.prefixResults l codes)⟩, (s.face f).port.dataOut⟩) ∧
        ((∃ n l, (s.face f).port.inProgress = some (.readEntry n l)) ∨
          (∃ l start count filter, (s.face f).port.inProgress = some (.listWindow l start count filter)) ∨
          (∃ l codes, (s.face f).port.inProgress = some (.findPrefix l codes)) →
          (t.face f).latch = if s.enabled f = true then (s.face f).latch ||| 0x001 else (s.face f).latch)

/-- GLYPH_COPY_DONE and TEMPLATE_COPY_DONE (R18, R36, R37, R40, R97): the page or the template holds the staged image, the commit is
done, the event is raised on the enabled faces, a held glyph request is answered, and a push that waited takes place. That the new
bytes stand there from copy done is the model's choice (log 16). -/
def Obligations.CopiesEndTheirCommits : Prop :=
  ∀ (s : State) (x : Txn) (i : Image) (done : Update), s.update.txn = some x → s.update.image = some i →
    done = { s.update with state := .idle, txn := none, image := none, chain := ⟨[], 0⟩, count := s.update.count + 1
                           recordTag := x.tag, recordOutcome := .committed, cold := false } →
    (∀ p, s.glyphs.copying = some p → ∃ t : State, exec .glyphCopyDone s = .next t ∧
      t = { s with glyphs := t.glyphs, update := done, faces := t.faces, engine := t.engine } ∧
      (∀ k, t.glyphPage k = if k = p then some i.bytes else s.glyphPage k) ∧ t.glyphs.copying = none ∧
      (∀ f : Face, t.face f = { s.face f with
        latch := if s.enabled f = true then (s.face f).latch ||| 0x080 else (s.face f).latch }) ∧
      (s.engine.glyphHeld = false → t.engine = s.engine) ∧
      (∀ field rest code edge, s.engine.glyphHeld = true → s.engine.jobs = .text field :: rest →
        field.rest = [(code, edge)] → code / 64 = p →
        t.engine = { s.engine with
          glyphHeld := false
          jobs := .plot ⟨field.face, .card, field.combine,
            .glyph (i.bytes.readBytes (72 * (code % 64)) 72) field.scale field.colour,
            ⟨edge, field.y, 24 * field.scale, 24 * field.scale⟩, 0⟩ :: rest })) ∧
    (∀ k, s.templates.copying = some k → ∃ t : State, exec .templateCopyDone s = .next t ∧
      t = { s with templates := t.templates, update := done, faces := t.faces, engine := t.engine } ∧
      t.templates.copying = none ∧ (∀ j, (t.template j).cells = if j = k then some i.bytes else (s.template j).cells) ∧
      ((∀ g, s.engine.segment = some g → ∀ j x y ret, g.stage ≠ .pushing j x y ret) →
        t.engine = s.engine ∧ (∀ j, (t.template j).use = (s.template j).use) ∧
        ∀ f : Face, t.face f = { s.face f with
          latch := if s.enabled f = true then (s.face f).latch ||| 0x100 else (s.face f).latch }) ∧
      (∀ g px py ret, s.engine.segment = some g → g.stage = .pushing k px py ret →
        t.engine = { s.engine with segment := some { g with stage := .expanding } } ∧
        (t.face g.face).queue.stack = ⟨k, 0, ret, px, py, 32⟩ :: (s.face g.face).queue.stack ∧
        (∀ j, (t.template j).use = if j = k then (s.template j).use + 1 else (s.template j).use) ∧
        k ∈ t.templates.entered ∧ ∀ f : Face, f ≠ g.face → t.face f = { s.face f with
          latch := if s.enabled f = true then (s.face f).latch ||| 0x100 else (s.face f).latch }))

/-- PURGE_GRANT and PURGE_END (R44, R45, R109, R154): at the grant the purge holds the engine and every queue that is not IDLE is
halted PURGED; at its end every store is at its reset value, every tracked slot GONE with its events, the count moved on, UC IDLE
and the engine released, and no request is held. That a RESET_FACE held behind the purge applies after the purge's slot changes and
events, and leaves none of them in the latch, is deduced from R81 (log 20); that the stores change at this step is log 16. -/
def Obligations.PurgeClearsTheStores : Prop :=
  (∀ (s : State) (claims : List Face), s.arbiter.holder = none → s.arbiter.decision = some ⟨.purge, claims⟩ →
    ∃ t : State, exec .purgeGrant s = .next t ∧
      t = { s with arbiter := ⟨some .purge, s.arbiter.lastServed, none⟩, faces := t.faces } ∧
      ∀ f : Face, t.face f = { s.face f with queue :=
        match (s.face f).queue.state with
        | .pending | .waiting | .halted =>
          { (s.face f).queue with state := .halted, halt := some .purged, range := none, stop := false }
        | .idle | .running => (s.face f).queue }) ∧
  (∀ s : State, s.arbiter.holder = some .purge →
    ∃ t : State, exec .purgeEnd s = .next t ∧
      t = { s with
        directory := [], routes := ⟨[], []⟩, glyphs := ⟨[], none⟩
        languages := #v[some [(2, 0xFF), (3, 0xFF)], none, none, none], templates := ⟨[], none, []⟩
        orders := ⟨#v[[], [], [], []], none⟩, evac := { s.evac with plans := Vector.replicate 8 none }
        update := { s.update with purging := false, state := .idle, count := s.update.count + 1, chain := ⟨[], 0⟩ }
        arbiter := ⟨none, s.arbiter.lastServed, t.grantDecision⟩, faces := t.faces } ∧
      ∀ f : Face, (t.face f).port.inProgress = none ∧
        ((s.face f).port.inProgress ≠ some .resetFace →
          t.face f = { s.face f with
            cards := (t.face f).cards, route := (t.face f).route, latch := (t.face f).latch, port := (t.face f).port } ∧
          (∀ i : Fin 12, (t.face f).cards[i] = (s.face f).cards[i].map (fun card => { card with state := .gone })) ∧
          (t.face f).route = (s.face f).route.map (fun v => { v with state := .gone }) ∧
          ((s.face f).port.inProgress = none → (t.face f).port = (s.face f).port) ∧
          (s.enabled f = false → (t.face f).latch = (s.face f).latch) ∧
          (s.enabled f = true → (t.face f).latch = (s.face f).latch ||| 0x1C0
            ||| (if ∃ i : Fin 12, (s.face f).cards[i] ≠ none then 0x010 else 0)
            ||| (if (s.face f).route ≠ none then 0x020 else 0)
            ||| (if (s.face f).port.inProgress ≠ none then 0x001 else 0))) ∧
        ((s.face f).port.inProgress = some .readSlots → (t.face f).port.reply =
          some ⟨.ok, 0x40, (t.face f).cards.toList.flatMap cardBytes ++ routeBytes (t.face f).route⟩) ∧
        (∀ l start count filter, (s.face f).port.inProgress = some (.listWindow l start count filter) →
          (t.face f).port.reply = some ⟨.ok, 0x11, [0, 0] ++ Word16.bytes (s.update.count + 1) ++ List.replicate 41 0⟩) ∧
        ((s.face f).port.inProgress = some .resetFace → (t.face f).port.reply = some ⟨.ok, 0x50, []⟩ ∧
          (t.face f).cards = Vector.replicate 12 none ∧ (t.face f).route = none ∧ (t.face f).latch &&& 0xFFE = 0))

/-! ### Frame starts and supervision -/

/-- FRAME_START (R91, R93, R136, R140): the shown palette is chosen by the source, a WAITING queue's cell completes, and the sync
begins with PXf_VS asserted; nothing else of this face, nothing of the others, and no plane changes. That PXf_DE is not asserted in the
sync is the model's choice (log 6). -/
def Obligations.FrameStartPacesItsFace : Prop :=
  ∀ (s : State) (f : Face), s.loadEnded = true → s.enabled f = true → ∃ t : State, exec (.frameStart f) s = .next t ∧
    t.pxVs f = true ∧ t.pxDe f = false ∧
    t = { s with faces := t.faces, arbiter := { s.arbiter with decision := t.arbiter.decision } } ∧
    (∀ h : Face, h ≠ f → t.face h = s.face h) ∧
    t.face f = { s.face f with
      scan := .sync, palette := (t.face f).palette, queue := (t.face f).queue, latch := (t.face f).latch } ∧
    ((s.face f).palette.source = .evacuation →
      (t.face f).palette = { (s.face f).palette with shown := (s.face f).palette.evacuation }) ∧
    ((s.face f).palette.source = .face →
      (t.face f).palette = { (s.face f).palette with
        own := (t.face f).palette.shown, pending := Vector.replicate 16 none, shown := (t.face f).palette.shown } ∧
      ∀ i : Fin 16, (t.face f).palette.shown[i] =
        match (s.face f).palette.pending[i] with
        | some colour => colour
        | none => (s.face f).palette.own[i]) ∧
    ((s.face f).queue.state ≠ .waiting →
      (t.face f).queue = (s.face f).queue ∧ (t.face f).latch = (s.face f).latch) ∧
    (∀ r done, (s.face f).queue.state = .waiting → (s.face f).queue.range = some r →
      done = (if cellNotify (cellOf (s.face f).queue.ring r.next) = true then (0x002 : EventSet) else 0) →
      (r.next = r.last →
        (t.face f).queue = { (s.face f).queue with state := .idle, halt := none, range := none, stop := false } ∧
        (t.face f).latch = (s.face f).latch ||| done ||| 0x004) ∧
      (r.next ≠ r.last →
        (t.face f).queue = { (s.face f).queue with state := .pending, range := some ⟨r.next + 1, r.last⟩ } ∧
        (t.face f).latch = (s.face f).latch ||| done ∧
        (s.arbiter.holder = none → t.arbiter.decision ≠ none ∨ s.evac.state ≠ .normal)))

/-- The wait timer starts at the wait time, and with OFF there is none (R162). WAIT_TIME_EXPIRY and RECOVERY_WINDOW_EXPIRY
(R165, R167): withdrawal, and the next pulse or DISABLED. KICK (R163, R168): no effect
OFF and in PULSE, the full wait time again in WATCH, readmission from RECOVERY and DISABLED with count 0 and RECOVERED; STATE in
PULSE and OK otherwise. That the segment carries the flag that PULSE was entered is deduced from R90 (log 30); that a queue HALTED for
another reason keeps it at an entry to PULSE from RECOVERY is the model's choice (log 32). -/
def Obligations.SupervisorFollowsItsTables : Prop :=
  (∀ c : Settings, (c.waitMs = none → c.waitTimer = .stopped) ∧ ∀ ms, c.waitMs = some ms → c.waitTimer = .running ms) ∧
  (∀ (s : State) (f : Face) (ms : Nat), (s.face f).supervisor.timer = .running ms →
     ((s.face f).supervisor.state = .watch → ∃ t : State, exec (.waitTimeExpiry f) s = .next t ∧
       t = { s with faces := t.faces, arbiter := { s.arbiter with decision := t.arbiter.decision }
                    engine := { s.engine with segment := s.engine.segment.map (fun g =>
                      if g.face = f then { g with pulsed := true } else g) } } ∧
       (∀ h : Face, h ≠ f → t.face h = s.face h) ∧ t.frst f = true ∧ t.withdrawn f = true ∧
       t.face f = { s.face f with
         supervisor := ⟨.pulse, .running s.settings.pulseMs, (s.face f).supervisor.pulses⟩
         port := ⟨none, none, (s.face f).port.dataOut⟩
         queue := match (s.face f).queue.state with
           | .pending | .waiting | .halted =>
             { (s.face f).queue with state := .halted, halt := some .withdrawn, range := none, stop := false }
           | .idle | .running => (s.face f).queue }) ∧
     ((s.face f).supervisor.state = .recovery →
       ((s.face f).supervisor.pulses + 1 < s.settings.pulseLimit →
         exec (.recoveryWindowExpiry f) s = .next (State.modFace
           { s with engine := { s.engine with segment := s.engine.segment.map (fun g =>
                      if g.face = f then { g with pulsed := true } else g) } } f
           (fun c => { c with supervisor := ⟨.pulse, .running s.settings.pulseMs, c.supervisor.pulses + 1⟩ }))) ∧
       (s.settings.pulseLimit ≤ (s.face f).supervisor.pulses + 1 →
         exec (.recoveryWindowExpiry f) s = .next (s.modFace f
           (fun c => { c with supervisor := ⟨.disabled, .stopped, c.supervisor.pulses + 1⟩ }))))) ∧
  (∀ (s : State) (f : Face) (x : Transfer), s.portOpen f → x.bytes = [] →
     ((s.face f).supervisor.state = .off →
       exec (.kick f x) s = .next (s.modFace f (fun c => c.replied (s.requestOut f x) .ok 0x02 []))) ∧
     ((s.face f).supervisor.state = .watch →
       exec (.kick f x) s = .next (s.modFace f (fun c =>
         { c.replied (s.requestOut f x) .ok 0x02 [] with supervisor := { c.supervisor with timer := s.settings.waitTimer } }))) ∧
     ((s.face f).supervisor.state = .pulse →
       exec (.kick f x) s = .next (s.modFace f (fun c => c.replied (s.requestOut f x) .state 0x02 []))) ∧
     ((s.face f).supervisor.state = .recovery ∨ (s.face f).supervisor.state = .disabled →
       exec (.kick f x) s = .next (s.modFace f (fun c =>
         { c.replied (s.requestOut f x) .ok 0x02 [] with
           supervisor := ⟨.watch, s.settings.waitTimer, 0⟩, latch := c.latch ||| 0x801 }))))

/-- PULSE_TIME_EXPIRY (R166): FRST is released, the supervisor is in RECOVERY with the recovery window and its count, the face stays
withdrawn, and nothing else changes; a segment the face held at its entry to PULSE still halts its queue WITHDRAWN at its end
(R90 gives a fault or a cut its own reason, and R92 the halt of a takeover). That an entry to PULSE earlier in the segment counts is
the model's own, deduced from R90 (log 30). -/
def Obligations.PulseExpiryEntersRecovery : Prop :=
  (∀ (s : State) (f : Face) (ms : Nat), (s.face f).supervisor.state = .pulse → (s.face f).supervisor.timer = .running ms →
    ∃ t : State, exec (.pulseTimeExpiry f) s = .next t ∧
      t = s.modFace f (fun c => { c with supervisor :=
        ⟨.recovery, .running s.settings.windowMs, (s.face f).supervisor.pulses⟩ }) ∧
      t.frst f = false ∧ t.withdrawn f = true ∧ t.engine = s.engine) ∧
  (∀ (s : State) (g : Segment), s.engine.segment = some g → g.pulsed = true → g.stage = .finished →
    s.evac.state ≠ .takeover → (s.face g.face).port.inProgress ≠ some .resetFace →
    ∃ t : State, exec .segmentCompletion s = .next t ∧
      (t.face g.face).queue.state = .halted ∧ (t.face g.face).queue.halt = some .withdrawn)

/-! ### Evacuation -/

/-- EVAC_LINE_CHANGE and LINE_DEBOUNCE_EXPIRY (R172, R174, R180, R181, R183): a change of the pin restarts the debounce timer once the
line is sampled; its expiry gives the source the pin's level, and what EC then does follows its state, the zone shown and whether
evacuation is wanted: in NORMAL an asserted source starts TAKEOVER; in TAKEOVER and SHOWING another zone is a redraw, at once or
pending; in SHOWING an end of both sources starts RELEASING. That the timer runs 20 ms after a fall and 200 ms after a rise, whatever
the source is, is deduced from R172 (log 18). -/
def Obligations.LineSourceFollowsThePin : Prop :=
  (∀ s : State, exec .evacLineChange s = .next { s with evac := { s.evac with
    lineLow := !s.evac.lineLow
    debounce := if s.loadEnded = true then .running (if s.evac.lineLow = true then 200 else 20) else s.evac.debounce } }) ∧
  (∀ (s : State) (ms : Nat) (settled : State), s.evac.debounce = .running ms →
    settled = { s with evac := { s.evac with debounce := .stopped, asserted := s.evac.lineLow } } →
    (s.evac.asserted = s.evac.lineLow → exec .lineDebounceExpiry s = .next settled) ∧
    (s.evac.asserted = false → s.evac.lineLow = true → s.evac.state = .normal →
      ∃ t : State, exec .lineDebounceExpiry s = .next t ∧ s.takenOver t ∧ t.evac.asserted = true ∧ t.evac.debounce = .stopped) ∧
    (s.evac.asserted ≠ s.evac.lineLow →
      exec .lineDebounceExpiry s = .next settled.lookSources ∧
      ∀ zone wanted, zone = s.evac.trunkZone.getD s.settings.lineZone → wanted = (s.evac.lineLow || s.evac.trunkZone.isSome) →
        settled.SourcesLooked settled.lookSources zone wanted) ∧
    (s.evac.state = .takeover → s.evac.drawing = none → exec .lineDebounceExpiry s = .next settled) ∧
    (s.evac.state = .releasing → exec .lineDebounceExpiry s = .next settled) ∧
    (s.evac.asserted = true → s.evac.lineLow = false → s.evac.trunkZone = none → s.evac.state = .showing →
      s.evac.drawing = none → exec .lineDebounceExpiry s = .next settled.startRelease))

/-- EC_GRANT (R109, R177 to R179): EC holds the engine, every slot is emptied without an event, the shown zone is drawn, and the view
of its plan is the work in hand on every enabled face in turn, with its palette given to its Scan-out. The view of a redraw,
at any moment, is the same without the emptied slots (R181). The plan's window and palette are its bytes of R201, and the marker is the
square from 16 before the window's centre to 15 after it, cut to the face (R178 step 4); its messages are those of R201, absent where
the length byte is 0. The zone shown is the trunk's, or else the line's (R171), and the message
is that of the lowest slot with one (R179). That on each face the map layer is written whole before the card layer is the model's
choice (log 35). -/
def Obligations.EcGrantStartsTheView : Prop :=
  (∀ (m : Mem) (l : Fin 4), planMessage m l =
    if m.num (60 + 61 * l.val) = 0 then none
    else some ((List.range (m.num (60 + 61 * l.val))).map (fun i => m.num16 (61 + 61 * l.val + 2 * i)))) ∧
  (∀ (f : Face) (layer : Layer) (m : Combine) (shape : Shape) (box : Rect), plotJob f layer m shape box =
    if box.w = 0 ∨ box.h = 0 then [] else [.plot ⟨f, layer, m, shape, box, 0⟩]) ∧
  (∀ m : Mem, planWindow m = ⟨m.num16 2, m.num16 4, m.num16 6, m.num16 8, m.num 10, m.num 11⟩) ∧
  (∀ (m : Mem) (i : Fin 16), (planPalette m)[i] = m.read (12 + 3 * i.val) ++ m.read (13 + 3 * i.val) ++ m.read (14 + 3 * i.val)) ∧
  (∀ (w : MapWindow) (box : Rect) (x y : Nat), box = markerRect w →
    (box.x ≤ x ∧ x < box.x + box.w ∧ box.y ≤ y ∧ y < box.y + box.h ↔
      x ≤ 1079 ∧ y ≤ 1919 ∧ w.cx ≤ x + 16 ∧ x ≤ w.cx + 15 ∧ w.cy ≤ y + 16 ∧ y ≤ w.cy + 15)) ∧
  ∀ (s : State) (plan : Option Mem) (view : Face → List Job), plan = s.evac.plans[s.shownZone] →
    (∀ f : Face, view f =
      [.plot ⟨f, .map, .replace, .solid 0, ⟨0, 0, 1080, 1920⟩, 0⟩, .plot ⟨f, .card, .replace, .solid 0, ⟨0, 0, 1080, 1920⟩, 0⟩] ++
      match plan with
      | none =>
        [.plot ⟨f, .map, .replace, .solid 1, ⟨0, 0, 1080, 1920⟩, 0⟩, .plot ⟨f, .card, .replace, .solid 0, ⟨0, 0, 1080, 1920⟩, 0⟩]
      | some m =>
        .plot ⟨f, .card, .replace, .solid 1, ⟨0, 0, 1080, 240⟩, 0⟩ :: messageLine m (firstMessage m) f
          ++ (match planExit m with
              | some n => if (s.entry n).state = .live then
                  routeJob f (planWindow m) s.settings.orientation[f] 3 8 (s.routeOf (s.entry n)) else []
              | none => [])
          ++ plotJob f .map .replace (.solid 2) (markerRect (planWindow m))) →
    s.shownZone = (match s.evac.trunkZone with
                   | some z => z
                   | none => s.settings.lineZone) ∧
    (∀ m l, firstMessage m = some l ↔ (planMessage m l).isSome = true ∧ ∀ j : Fin 4, j < l → planMessage m j = none) ∧
    (∀ claims, s.arbiter.holder = none → s.arbiter.decision = some ⟨.ec, claims⟩ →
      ∃ t : State, exec .ecGrant s = .next t ∧
        t = { s with
          arbiter := ⟨some .ec, s.arbiter.lastServed, none⟩, faces := t.faces
          engine := { s.engine with jobs := s.enabledFaces.flatMap view }
          evac := { s.evac with
            cutoff := .stopped, drawnZone := some s.shownZone, language := plan.bind firstMessage, redraw := false
            drawing := some .view, cycle := .stopped } } ∧
        ∀ f : Face, t.face f = { s.face f with
          cards := Vector.replicate 12 none, route := none
          palette := if s.enabled f = true then { (s.face f).palette with
              evacuation := (match plan with
                | some m => planPalette m
                | none => defaultPalette)
              source := .evacuation }
            else (s.face f).palette }) ∧
    (∀ t : State, t = s.startView →
      t = { s with
        faces := t.faces
        engine := { s.engine with jobs := s.enabledFaces.flatMap view }
        evac := { s.evac with
          drawnZone := some s.shownZone, language := plan.bind firstMessage, redraw := false, drawing := some .view
          cycle := .stopped } } ∧
      ∀ f : Face, t.face f = { s.face f with
        palette := if s.enabled f = true then { (s.face f).palette with
            evacuation := (match plan with
              | some m => planPalette m
              | none => defaultPalette)
            source := .evacuation }
          else (s.face f).palette })

/-- VIEW_DRAWING_END, BAND_DRAWING_END, CYCLE_TIMER_EXPIRY and BLANK_DRAWING_END (R180 to R183): the first view's end enters SHOWING
with EVAC_ON; a drawing's end begins RELEASING, redraws, or starts the cycle timer; an expiry draws the band in the next language,
or starts the timer again (log 22); the end of BLANK gives the faces back with EVAC_OFF and the engine to EA, or takes over again. The
start of RELEASING is the same from any state. What an expiry does with a plan that holds no message any more (log 22), and the order
of faces and layers in BLANK (log 35), are the model's choices. -/
def Obligations.EvacuationDrawingsEnd : Prop :=
  ∀ (s : State) (shown : State),
    shown = (if s.evac.state = .takeover then
        { s with faces := Vector.ofFn (fun f : Face =>
                   if s.enabled f = true then { s.face f with latch := (s.face f).latch ||| 0x200 } else s.face f)
                 evac := { s.evac with drawing := none, state := .showing } }
      else { s with evac := { s.evac with drawing := none } }) →
    s.startRelease = { s with
      engine := { s.engine with jobs := s.enabledFaces.flatMap (fun f =>
        [.plot ⟨f, .map, .replace, .solid 0, ⟨0, 0, 1080, 1920⟩, 0⟩,
         .plot ⟨f, .card, .replace, .solid 0, ⟨0, 0, 1080, 1920⟩, 0⟩]) }
      evac := { s.evac with state := .releasing, cycle := .stopped, redraw := false, drawing := some .blank } } ∧
    (∀ (c : Instr) (from' : State), s.arbiter.holder = some .ec → s.engine.jobs = [] →
      (c = .viewDrawingEnd ∧ s.evac.drawing = some .view ∧ from' = shown) ∨
      (c = .bandDrawingEnd ∧ s.evac.drawing = some .band ∧ from' = { s with evac := { s.evac with drawing := none } }) →
      (s.evacWanted = false → exec c s = .next { from' with
        engine := { s.engine with jobs := s.enabledFaces.flatMap (fun f =>
          [.plot ⟨f, .map, .replace, .solid 0, ⟨0, 0, 1080, 1920⟩, 0⟩,
           .plot ⟨f, .card, .replace, .solid 0, ⟨0, 0, 1080, 1920⟩, 0⟩]) }
        evac := { from'.evac with state := .releasing, cycle := .stopped, redraw := false, drawing := some .blank } }) ∧
      (s.evacWanted = true → s.evac.redraw = true → exec c s = .next from'.startView) ∧
      (s.evacWanted = true → s.evac.redraw = false → exec c s = .next { from' with
        evac := { from'.evac with cycle := .running s.settings.cycleMs } })) ∧
    (∀ ms, s.evac.state = .showing → s.evac.cycle = .running ms →
      (∀ (z : Fin 8) (m : Mem) (l k : Fin 4), s.evac.drawnZone = some z → s.evac.plans[z] = some m →
        s.evac.language = some l → k ≠ l → (planMessage m k).isSome = true →
        (∀ j : Fin 4, (j - (l + 1)).val < (k - (l + 1)).val → planMessage m j = none) →
        exec .cycleTimerExpiry s = .next { s with
          engine := { s.engine with jobs := s.enabledFaces.flatMap (fun f =>
            .plot ⟨f, .card, .replace, .solid 1, ⟨0, 0, 1080, 240⟩, 0⟩ :: messageLine m (some k) f) }
          evac := { s.evac with language := some k, drawing := some .band, cycle := .stopped } }) ∧
      (s.evac.language = none ∨
        (∃ l, s.evac.language = some l ∧ ∀ z m, s.evac.drawnZone = some z → s.evac.plans[z] = some m →
          ∀ j : Fin 4, j ≠ l → planMessage m j = none) →
        exec .cycleTimerExpiry s = .next { s with evac := { s.evac with cycle := .running s.settings.cycleMs } })) ∧
    (s.arbiter.holder = some .ec → s.evac.drawing = some .blank → s.engine.jobs = [] →
      ∃ t : State, exec .blankDrawingEnd s = .next t ∧
        t = { s with faces := t.faces, evac := t.evac, arbiter := ⟨none, s.arbiter.lastServed, t.grantDecision⟩ } ∧
        t.evac.drawnZone = none ∧ t.evac.language = none ∧ t.evac.drawing = none ∧
        t.evac.state = (if s.evacWanted = true then .takeover else .normal) ∧
        (s.evacWanted = true → t.evac.cutoff = .running 40) ∧
        ∀ f : Face, t.face f = { s.face f with
          palette := (t.face f).palette, latch := (t.face f).latch, queue := (t.face f).queue } ∧
          (s.enabled f = true → (t.face f).palette = { (s.face f).palette with source := .face } ∧
            (t.face f).latch = (s.face f).latch ||| 0x400) ∧
          (s.enabled f = false → (t.face f).palette = (s.face f).palette ∧ (t.face f).latch = (s.face f).latch) ∧
          (s.evacWanted = false → (t.face f).queue = (s.face f).queue))

/-! ### What every step keeps -/

/-- The engine has one holder, and the queues, the segment, the decision and the evacuation state agree with it (R86, R105 to R107,
R111, R180); the include stacks, the snapshots and the template uses agree with it too (R96, R101): every step keeps both. -/
def Obligations.EngineAndStacksSoundKept : Prop :=
  (∀ s t : State, s.EngineSound → step s = .next t → t.EngineSound) ∧
  (∀ s t : State, s.StacksSound → step s = .next t → t.StacksSound)

/-- A slot in DRAWING, CURRENT or DRAWN records its LIVE entry's present generation (R150): every step keeps it. -/
def Obligations.SlotsSoundKept : Prop :=
  ∀ s t : State, s.SlotsSound → step s = .next t → t.SlotsSound

/-- Every store keeps its canonical form, so that equal contents are equal data: every step keeps it. The form, in which no address
lists what an unlisted one reads as, is the model's own representation (log 23); no rule of the spec speaks of it. -/
def Obligations.StoresCanonicalKept : Prop :=
  ∀ s t : State, s.storesCanonical → step s = .next t → t.storesCanonical

/-- Every route block is in exactly one of the free set, one entry's chain and the staging chain (R12), together with the soundness of
the commit in flight (State.CommitSound): every step keeps both. -/
def Obligations.RoutesSoundKept : Prop :=
  ∀ s t : State, s.RoutesSound → step s = .next t → t.RoutesSound

/-- The lists hold every LIVE entry once in the order of R50, but for the entry whose reposition is in flight (R48, R51): every step
keeps it. -/
def Obligations.ListsSoundKept : Prop :=
  ∀ s t : State, s.ListsSound → step s = .next t → t.ListsSound

/-- The state right after reset meets every invariant, and so does a full reset from any state. -/
def Obligations.ResetIsSound : Prop :=
  ∀ s t : State, s = State.reset ∨ exec .fullReset t = .next s →
    s.StacksSound ∧ s.SlotsSound ∧ s.storesCanonical ∧ s.RoutesSound ∧ s.ListsSound
end

