-- ==== Sys2Proof/Laws/Operands.lean ====
section
/-! SUPPORT. What each field reader of a cell or a request answers, and the check values as the serial registers of R32 and
R188. -/

namespace Sys2Proof.Machine

/-! ### Fields -/

theorem within_eq_some (lo hi k v : Nat) : within lo hi k = some v ↔ k = v ∧ lo ≤ v ∧ v ≤ hi := by
  unfold within
  split <;> simp <;> omega

theorem finOf_eq_some (n k : Nat) (v : Fin n) : finOf n k = some v ↔ k = v.val := by
  unfold finOf
  have := v.isLt
  split
  · simp [Fin.ext_iff]
  · simp; omega

theorem colourOf_eq_some (k : Nat) (v : Colour) : colourOf k = some v ↔ k = v.toNat := by
  unfold colourOf
  have := v.isLt
  split
  · constructor
    · intro h; cases h; simp; omega
    · rintro rfl; simp
  · simp; omega

/-- The rectangle of a cell is read exactly when each of its four fields is in its range (R84). -/
theorem cellRect_eq_some (c : Bytes) (r : Rect) : cellRect c = some r ↔
    within 0 1079 (num16 c 6) = some r.x ∧ within 0 1919 (num16 c 8) = some r.y ∧
    within 1 1080 (num16 c 10) = some r.w ∧ within 1 1920 (num16 c 12) = some r.h := by
  cases r
  unfold cellRect
  cases within 0 1079 (num16 c 6) <;> cases within 0 1919 (num16 c 8) <;> cases within 1 1080 (num16 c 10) <;>
    cases within 1 1920 (num16 c 12) <;> simp

/-! ### Check values -/

theorem xor_right_comm {w : Nat} (a b c : BitVec w) : (a ^^^ b) ^^^ c = (a ^^^ c) ^^^ b := by
  rw [BitVec.xor_assoc, BitVec.xor_comm b c, ← BitVec.xor_assoc]

/-- One shift of the CRC-16 register with the bits still to come exclusive-ored into it is one shift of the serial register. -/
theorem crc16Bit_serial (r x : Word16) (h : Bool) (hx : x.getLsbD 15 = h) :
    crc16Bit (r ^^^ x) = ((r <<< 1) ^^^ (if r.getLsbD 15 = h then (0 : Word16) else 0x1021)) ^^^ (x <<< 1) := by
  have hm : (r ^^^ x).msb = (r.getLsbD 15 != h) := by
    rw [BitVec.msb_eq_getLsbD_last, BitVec.getLsbD_xor, hx]
  have hs : (r ^^^ x) <<< 1 = (r <<< 1) ^^^ (x <<< 1) := BitVec.shiftLeft_xor_distrib r x 1
  unfold crc16Bit
  rw [hm, hs]
  by_cases e : r.getLsbD 15 = h
  · rw [if_neg (by simp [BitVec.getLsbD] at e ⊢; exact e), if_pos e]
    simp
  · rw [if_pos (by simpa using e), if_neg e]
    exact xor_right_comm _ _ _

/-- One shift of the CRC-8 register with the bits still to come exclusive-ored into it is one shift of the serial register. -/
theorem crc8Bit_serial (r x : Byte) (h : Bool) (hx : x.getLsbD 7 = h) :
    crc8Bit (r ^^^ x) = ((r <<< 1) ^^^ (if r.getLsbD 7 = h then (0 : Byte) else 0x07)) ^^^ (x <<< 1) := by
  have hm : (r ^^^ x).msb = (r.getLsbD 7 != h) := by
    rw [BitVec.msb_eq_getLsbD_last, BitVec.getLsbD_xor, hx]
  have hs : (r ^^^ x) <<< 1 = (r <<< 1) ^^^ (x <<< 1) := BitVec.shiftLeft_xor_distrib r x 1
  unfold crc8Bit
  rw [hm, hs]
  by_cases e : r.getLsbD 7 = h
  · rw [if_neg (by simp [BitVec.getLsbD] at e ⊢; exact e), if_pos e]
    simp
  · rw [if_pos (by simpa using e), if_neg e]
    exact xor_right_comm _ _ _

/-- A byte taken into the CRC-16 bit by bit, most significant bit first (R32). -/
theorem crc16Byte_serial (b : Byte) (r : Nat → Word16)
    (h : ∀ i, i < 8 → r (i + 1) = (r i <<< 1) ^^^ (if (r i).getLsbD 15 = b.getLsbD (7 - i) then 0 else 0x1021)) :
    crc16Byte (r 0) b = r 8 := by
  have key : ∀ k, k ≤ 8 → Nat.repeat crc16Bit k (r 0 ^^^ ((b.setWidth 16) <<< 8)) = r k ^^^ ((b.setWidth 16) <<< (8 + k)) := by
    intro k
    induction k with
    | zero => intro _; rfl
    | succ k ih =>
      intro hk
      show crc16Bit (Nat.repeat crc16Bit k _) = _
      rw [ih (by omega), crc16Bit_serial _ _ (b.getLsbD (7 - k)) ?_, h k (by omega)]
      · rw [← BitVec.shiftLeft_add]; rfl
      · simp only [BitVec.getLsbD_shiftLeft, BitVec.getLsbD_setWidth]
        have e1 : 15 - (8 + k) = 7 - k := by omega
        have e2 : ¬ 15 < 8 + k := by omega
        have e3 : 7 - k < 16 := by omega
        simp [e1, e2, e3]
  have := key 8 (le_refl 8)
  unfold crc16Byte
  rw [this]
  have z : (b.setWidth 16) <<< (8 + 8) = (0 : Word16) := by simp
  rw [z]; simp

/-- A byte taken into the CRC-8 bit by bit, most significant bit first (R188). -/
theorem crc8Byte_serial (b : Byte) (r : Nat → Byte)
    (h : ∀ i, i < 8 → r (i + 1) = (r i <<< 1) ^^^ (if (r i).getLsbD 7 = b.getLsbD (7 - i) then 0 else 0x07)) :
    crc8Byte (r 0) b = r 8 := by
  have key : ∀ k, k ≤ 8 → Nat.repeat crc8Bit k (r 0 ^^^ b) = r k ^^^ (b <<< k) := by
    intro k
    induction k with
    | zero => intro _; simp [Nat.repeat]
    | succ k ih =>
      intro hk
      show crc8Bit (Nat.repeat crc8Bit k _) = _
      rw [ih (by omega), crc8Bit_serial _ _ (b.getLsbD (7 - k)) ?_, h k (by omega)]
      · rw [← BitVec.shiftLeft_add]
      · have e2 : ¬ 7 < k := by omega
        have e3 : 7 - k < 8 := by omega
        simp [e2, BitVec.getLsbD_eq_getElem e3]
  have := key 8 (le_refl 8)
  unfold crc8Byte
  rw [this]
  have z : b <<< 8 = (0 : Byte) := by simp
  rw [z]; simp

end Sys2Proof.Machine
end

