-- ==== Sys2Proof/Laws/Sparse.lean ====
section
/-! SUPPORT. The laws of the sparse stores: read after write, and the canonical form kept by every operation. -/

namespace Sys2Proof.Machine

variable {β : Type}

@[simp] theorem Sparse.read_nil (d : β) (a : Nat) : Sparse.read d [] a = d := rfl

theorem Sparse.read_cons (d : β) (k : Nat) (v : β) (m : Sparse β) (a : Nat) :
    Sparse.read d ((k, v) :: m) a = if k = a then v else Sparse.read d m a := rfl

theorem Sparse.read_put (d : β) (m : Sparse β) (a b : Nat) (v : β) :
    Sparse.read d (Sparse.put m a v) b = if a = b then v else Sparse.read d m b := by
  induction m with
  | nil => simp [Sparse.put, Sparse.read_cons]
  | cons c m ih =>
    obtain ⟨k, w⟩ := c
    simp only [Sparse.put]
    split
    · simp [Sparse.read_cons]
    · split
      · subst_vars
        by_cases h : k = b <;> simp [Sparse.read_cons, h]
      · simp only [Sparse.read_cons, ih]
        split_ifs <;> simp_all

theorem Sparse.read_filter_ne (d : β) (m : Sparse β) (a b : Nat) :
    Sparse.read d (m.filter (fun c => c.1 != a)) b = if a = b then d else Sparse.read d m b := by
  induction m with
  | nil => simp
  | cons c m ih =>
    obtain ⟨k, w⟩ := c
    by_cases h : k = a
    · subst h
      rw [List.filter_cons_of_neg (by simp), ih, Sparse.read_cons]
      split_ifs <;> rfl
    · rw [List.filter_cons_of_pos (by simpa using h), Sparse.read_cons, Sparse.read_cons, ih]
      split_ifs <;> simp_all

/-- A read after a write: the value written at its address, the old value at every other. -/
theorem Sparse.read_write [DecidableEq β] (d : β) (m : Sparse β) (a b : Nat) (v : β) :
    Sparse.read d (Sparse.write d m a v) b = if a = b then v else Sparse.read d m b := by
  unfold Sparse.write
  split
  · next h => rw [Sparse.read_filter_ne, h]
  · exact Sparse.read_put d m a b v

@[simp] theorem Sparse.read_write_same [DecidableEq β] (d : β) (m : Sparse β) (a : Nat) (v : β) :
    Sparse.read d (Sparse.write d m a v) a = v := by simp [Sparse.read_write]

theorem Sparse.read_write_ne [DecidableEq β] (d : β) (m : Sparse β) {a b : Nat} (h : a ≠ b) (v : β) :
    Sparse.read d (Sparse.write d m a v) b = Sparse.read d m b := by simp [Sparse.read_write, h]

/-! ### The canonical form -/

/-- Strictly rising addresses, as a pairwise statement. -/
theorem Sparse.rising_iff (m : Sparse β) : Sparse.rising m = true ↔ m.Pairwise (fun c e => c.1 < e.1) := by
  induction m with
  | nil => simp [Sparse.rising]
  | cons c m ih =>
    cases m with
    | nil => simp [Sparse.rising]
    | cons e m =>
      simp only [Sparse.rising, Bool.and_eq_true, decide_eq_true_eq, ih, List.pairwise_cons]
      constructor
      · rintro ⟨h, h1, h2⟩
        refine ⟨fun x hx => ?_, h1, h2⟩
        rcases List.mem_cons.mp hx with rfl | hx
        · exact h
        · exact h.trans (h1 x hx)
      · rintro ⟨h, h1, h2⟩
        exact ⟨h e (by simp), h1, h2⟩

theorem Sparse.mem_put (m : Sparse β) (a : Nat) (v : β) (c : Nat × β) (h : c ∈ Sparse.put m a v) : c = (a, v) ∨ c ∈ m := by
  induction m with
  | nil => simpa [Sparse.put] using h
  | cons e m ih =>
    obtain ⟨k, w⟩ := e
    simp only [Sparse.put] at h
    split at h
    · simpa using h
    · split at h
      · simp_all
        tauto
      · simp only [List.mem_cons] at h ⊢
        rcases h with h | h
        · exact .inr (.inl h)
        · rcases ih h with h | h
          · exact .inl h
          · exact .inr (.inr h)

theorem Sparse.put_pairwise (m : Sparse β) (a : Nat) (v : β) (h : m.Pairwise (fun c e => c.1 < e.1)) :
    (Sparse.put m a v).Pairwise (fun c e => c.1 < e.1) := by
  induction m with
  | nil => simp [Sparse.put]
  | cons e m ih =>
    obtain ⟨k, w⟩ := e
    rw [List.pairwise_cons] at h
    simp only [Sparse.put]
    split
    · next hlt =>
      refine List.pairwise_cons.mpr ⟨fun x hx => ?_, List.pairwise_cons.mpr h⟩
      rcases List.mem_cons.mp hx with rfl | hx
      · exact hlt
      · exact hlt.trans (h.1 x hx)
    · split
      · exact List.pairwise_cons.mpr h
      · next h1 h2 =>
        refine List.pairwise_cons.mpr ⟨fun x hx => ?_, ih h.2⟩
        rcases Sparse.mem_put m a v x hx with rfl | hx
        · show k < a
          omega
        · exact h.1 x hx

/-- A write keeps the canonical form. -/
theorem Sparse.wf_write [DecidableEq β] (d : β) (m : Sparse β) (a : Nat) (v : β) (h : Sparse.wf d m = true) :
    Sparse.wf d (Sparse.write d m a v) = true := by
  simp only [Sparse.wf, Bool.and_eq_true, Sparse.rising_iff, List.all_eq_true, bne_iff_ne] at h ⊢
  unfold Sparse.write
  split
  · exact ⟨h.1.filter _, fun c hc => h.2 c (List.mem_filter.mp hc).1⟩
  · next hv =>
    refine ⟨Sparse.put_pairwise m a v h.1, fun c hc => ?_⟩
    rcases Sparse.mem_put m a v c hc with rfl | hc
    · exact hv
    · exact h.2 c hc

/-- An address at or below every listed one, or not above it, reads the default. -/
theorem Sparse.read_below (d : β) (m : Sparse β) (k : Nat) (hk : ∀ c ∈ m, k < c.1) (a : Nat) (ha : a ≤ k) :
    Sparse.read d m a = d := by
  induction m with
  | nil => rfl
  | cons c m ih =>
    have := hk c (by simp)
    rw [Sparse.read_cons, if_neg (by omega)]
    exact ih (fun c hc => hk c (by simp [hc]))

/-- Canonical stores that read alike are equal. -/
theorem Sparse.eq_of_read [DecidableEq β] (d : β) (m m' : Sparse β) (h : Sparse.wf d m = true) (h' : Sparse.wf d m' = true)
    (hr : ∀ a, Sparse.read d m a = Sparse.read d m' a) : m = m' := by
  simp only [Sparse.wf, Bool.and_eq_true, Sparse.rising_iff, List.all_eq_true, bne_iff_ne] at h h'
  obtain ⟨h1, h2⟩ := h
  obtain ⟨h1', h2'⟩ := h'
  induction m generalizing m' with
  | nil =>
    cases m' with
    | nil => rfl
    | cons c m' =>
      have e := hr c.1
      rw [Sparse.read_nil, show c = (c.1, c.2) from rfl, Sparse.read_cons, if_pos rfl] at e
      exact absurd e.symm (h2' c (List.mem_cons_self ..))
  | cons c m ih =>
    obtain ⟨k, v⟩ := c
    obtain ⟨hk, h1⟩ := List.pairwise_cons.mp h1
    cases m' with
    | nil =>
      have e := hr k
      rw [Sparse.read_nil, Sparse.read_cons, if_pos rfl] at e
      exact absurd e (h2 (k, v) (List.mem_cons_self ..))
    | cons c m' =>
      obtain ⟨j, w⟩ := c
      obtain ⟨hj, t1'⟩ := List.pairwise_cons.mp h1'
      have key : k = j := by
        rcases lt_trichotomy k j with hlt | heq | hgt
        · have e := hr k
          rw [Sparse.read_cons, if_pos rfl, Sparse.read_cons, if_neg (by omega), Sparse.read_below d m' j hj k (by omega)] at e
          exact absurd e (h2 (k, v) (List.mem_cons_self ..))
        · exact heq
        · have e := hr j
          rw [Sparse.read_cons, if_neg (by omega), Sparse.read_cons, if_pos rfl, Sparse.read_below d m k hk j (by omega)] at e
          exact absurd e.symm (h2' (j, w) (List.mem_cons_self ..))
      subst key
      have hv : v = w := by
        have e := hr k
        rwa [Sparse.read_cons, if_pos rfl, Sparse.read_cons, if_pos rfl] at e
      have rest : m = m' := by
        refine ih m' (fun a => ?_) h1 (fun c hc => h2 c (List.mem_cons_of_mem _ hc)) t1'
          (fun c hc => h2' c (List.mem_cons_of_mem _ hc))
        by_cases ha : k = a
        · subst ha
          rw [Sparse.read_below d m k hk k le_rfl, Sparse.read_below d m' k hj k le_rfl]
        · have e := hr a
          rwa [Sparse.read_cons, if_neg ha, Sparse.read_cons, if_neg ha] at e
      rw [hv, rest]

/-! ### Byte stores -/

@[simp] theorem Mem.read_nil (a : Nat) : Mem.read [] a = 0 := rfl

theorem Mem.read_write (m : Mem) (a b : Nat) (v : Byte) : (m.write a v).read b = if a = b then v else m.read b :=
  Sparse.read_write 0 m a b v

theorem Memory.wf_write (m : Mem) (a : Nat) (v : Byte) (h : Memory.wf m = true) : Memory.wf (m.write a v) = true :=
  Sparse.wf_write 0 m a v h

theorem Memory.wf_writeBytes (bs : Bytes) (m : Mem) (a : Nat) (h : Memory.wf m = true) :
    Memory.wf (m.writeBytes a bs) = true := by
  induction bs generalizing m a with
  | nil => exact h
  | cons b bs ih => exact ih _ _ (Memory.wf_write m a b h)

theorem Memory.wf_writeBit (m : Mem) (a i : Nat) (v : Bool) (h : Memory.wf m = true) :
    Memory.wf (m.writeBit a i v) = true := Memory.wf_write m a _ h

/-- Bytes written from an address onward leave every other address. -/
theorem Mem.read_writeBytes_outside (bs : Bytes) (m : Mem) (a b : Nat) (h : b < a ∨ a + bs.length ≤ b) :
    (m.writeBytes a bs).read b = m.read b := by
  induction bs generalizing m a with
  | nil => rfl
  | cons v bs ih =>
    simp only [List.length_cons] at h
    rw [Mem.writeBytes, ih _ _ (by omega), Mem.read_write, if_neg (by omega)]

/-- Bytes written from an address onward stand there in order. -/
theorem Mem.read_writeBytes_inside (bs : Bytes) (m : Mem) (a i : Nat) (h : i < bs.length) :
    (m.writeBytes a bs).read (a + i) = bs[i] := by
  induction bs generalizing m a i with
  | nil => simp at h
  | cons v bs ih =>
    rw [Mem.writeBytes]
    cases i with
    | zero => rw [Mem.read_writeBytes_outside _ _ _ _ (by omega)]; simp [Mem.read_write]
    | succ i =>
      rw [show a + (i + 1) = a + 1 + i by omega, ih _ _ _ (by simpa using h)]
      rfl

theorem vmap_getElem {α γ : Type} {n : Nat} (g : α → γ) (v : Vector α n) (i : Fin n) : (vmap g v)[i] = g v[i] := by
  simp [vmap]

end Sys2Proof.Machine
end

