-- ==== Sys2Proof/Laws/State.lean ====
section
/-! SUPPORT. One lemma per field per update of the state. -/

namespace Sys2Proof.Machine

/-! ### One face -/

@[simp] theorem modFace_face_same (s : State) (f : Face) (g : FaceContext → FaceContext) :
    (s.modFace f g).face f = g (s.face f) := by simp [State.modFace, State.face]

theorem modFace_face_ne (s : State) {f h : Face} (hne : f ≠ h) (g : FaceContext → FaceContext) :
    (s.modFace f g).face h = s.face h := by
  have : f.val ≠ h.val := fun e => hne (Fin.ext e)
  simp [State.modFace, State.face, this]

theorem modFace_face (s : State) (f h : Face) (g : FaceContext → FaceContext) :
    (s.modFace f g).face h = if f = h then g (s.face h) else s.face h := by
  by_cases e : f = h
  · subst e; simp
  · simp [modFace_face_ne s e, e]

@[simp] theorem modFace_pending (s : State) (f : Face) (g) : (s.modFace f g).pending = s.pending := rfl
@[simp] theorem modFace_loader (s : State) (f : Face) (g) : (s.modFace f g).loader = s.loader := rfl
@[simp] theorem modFace_settings (s : State) (f : Face) (g) : (s.modFace f g).settings = s.settings := rfl
@[simp] theorem modFace_directory (s : State) (f : Face) (g) : (s.modFace f g).directory = s.directory := rfl
@[simp] theorem modFace_routes (s : State) (f : Face) (g) : (s.modFace f g).routes = s.routes := rfl
@[simp] theorem modFace_glyphs (s : State) (f : Face) (g) : (s.modFace f g).glyphs = s.glyphs := rfl
@[simp] theorem modFace_languages (s : State) (f : Face) (g) : (s.modFace f g).languages = s.languages := rfl
@[simp] theorem modFace_templates (s : State) (f : Face) (g) : (s.modFace f g).templates = s.templates := rfl
@[simp] theorem modFace_update (s : State) (f : Face) (g) : (s.modFace f g).update = s.update := rfl
@[simp] theorem modFace_orders (s : State) (f : Face) (g) : (s.modFace f g).orders = s.orders := rfl
@[simp] theorem modFace_arbiter (s : State) (f : Face) (g) : (s.modFace f g).arbiter = s.arbiter := rfl
@[simp] theorem modFace_engine (s : State) (f : Face) (g) : (s.modFace f g).engine = s.engine := rfl
@[simp] theorem modFace_planes (s : State) (f : Face) (g) : (s.modFace f g).planes = s.planes := rfl
@[simp] theorem modFace_evac (s : State) (f : Face) (g) : (s.modFace f g).evac = s.evac := rfl
@[simp] theorem modFace_trunk (s : State) (f : Face) (g) : (s.modFace f g).trunk = s.trunk := rfl
@[simp] theorem modFace_entry (s : State) (f : Face) (g) (n : Nat) : (s.modFace f g).entry n = s.entry n := rfl
@[simp] theorem modFace_template (s : State) (f : Face) (g) (t : Nat) : (s.modFace f g).template t = s.template t := rfl
@[simp] theorem modFace_enabled (s : State) (f h : Face) (g) : (s.modFace f g).enabled h = s.enabled h := rfl
@[simp] theorem modFace_loadEnded (s : State) (f : Face) (g) : (s.modFace f g).loadEnded = s.loadEnded := rfl

/-- Two changes of one face are one change. -/
theorem modFace_modFace (s : State) (f : Face) (g h : FaceContext → FaceContext) :
    (s.modFace f g).modFace f h = s.modFace f (fun c => h (g c)) := by
  simp [State.modFace]

/-! ### Every face -/

@[simp] theorem mapFaces_face (s : State) (g : Face → FaceContext → FaceContext) (f : Face) :
    (s.mapFaces g).face f = g f (s.face f) := by simp [State.mapFaces, State.face]

@[simp] theorem mapFaces_pending (s : State) (g) : (s.mapFaces g).pending = s.pending := rfl
@[simp] theorem mapFaces_loader (s : State) (g) : (s.mapFaces g).loader = s.loader := rfl
@[simp] theorem mapFaces_settings (s : State) (g) : (s.mapFaces g).settings = s.settings := rfl
@[simp] theorem mapFaces_directory (s : State) (g) : (s.mapFaces g).directory = s.directory := rfl
@[simp] theorem mapFaces_routes (s : State) (g) : (s.mapFaces g).routes = s.routes := rfl
@[simp] theorem mapFaces_glyphs (s : State) (g) : (s.mapFaces g).glyphs = s.glyphs := rfl
@[simp] theorem mapFaces_languages (s : State) (g) : (s.mapFaces g).languages = s.languages := rfl
@[simp] theorem mapFaces_templates (s : State) (g) : (s.mapFaces g).templates = s.templates := rfl
@[simp] theorem mapFaces_update (s : State) (g) : (s.mapFaces g).update = s.update := rfl
@[simp] theorem mapFaces_orders (s : State) (g) : (s.mapFaces g).orders = s.orders := rfl
@[simp] theorem mapFaces_arbiter (s : State) (g) : (s.mapFaces g).arbiter = s.arbiter := rfl
@[simp] theorem mapFaces_engine (s : State) (g) : (s.mapFaces g).engine = s.engine := rfl
@[simp] theorem mapFaces_planes (s : State) (g) : (s.mapFaces g).planes = s.planes := rfl
@[simp] theorem mapFaces_evac (s : State) (g) : (s.mapFaces g).evac = s.evac := rfl
@[simp] theorem mapFaces_trunk (s : State) (g) : (s.mapFaces g).trunk = s.trunk := rfl
@[simp] theorem mapFaces_entry (s : State) (g) (n : Nat) : (s.mapFaces g).entry n = s.entry n := rfl
@[simp] theorem mapFaces_template (s : State) (g) (t : Nat) : (s.mapFaces g).template t = s.template t := rfl
@[simp] theorem mapFaces_enabled (s : State) (h : Face) (g) : (s.mapFaces g).enabled h = s.enabled h := rfl

/-! ### The blocks -/

@[simp] theorem setDecision_face (s : State) (d) (f : Face) : (s.setDecision d).face f = s.face f := rfl
@[simp] theorem setDecision_holder (s : State) (d) : (s.setDecision d).arbiter.holder = s.arbiter.holder := rfl
@[simp] theorem release_face (s : State) (f : Face) : s.release.face f = s.face f := rfl
@[simp] theorem release_holder (s : State) : s.release.arbiter.holder = none := rfl
@[simp] theorem grantTo_face (s : State) (h : Claimant) (f : Face) : (s.grantTo h).face f = s.face f := rfl
@[simp] theorem grantTo_holder (s : State) (h : Claimant) : (s.grantTo h).arbiter.holder = some h := rfl
@[simp] theorem modEvac_face (s : State) (g) (f : Face) : (s.modEvac g).face f = s.face f := rfl
@[simp] theorem modEvac_evac (s : State) (g) : (s.modEvac g).evac = g s.evac := rfl
@[simp] theorem modEvac_arbiter (s : State) (g) : (s.modEvac g).arbiter = s.arbiter := rfl
@[simp] theorem modUpdate_face (s : State) (g) (f : Face) : (s.modUpdate g).face f = s.face f := rfl
@[simp] theorem modUpdate_update (s : State) (g) : (s.modUpdate g).update = g s.update := rfl
@[simp] theorem modUpdate_arbiter (s : State) (g) : (s.modUpdate g).arbiter = s.arbiter := rfl
@[simp] theorem modTrunk_face (s : State) (g) (f : Face) : (s.modTrunk g).face f = s.face f := rfl
@[simp] theorem modTrunk_trunk (s : State) (g) : (s.modTrunk g).trunk = g s.trunk := rfl
@[simp] theorem setJobs_face (s : State) (jobs) (f : Face) : (s.setJobs jobs).face f = s.face f := rfl
@[simp] theorem setJobs_jobs (s : State) (jobs) : (s.setJobs jobs).engine.jobs = jobs := rfl
@[simp] theorem setJobs_segment (s : State) (jobs) : (s.setJobs jobs).engine.segment = s.engine.segment := rfl
@[simp] theorem modSegment_face (s : State) (g) (f : Face) : (s.modSegment g).face f = s.face f := rfl
@[simp] theorem modSegment_segment (s : State) (g) : (s.modSegment g).engine.segment = s.engine.segment.map g := rfl
@[simp] theorem setTemplate_face (s : State) (t v) (f : Face) : (s.setTemplate t v).face f = s.face f := rfl
@[simp] theorem setEntry_face (s : State) (n e) (f : Face) : (s.setEntry n e).face f = s.face f := rfl

/-- The table after an entry is replaced. -/
theorem setEntry_entry (s : State) (n k : Nat) (e : Entry) : (s.setEntry n e).entry k = if n = k then e else s.entry k :=
  Sparse.read_write Entry.free s.directory n k e

/-- The store after a template is replaced. -/
theorem setTemplate_template (s : State) (t k : Nat) (v : Template) :
    (s.setTemplate t v).template k = if t = k then v else s.template k :=
  Sparse.read_write Template.empty s.templates.table t k v

/-- The store after a glyph page is replaced. -/
theorem setGlyphPage_glyphPage (s : State) (p k : Nat) (v : Option Mem) :
    (s.setGlyphPage p v).glyphPage k = if p = k then v else s.glyphPage k :=
  Sparse.read_write none s.glyphs.pages p k v

end Sys2Proof.Machine
end

