-- ==== Sys2Proof/Laws/Ops.lean ====
section
/-! SUPPORT. One lemma per shared operation that says what it can do, so that a proof cites it instead of unfolding it. -/

namespace Sys2Proof.Machine

/-! ### Operations that change faces alone -/

/-- Everything but the face contexts is the same. -/
def State.SameOutsideFaces (s t : State) : Prop := t = { s with faces := t.faces }

theorem State.SameOutsideFaces.refl (s : State) : s.SameOutsideFaces s := rfl

theorem State.SameOutsideFaces.trans {s t u : State} (h : s.SameOutsideFaces t) (k : t.SameOutsideFaces u) :
    s.SameOutsideFaces u := by
  unfold State.SameOutsideFaces at *
  rw [k, h]

theorem modFace_outside (s : State) (f : Face) (g) : s.SameOutsideFaces (s.modFace f g) := rfl

theorem mapFaces_outside (s : State) (g) : s.SameOutsideFaces (s.mapFaces g) := rfl

theorem raise_outside (s : State) (f : Face) (e : Event) : s.SameOutsideFaces (s.raise f e) := by
  unfold State.raise; split <;> rfl

theorem raiseIf_outside (s : State) (b : Bool) (f : Face) (e : Event) : s.SameOutsideFaces (s.raiseIf b f e) := by
  unfold State.raiseIf; split
  · exact raise_outside s f e
  · rfl

theorem raiseAll_outside (s : State) (e : Event) : s.SameOutsideFaces (s.raiseAll e) := rfl

theorem fillReply_outside (s : State) (f : Face) (c r x) : s.SameOutsideFaces (s.fillReply f c r x) :=
  (modFace_outside s f _).trans (raise_outside _ f _)

theorem answer_outside (s : State) (f : Face) (c r x) : s.SameOutsideFaces (s.answer f c r x) :=
  (modFace_outside s f _).trans (fillReply_outside _ f c r x)

theorem hold_outside (s : State) (f : Face) (h) : s.SameOutsideFaces (s.hold f h) := rfl

theorem applyReset_outside (s : State) (f : Face) : s.SameOutsideFaces (s.applyReset f) :=
  (modFace_outside s f _).trans (answer_outside _ f _ _ _)

theorem applyHeldReset_outside (s : State) (f : Face) : s.SameOutsideFaces (s.applyHeldReset f) := by
  unfold State.applyHeldReset; split
  · exact applyReset_outside s f
  · rfl

theorem answerRequest_outside (s : State) (f : Face) (h : HeldRequest) : s.SameOutsideFaces (s.answerRequest f h) := by
  cases h
  case resetFace => exact applyReset_outside s f
  all_goals exact answer_outside s f _ _ _

theorem answerAllHeld_outside (s : State) (w) : s.SameOutsideFaces (s.answerAllHeld w) := by
  have one : ∀ (t : State) (f : Face), t.SameOutsideFaces (State.answerHeld w t f) := by
    intro t f
    unfold State.answerHeld
    split
    · split
      · exact answerRequest_outside t f _
      · rfl
    · rfl
  unfold State.answerAllHeld
  simp only [List.foldl_cons, List.foldl_nil]
  exact (((one s 0).trans (one _ 1)).trans (one _ 2)).trans (one _ 3)

theorem queueEnd_outside (s : State) (f : Face) (i : Fin 16) (e : SegmentEnd) : s.SameOutsideFaces (s.queueEnd f i e) :=
  ((raiseIf_outside s _ f _).trans (modFace_outside _ f _)).trans (raiseIf_outside _ _ f _)

theorem waitFrameDone_outside (s : State) (f : Face) : s.SameOutsideFaces (s.waitFrameDone f) := by
  unfold State.waitFrameDone
  dsimp only
  split
  · exact ((raiseIf_outside s _ f _).trans (modFace_outside _ f _)).trans (raiseIf_outside _ _ f _)
  · rfl

/-! ### The faces an operation on one face leaves -/

theorem raise_face_ne (s : State) {f h : Face} (hne : f ≠ h) (e : Event) : (s.raise f e).face h = s.face h := by
  unfold State.raise; split
  · exact modFace_face_ne s hne _
  · rfl

/-- What a raised event leaves on its face: the latch alone may differ (R158). -/
theorem raise_face (s : State) (f : Face) (e : Event) :
    (s.raise f e).face f = if s.enabled f then (s.face f).latching e else s.face f := by
  unfold State.raise; split <;> simp

theorem fillReply_face_ne (s : State) {f h : Face} (hne : f ≠ h) (c r x) : (s.fillReply f c r x).face h = s.face h := by
  unfold State.fillReply
  rw [raise_face_ne _ hne, modFace_face_ne _ hne]

theorem answer_face_ne (s : State) {f h : Face} (hne : f ≠ h) (c r x) : (s.answer f c r x).face h = s.face h := by
  unfold State.answer
  rw [fillReply_face_ne _ hne, modFace_face_ne _ hne]

theorem applyReset_face_ne (s : State) {f h : Face} (hne : f ≠ h) : (s.applyReset f).face h = s.face h := by
  unfold State.applyReset
  rw [answer_face_ne _ hne, modFace_face_ne _ hne]

/-! ### The arbiter -/

/-- EA's look at the claims changes the recorded decision alone. -/
theorem arbitrate_eq (s : State) : s.arbitrate = s.setDecision s.arbitrate.arbiter.decision := by
  unfold State.arbitrate
  split
  · rfl
  · split
    · rfl
    · split <;> rfl

@[simp] theorem arbitrate_holder (s : State) : s.arbitrate.arbiter.holder = s.arbiter.holder := by
  rw [arbitrate_eq]; rfl

@[simp] theorem arbitrate_face (s : State) (f : Face) : s.arbitrate.face f = s.face f := by
  rw [arbitrate_eq]; rfl

theorem chooseFace_mem (s : State) (claims : List Face) (f : Face) (h : s.chooseFace claims = some f) : f ∈ claims := by
  have := List.find?_some h
  simp_all

/-- A decision of R107 names a claimant that claims. -/
theorem grantDecision_claims (s : State) (d : Decision) (h : s.grantDecision = some d) : s.stillClaims d = true := by
  unfold State.grantDecision at h
  split at h
  · next hp => cases h; exact hp
  · split at h
    · next he => cases h; exact he
    · split at h
      · cases h
      · split at h
        · next f hf =>
          cases h
          have := chooseFace_mem s _ f hf
          simpa [State.stillClaims, State.claims] using this
        · cases h

/-- After EA's look, a recorded decision has no holder beside it and its claim is there (R107). -/
theorem arbitrate_decision (s : State) (d : Decision) (h : s.arbitrate.arbiter.decision = some d) :
    s.arbiter.holder = none ∧ s.stillClaims d = true := by
  unfold State.arbitrate at h
  split at h
  · cases h
  · next hn =>
    refine ⟨hn, ?_⟩
    split at h
    · exact grantDecision_claims s d h
    · split at h
      · simp_all
      · exact grantDecision_claims s d h

/-! ### Template uses -/

theorem useTemplate_template (s : State) (t k : Nat) (g : Nat → Nat) :
    (s.useTemplate t g).template k = if t = k then { s.template k with use := g (s.template k).use } else s.template k := by
  unfold State.useTemplate
  rw [setTemplate_template]
  split_ifs with h
  · subst h; rfl
  · rfl

@[simp] theorem useTemplate_face (s : State) (t : Nat) (g) (f : Face) : (s.useTemplate t g).face f = s.face f := rfl

theorem returnUses_face (s : State) (ls : List Level) (f : Face) : (s.returnUses ls).face f = s.face f := by
  induction ls generalizing s with
  | nil => rfl
  | cons l ls ih => exact ih _

/-- Each level taken off a stack lowers its template's use count by one; the cells stay (R101). -/
theorem returnUses_use (s : State) (ls : List Level) (k : Nat) :
    ((s.returnUses ls).template k).use = (s.template k).use - ls.countP (fun l => l.template == k) ∧
    ((s.returnUses ls).template k).cells = (s.template k).cells := by
  induction ls generalizing s with
  | nil => exact ⟨rfl, rfl⟩
  | cons l ls ih =>
    obtain ⟨h1, h2⟩ := ih (s.useTemplate l.template (fun n => n - 1))
    rw [State.returnUses, h1, h2, useTemplate_template, List.countP_cons]
    by_cases h : l.template = k
    · subst h; simp; omega
    · simp [h]

/-- The stack and the snapshot of a face after its segment end (R114). -/
theorem emptyStack_face (s : State) (f : Face) :
    ((s.emptyStack f).face f).queue.stack = [] ∧ ((s.emptyStack f).face f).snapshot = none := by
  constructor <;> simp [State.emptyStack, State.face, State.modFace, FaceContext.modQueue]

/-! ### The end of a segment -/

/-- A context in which an end has changed its queue, snapshot, slots and latch alone. -/
def FaceContext.SameOutsideEnd (c d : FaceContext) : Prop :=
  d = { c with queue := d.queue, snapshot := d.snapshot, cards := d.cards, route := d.route, latch := d.latch }

/-- A state in which an end has changed one face alone, in its queue, snapshot, slots and latch. -/
def State.SameOutsideEnd (f : Face) (s t : State) : Prop :=
  s.SameOutsideFaces t ∧ (s.face f).SameOutsideEnd (t.face f) ∧ ∀ h, f ≠ h → t.face h = s.face h

theorem State.SameOutsideEnd.refl (f : Face) (s : State) : State.SameOutsideEnd f s s := ⟨rfl, rfl, fun _ _ => rfl⟩

theorem State.SameOutsideEnd.trans {f : Face} {s t u : State} (h : State.SameOutsideEnd f s t) (k : State.SameOutsideEnd f t u) :
    State.SameOutsideEnd f s u := by
  refine ⟨h.1.trans k.1, ?_, fun g hg => (k.2.2 g hg).trans (h.2.2 g hg)⟩
  have h1 := h.2.1
  have k1 := k.2.1
  unfold FaceContext.SameOutsideEnd at *
  rw [k1, h1]

theorem modFace_sameEnd (s : State) (f : Face) (u : FaceContext → FaceContext) (hu : (s.face f).SameOutsideEnd (u (s.face f))) :
    State.SameOutsideEnd f s (s.modFace f u) :=
  ⟨rfl, by rw [modFace_face_same]; exact hu, fun _ hg => modFace_face_ne s hg u⟩

theorem modQueue_sameEnd (s : State) (f : Face) (u : Queue → Queue) : State.SameOutsideEnd f s (s.modQueue f u) :=
  modFace_sameEnd s f (fun c => c.modQueue u) rfl

theorem raise_sameEnd (s : State) (f : Face) (e : Event) : State.SameOutsideEnd f s (s.raise f e) := by
  unfold State.raise
  split
  · exact modFace_sameEnd s f _ rfl
  · exact .refl f s

theorem raiseIf_sameEnd (s : State) (b : Bool) (f : Face) (e : Event) : State.SameOutsideEnd f s (s.raiseIf b f e) := by
  unfold State.raiseIf
  split
  · exact raise_sameEnd s f e
  · exact .refl f s

theorem reportEnd_sameEnd (s : State) (g : Segment) (b : Bool) : State.SameOutsideEnd g.face s (s.reportEnd g b) := by
  refine modFace_sameEnd s _ _ ?_
  dsimp only
  cases g.card <;> cases g.routed <;> rfl

theorem recordFault_sameEnd (s : State) (g : Segment) (v : Option FaultReason) :
    State.SameOutsideEnd g.face s (s.recordFault g v) := by
  unfold State.recordFault
  split
  · exact .refl _ s
  · exact (modQueue_sameEnd s g.face _).trans (raise_sameEnd _ _ _)

theorem queueEnd_sameEnd (s : State) (f : Face) (i : Fin 16) (e : SegmentEnd) : State.SameOutsideEnd f s (s.queueEnd f i e) :=
  ((raiseIf_sameEnd s _ f _).trans (modQueue_sameEnd _ f _)).trans (raiseIf_sameEnd _ _ f _)

theorem takeoverEnd_sameEnd (s : State) (f : Face) : State.SameOutsideEnd f s (s.takeoverEnd f) := by
  unfold State.takeoverEnd
  split
  · exact modQueue_sameEnd s f _
  · exact .refl f s

theorem returnUses_outside (s : State) (ls : List Level) :
    s.returnUses ls = { s with templates := { s.templates with table := (s.returnUses ls).templates.table } } := by
  induction ls generalizing s with
  | nil => rfl
  | cons l ls ih =>
    rw [State.returnUses, ih]
    rfl

/-- An end leaves the include stack to the emptying of the stack. -/
theorem recordFault_stack (s : State) (g : Segment) (v : Option FaultReason) :
    ((s.recordFault g v).face g.face).queue.stack = (s.face g.face).queue.stack := by
  cases v with
  | none => rfl
  | some why =>
    unfold State.recordFault
    rw [raise_face]
    split <;> simp [FaceContext.latching, State.modQueue, FaceContext.modQueue]

theorem reportEnd_queue (s : State) (g : Segment) (b : Bool) : ((s.reportEnd g b).face g.face).queue = (s.face g.face).queue := by
  unfold State.reportEnd
  rw [modFace_face_same]
  cases g.card <;> cases g.routed <;> rfl

theorem emptyStack_faces (s : State) (f h : Face) : (s.emptyStack f).face h =
    if f = h then { s.face h with queue := { (s.face h).queue with stack := [] }, snapshot := none } else s.face h := by
  rw [← returnUses_face s (s.face f).queue.stack h]
  exact modFace_face (s.returnUses (s.face f).queue.stack) f h
    (fun c => { c.modQueue (fun q => { q with stack := [] }) with snapshot := none })

/-- Everything the end of a segment can do before the release: the engine is free, each level of the stack returns its use, and of
the faces only the segment's own changes, in its queue, snapshot, slots and latch (R90, R101, R103, R114). -/
theorem endTaken_changes (s : State) (g : Segment) (v : Option FaultReason) :
    s.endTaken g v = { s with
      faces := (s.endTaken g v).faces, arbiter := ⟨none, s.arbiter.lastServed, none⟩, engine := ⟨none, [], false⟩
      templates := ⟨(s.endTaken g v).templates.table, s.templates.copying, []⟩ } ∧
    (∀ k, (s.endTaken g v).template k =
      ⟨(s.template k).cells, (s.template k).use - (s.face g.face).queue.stack.countP (fun l => l.template == k)⟩) ∧
    (s.face g.face).SameOutsideEnd ((s.endTaken g v).face g.face) ∧
    ∀ h, g.face ≠ h → (s.endTaken g v).face h = s.face h := by
  obtain ⟨a, ha⟩ : ∃ a, a = (s.reportEnd g v.isSome).recordFault g v := ⟨_, rfl⟩
  obtain ⟨b, hb⟩ : ∃ b : State, b = ({ a.emptyStack g.face with engine := Engine.idle } : State).release := ⟨_, rfl⟩
  have h0 : State.SameOutsideEnd g.face s a := ha ▸ (reportEnd_sameEnd s g _).trans (recordFault_sameEnd _ g v)
  have h2 : State.SameOutsideEnd g.face b (s.endTaken g v) := by
    subst hb ha
    exact (queueEnd_sameEnd _ _ _ _).trans (takeoverEnd_sameEnd _ _)
  have stack : (a.face g.face).queue.stack = (s.face g.face).queue.stack := by
    subst ha
    rw [recordFault_stack, reportEnd_queue]
  have hbt : b.templates = ⟨(a.returnUses (a.face g.face).queue.stack).templates.table, a.templates.copying, []⟩ := by
    subst hb
    have := congrArg State.templates (returnUses_outside a (a.face g.face).queue.stack)
    simp only [State.release, State.emptyStack, State.modFace]
    rw [this]
  have hbo : b = { a with faces := b.faces, arbiter := ⟨none, a.arbiter.lastServed, none⟩, engine := ⟨none, [], false⟩
                          templates := b.templates } := by
    subst hb
    unfold State.emptyStack
    rw [returnUses_outside]
    rfl
  refine ⟨?_, ?_, ?_, ?_⟩
  · have e2 := h2.1
    have e0 := h0.1
    unfold State.SameOutsideFaces at e0 e2
    have ht : (s.endTaken g v).templates = b.templates := by rw [e2]
    rw [ht, hbt]
    rw [e2, hbo, hbt]
    have hc : a.templates.copying = s.templates.copying := by rw [e0]
    rw [hc, e0]
  · intro k
    have ht : (s.endTaken g v).template k = (a.returnUses (a.face g.face).queue.stack).template k := by
      have e2 := h2.1
      unfold State.SameOutsideFaces at e2
      unfold State.template
      rw [e2]
      show Sparse.read _ b.templates.table k = _
      rw [hbt]
    have hs : a.template k = s.template k := by
      have e0 := h0.1
      unfold State.SameOutsideFaces at e0
      unfold State.template
      rw [e0]
    obtain ⟨u, c⟩ := returnUses_use a (a.face g.face).queue.stack k
    rw [hs, stack] at u
    rw [hs] at c
    rw [ht, stack, ← c, ← u, stack]
  · have hf : (a.face g.face).SameOutsideEnd (b.face g.face) := by
      subst hb
      show (a.face g.face).SameOutsideEnd ((a.emptyStack g.face).face g.face)
      rw [emptyStack_faces, if_pos rfl]
      rfl
    have e1 := h0.2.1
    have e2 := h2.2.1
    unfold FaceContext.SameOutsideEnd at *
    rw [e2, hf, e1]
  · intro h hne
    rw [h2.2.2 h hne]
    subst hb
    show (a.emptyStack g.face).face h = _
    rw [emptyStack_faces, if_neg hne, h0.2.2 h hne]

/-! ### Blocks and positions -/

/-- RS has no block to give exactly when every block of the store is out of the free set (R13). -/
theorem RouteStore.free_eq_nil (r : RouteStore) : r.free = [] ↔ ∀ b, b < 512 → b ∈ r.allocated := by
  simp [RouteStore.free, Config.blockCount]

/-- A text with a code, in a field of at least one position, has a position (R121, R122). -/
theorem layoutText_ne_nil (rtl : Bool) (ellipsis : Option Nat) (x m g : Nat) (codes : List Nat) (hc : codes ≠ []) (hp : m / g ≠ 0) :
    layoutText rtl ellipsis x m g codes ≠ [] := by
  have : cutCodes (m / g) ellipsis codes ≠ [] := by
    unfold cutCodes
    split
    · exact hc
    · cases ellipsis <;> simp [hp, hc]
  simpa [layoutText] using this

/-! ### Plane Memory -/

/-- Every plane is canonical. -/
def planesCanonical (planes : Vector Mem 4) : Prop := ∀ p : Fin 4, Memory.wf planes[p] = true

theorem putPlaneBit_canonical (planes : Vector Mem 4) (p : Fin 4) (f : Face) (x y : Nat) (v : Bool)
    (h : planesCanonical planes) : planesCanonical (putPlaneBit planes p f x y v) := by
  intro q
  unfold putPlaneBit
  by_cases e : p = q
  · subst e
    simpa using Memory.wf_writeBit _ _ _ v (h p)
  · have : p.val ≠ q.val := fun k => e (Fin.ext k)
    simpa [this] using h q

theorem plotPixel_canonical (p : Plot) (buffer : Mem) (planes : Vector Mem 4) (c r : Nat) (h : planesCanonical planes) :
    planesCanonical (plotPixel p buffer planes c r) := by
  unfold plotPixel
  split
  · exact h
  · exact putPlaneBit_canonical _ _ _ _ _ _ (putPlaneBit_canonical _ _ _ _ _ _ h)

/-- The writing of a pixel group keeps every plane canonical. -/
theorem plotRun_canonical (p : Plot) (buffer : Mem) (n c r : Nat) (planes : Vector Mem 4) (h : planesCanonical planes) :
    planesCanonical (plotRun p buffer n c r planes) := by
  induction n generalizing c planes with
  | zero => exact h
  | succ n ih => exact ih _ _ (plotPixel_canonical p buffer planes c r h)

/-! ### Requests -/

/-- Everything a request transaction can do (R74): NOT_READY during the load, nothing but the shift on a face not enabled, a
refusal of the port, or the owner's work on the state with the reply slot emptied. -/
theorem request_cases (s : State) (f : Face) (code : Byte) (known : Bool) (x : Transfer) (own : State → State) :
    (s.loadEnded = false ∧ s.request f code known x own = (s.requestShift f x).fillReply f .notReady code []) ∨
    (s.loadEnded = true ∧ s.enabled f = false ∧ s.request f code known x own = s.requestShift f x) ∨
    (s.loadEnded = true ∧ s.enabled f = true ∧
      ((∃ r, s.portRefusal f code known x.bytes.length = some r ∧
          s.request f code known x own = (s.requestShift f x).fillReply f r code []) ∨
       (s.portRefusal f code known x.bytes.length = none ∧
          s.request f code known x own = own ((s.requestShift f x).takeRequest f)))) := by
  unfold State.request
  cases h1 : s.loadEnded <;> simp
  cases h2 : s.enabled f <;> simp
  cases h3 : s.portRefusal f code known x.bytes.length <;> simp

end Sys2Proof.Machine
end

