-- ==== Sys2Proof/Laws/Safety.lean ====
section
/-! SUPPORT. What shared operations do, in the terms of Safety.lean: EC's look at the sources, the feed held at its level, the plain
drawings and the route set. -/

namespace Sys2Proof.Machine

/-! ### The sources -/

/-- All that EC's look at the sources can do out of NORMAL (R180, R181, R183). -/
theorem lookSources_looked (u : State) : u.SourcesLooked u.lookSources u.shownZone u.evacWanted where
  takeover h := by
    simp only [State.lookSources, h]
    cases hd : u.evac.drawing <;> by_cases hz : u.evac.drawnZone = some u.shownZone <;>
      simp [hz, eq_comm, State.modEvac, h, hd]
  showing h := by
    simp only [State.lookSources, h]
    cases hd : u.evac.drawing <;> cases hw : u.evacWanted <;> by_cases hz : u.evac.drawnZone = some u.shownZone <;>
      simp [hz, eq_comm, State.redrawCause, hd, State.modEvac, h]
  releasing h := by simp only [State.lookSources, h]

/-! ### A feed held at its level -/

/-- Samples at the accepted level in IDLE and SYNC count, and do nothing else (R186, R187). -/
theorem hearRun_still (n : Nat) (own : Byte) (l : Bool) (k : Nat) (t : Trunk) (h : t.low = some l) (hr : t.rx = .idle ∨ t.rx = .sync) :
    t.hearRun n own l k =
      ({ t with run := t.run + k, quiet := t.quiet + k, other := if k = 0 then t.other else 0 }, none) := by
  induction k generalizing t with
  | zero => rfl
  | succ k ih =>
    have hs : t.sample n own l = ({ t with run := t.run + 1, quiet := t.quiet + 1, other := 0 }, none) := by
      unfold Trunk.sample; rw [if_pos h]; unfold Trunk.timed
      rcases hr with hr | hr <;> simp [hr]
    unfold Trunk.hearRun
    rw [hs]
    dsimp only
    rw [ih _ (by exact h) (by exact hr)]
    simp; omega

/-- Samples at the accepted level in BODY and CHECK, up to the 48th since the last accepted edge, drop the frame (R187). -/
theorem hearRun_drops (n : Nat) (own : Byte) (l : Bool) (k : Nat) (t : Trunk) (h : t.low = some l) (hr : t.rx = .body ∨ t.rx = .check)
    (hk : Config.timeoutSamples ≤ t.quiet + k) (h1 : 1 ≤ k) :
    t.hearRun n own l k = ({ t.dropped with run := t.run + k, quiet := t.quiet + k, other := 0 }, none) := by
  induction k generalizing t with
  | zero => omega
  | succ k ih =>
    unfold Trunk.hearRun
    by_cases hq : Config.timeoutSamples ≤ t.quiet + 1
    · have hs : t.sample n own l = ({ t.dropped with run := t.run + 1, quiet := t.quiet + 1, other := 0 }, none) := by
        unfold Trunk.sample; rw [if_pos h]; unfold Trunk.timed
        rcases hr with hr | hr <;> simp [hr, hq, Trunk.dropped]
      rw [hs]
      dsimp only
      rw [hearRun_still n own l k _ (by exact h) (Or.inl rfl)]
      simp [Trunk.dropped]; omega
    · have hs : t.sample n own l = ({ t with run := t.run + 1, quiet := t.quiet + 1, other := 0 }, none) := by
        unfold Trunk.sample; rw [if_pos h]; unfold Trunk.timed
        rcases hr with hr | hr <;> simp [hr] <;> omega
      rw [hs]
      dsimp only
      rw [ih _ (by exact h) (by exact hr) (by simp only; omega) (by omega)]
      simp [Trunk.dropped]; omega

/-! ### Plain drawing -/

/-- A FILL, FRAME or IMAGE at an origin: RANGE, IMAGE_RANGE, or its drawing (R116 to R118). -/
theorem plainDraw_plain (s : State) (f : Face) (x y : Nat) (seg : Seg) (l : Layer) (m : Combine) (shape : Shape) (r : Rect) (fits : Bool)
    (h : seg.plain = some (l, m, shape, r, fits)) :
    s.plainDraw f x y seg = some (
      if (r.moved x y).inside = true then if fits = true then .ok (s.drawShape f l m shape (r.moved x y)) else .error .imageRange
      else .error .range) := by
  cases seg <;> simp only [Seg.plain, Option.some.injEq, Prod.mk.injEq, reduceCtorEq] at h
  all_goals
    obtain ⟨rfl, rfl, rfl, rfl, rfl⟩ := h
    simp only [State.plainDraw, if_true]
  case image _ _ k r o =>
    by_cases hin : (r.moved x y).inside = true
    · by_cases hf : o + (2 * r.w * r.h + 7) / 8 ≤ 4096 <;> simp [hin, hf, imageNeeds, Config.imageBytes]
    · simp [hin]

/-- What a drawing that has passed its checks does to the route slot (R119). -/
theorem routeDisturb_eq (v : Option RouteRecord) : routeDisturb v = disturbedBy .map v := by
  cases v <;> simp only [routeDisturb, disturbedBy]
  split_ifs <;> rfl

/-! ### The route set -/

/-- The step of a line is the nearest whole number, a half taken upward (R128). -/
theorem roundStep_isStep (k : Nat) (d : Int) (n : Nat) (c : Int) : isStep k d n c ↔ c = roundStep k d n := by
  unfold isStep roundStep
  by_cases h : n = 0
  · simp [h]
  · simp only [h, if_false, false_implies, true_and, ne_eq, not_false_eq_true, forall_const]
    have hp : (0 : Int) < 2 * n := by omega
    have h1 := Int.mul_fdiv_add_fmod (2 * k * d + n) (2 * n)
    have h2 := Int.fmod_nonneg_of_pos (2 * k * d + n) hp
    have h3 := Int.fmod_lt_of_pos (2 * k * d + n) hp
    generalize hq : Int.fdiv (2 * ↑k * d + ↑n) (2 * ↑n) = q at *
    generalize Int.fmod (2 * ↑k * d + ↑n) (2 * ↑n) = r at *
    rw [← h1]
    constructor
    · rintro ⟨a, b⟩
      have : 2 * (n : Int) * (c - q) ≤ r := by linarith
      have : r < 2 * (n : Int) * (c - q + 1) := by linarith
      have a1 : c - q < 1 := by
        by_contra hc; have : 2 * (n : Int) * 1 ≤ 2 * n * (c - q) := by apply mul_le_mul_of_nonneg_left <;> omega
        linarith
      have a2 : 0 < c - q + 1 := by
        by_contra hc; have : 2 * (n : Int) * (c - q + 1) ≤ 0 := by apply mul_nonpos_of_nonneg_of_nonpos <;> omega
        linarith
      omega
    · rintro rfl; constructor <;> linarith

/-- What a consecutive pair adds to the route set, as R128 says it. -/
theorem pairCovers_iff (w : Nat) (p q : Placed) (x y : Nat) : pairCovers w p q x y = true ↔ pairAdds w p q x y := by
  obtain ⟨pl, px, py⟩ := p
  obtain ⟨ql, qx, qy⟩ := q
  cases pl <;> cases ql <;> unfold pairCovers pairAdds
  · simp
  · simp [markerCovers, inSquare]
  · simp [markerCovers, inSquare]
  · simp only [List.any_eq_true, List.mem_range, brushCovers, lineCentre, roundStep_isStep, inSquare, lineSteps]
    constructor
    · rintro ⟨k, hk, h⟩
      exact ⟨_, k, _, _, rfl, by omega, rfl, rfl, by simpa using h⟩
    · rintro ⟨n, k, a, b, rfl, hk, rfl, rfl, h⟩
      exact ⟨k, by omega, by simpa using h⟩

/-- The route set of placed waypoints holds what its consecutive pairs add (R128). -/
theorem routeCovers_iff (w : Nat) (points : List Placed) (x y : Nat) :
    routeCovers w points x y = true ↔ ∃ i a b, points[i]? = some a ∧ points[i + 1]? = some b ∧ pairAdds w a b x y := by
  induction points with
  | nil => simp [routeCovers]
  | cons p t ih =>
    cases t with
    | nil => simp [routeCovers]
    | cons q rest =>
      simp only [routeCovers, Bool.or_eq_true, pairCovers_iff, ih]
      constructor
      · rintro (h | ⟨i, a, b, h1, h2, h3⟩)
        · exact ⟨0, p, q, rfl, rfl, h⟩
        · exact ⟨i + 1, a, b, by simpa using h1, by simpa using h2, h3⟩
      · rintro ⟨i, a, b, h1, h2, h3⟩
        cases i with
        | zero => simp at h1 h2; subst h1 h2; exact Or.inl h3
        | succ i => exact Or.inr ⟨i, a, b, by simpa using h1, by simpa using h2, h3⟩

end Sys2Proof.Machine
end

