-- ==== Sys2Proof/WellFormed.lean ====
section
/-! DEFINITION. Which commands are well formed: the operand conditions that no type of Syntax.lean already carries. -/

namespace Sys2Proof

/-- The codes of the request list and FETCH (R199). -/
def requestCodes : List Byte :=
  [0x01, 0x02, 0x03, 0x04, 0x10, 0x11, 0x12, 0x20, 0x21, 0x22, 0x23, 0x24, 0x25,
   0x30, 0x31, 0x32, 0x40, 0x41, 0x50, 0x80]

/-- A feed is a list of runs of at least one sample (R186). -/
def Feed.wellFormed (feed : Feed) : Bool := feed.all (fun r => 0 < r.samples)

/-- A command is well formed when its operands describe an event of its row. -/
def Instr.wellFormed : Instr → Bool
  | .openFrame feed | .chunkFrame feed | .waypointsFrame feed | .closeFrame feed | .abandonFrame feed
  | .purgeFrame feed | .alarmFrame feed | .allClearFrame feed | .pollFrame feed | .unknownFrameKind feed
  | .trunkFrameDropped feed | .trunkFrameTimeout feed => Feed.wellFormed feed
  | .unknownRequestCode _ code _ => !requestCodes.contains code
  | .pixelGroupWrite count => decide (1 ≤ count ∧ count ≤ Config.groupPixels)
  | .fullReset | .resetRelease | .configReadComplete _ | .configNoAcknowledge | .configLimitExpiry | .planeClearDone
  | .turnaroundEnd | .replyEnd
  | .status _ _ | .kick _ _ | .readEvents _ _ | .setMask _ _ | .readEntry _ _ | .listWindow _ _ | .findPrefix _ _
  | .writeCells _ _ | .start _ _ | .append _ _ | .stop _ _ | .readFault _ _ | .writeImage _ _ | .setMap _ _
  | .setLanguage _ _ | .setPalette _ _ | .readSlots _ _ | .hitTest _ _ | .resetFace _ _ | .fetch _ _
  | .faceGrant | .templateCellStep | .routeEraseDone | .segmentCompletion | .segmentFault
  | .repositionDone | .glyphCopyDone | .templateCopyDone | .purgeGrant | .purgeEnd
  | .frameStart _ | .waitTimeExpiry _ | .pulseTimeExpiry _ | .recoveryWindowExpiry _
  | .evacLineChange | .lineDebounceExpiry | .cutoffExpiry | .ecGrant | .viewDrawingEnd | .cycleTimerExpiry
  | .bandDrawingEnd | .blankDrawingEnd => true

end Sys2Proof
end

