-- ==== Sys2Proof/Tests/Slice0.lean ====
section
/-! SUPPORT. Tests of one step each, from the worked examples of the spec; ill-formed commands; and, for each statement that has
hypotheses, a state and operands that meet them. -/

namespace Sys2Proof.Tests

/- One theorem at a time: many kernel evaluations at once would each hold a thread. -/
set_option Elab.async false

open Sys2Proof.Machine

/-! ### Helpers -/

/-- The part in service at the default settings, nothing loaded, every supervisor OFF, the feed high. -/
def ready : State :=
  { State.fullReset [] false with
    loader := ⟨.defaulted, .ended, .stopped, false, Settings.default⟩
    trunk := { Trunk.reset with rx := .idle, low := some false } }

/-- The state a command answers. -/
def after (c : Instr) (s : State) : State :=
  match exec c s with
  | .next t => t
  | _ => s

/-- The shortest timing that R186 admits at a debounce count of 4. -/
def timing : DipTiming := ⟨4, 8, 24, 4⟩

/-- The feed of a frame to the default address. -/
def wire (kind : Byte) (data : Bytes) : Feed := frameFeed timing ⟨63, kind, data⟩

/-- The receiver takes the frame as it was sent. -/
def takes (s : State) (kind : Byte) (data : Bytes) : Bool := decide ((s.heard (wire kind data)).2 = some ⟨63, kind, data⟩)

/-- A transfer of whole bytes. -/
def req (bs : Bytes) : Transfer := ⟨bs, 0⟩

/-- A cell: its first bytes, then zeros. -/
def cell (bs : Bytes) : Bytes := bs ++ List.replicate (16 - bs.length) 0

/-- The update controller in a state with a transaction. -/
def during (st : UcState) (x : Txn) (image : Option Image) (chain : Chain) : State :=
  { ready with update := { Update.reset with state := st, txn := some x, image := image, chain := chain } }

/-- A complete entry image: unit code (3), level 1, category 2, anchor (5, 6), name 0 the one code 1; its route action is a byte. -/
def goodImage (action : Byte) : Mem :=
  [(0, 1), (2, 3), (13, 1), (14, 2), (17, 5), (19, 6)] ++ (if action = 0 then [] else [(20, action)]) ++ [(21, 1), (23, 1)]

/-- The bytes of a CLOSE with the CRC-16 that UC computes. -/
def closing (s : State) : Bytes := Word16.bytes (crc16 s.crcContent)

/-- A directory with entry 5 in a state. -/
def withEntry (s : State) (st : EntryState) : State := { s with directory := [(5, ⟨st, 1, goodImage 0, none⟩)] }

/-- A face's context changed. -/
def onFace (s : State) (f : Face) (g : FaceContext → FaceContext) : State := s.modFace f g

/-- A queue with a ring cell 0 in a state. -/
def queueOf (st : QueueState) (bytes : Bytes) (last : Fin 16) : Queue :=
  { Queue.reset with ring := Mem.writeBytes [] 0 bytes, state := st, range := some ⟨0, last⟩ }

/-- Face 1 holds the engine for a segment at ring cell 0. -/
def running (bytes : Bytes) (stage : Stage) (stack : List Level) : State :=
  let s := onFace ready 1 (fun c => { c with queue := { queueOf .running bytes 1 with stack := stack } })
  { s with arbiter := ⟨some (.face 1), some 1, none⟩, engine := ⟨some ⟨1, 0, cellKind bytes, 0, stage, none, false, false⟩, [], false⟩ }

/-- A template whose cell 0 is given. -/
def withTemplate (s : State) (t : Nat) (use : Nat) (bytes : Bytes) : State :=
  { s with templates := ⟨[(t, ⟨some (Mem.writeBytes [] 0 bytes), use⟩)], none, [t]⟩ }

/-! ### Ill-formed commands -/

theorem test_wellFormed_feed : Instr.wellFormed (.openFrame [⟨true, 1⟩]) = true := by decide
theorem test_illFormed_feed : Instr.wellFormed (.openFrame [⟨true, 0⟩]) = false := by decide
theorem test_wellFormed_unknown_code : Instr.wellFormed (.unknownRequestCode 0 0x05 (req [])) = true := by decide
theorem test_illFormed_known_code : Instr.wellFormed (.unknownRequestCode 0 0x50 (req [])) = false := by decide
theorem test_wellFormed_group : Instr.wellFormed (.pixelGroupWrite 1) = true ∧ Instr.wellFormed (.pixelGroupWrite 32) = true := by
  decide
theorem test_illFormed_group : Instr.wellFormed (.pixelGroupWrite 0) = false ∧ Instr.wellFormed (.pixelGroupWrite 33) = false := by
  decide
/-- No row of the table gives bits, so no word spells a command. -/
theorem test_no_word_decodes : decodeTableWord 32 0x12345678 = none := rfl

/-! ### Codes and operands -/

/-- The check values of the two CRC polynomials over the digits 1 to 9. -/
theorem test_crc : crc16 [0x31, 0x32, 0x33, 0x34, 0x35, 0x36, 0x37, 0x38, 0x39] = 0x29B1 ∧
    crc8 [0x31, 0x32, 0x33, 0x34, 0x35, 0x36, 0x37, 0x38, 0x39] = 0xF4 := by decide +kernel

/-- A serial register that takes in a byte exists from any start, for each check value. -/
theorem witness_serial_registers (b c : Byte) (r : Word16) :
    (∃ q : Nat → Word16, q 0 = r ∧
      ∀ i, i < 8 → q (i + 1) = (q i <<< 1) ^^^ (if (q i).getLsbD 15 = b.getLsbD (7 - i) then 0 else 0x1021)) ∧
    ∃ q : Nat → Byte, q 0 = c ∧
      ∀ i, i < 8 → q (i + 1) = (q i <<< 1) ^^^ (if (q i).getLsbD 7 = b.getLsbD (7 - i) then 0 else 0x07) :=
  ⟨⟨Nat.rec r (fun i q => (q <<< 1) ^^^ (if q.getLsbD 15 = b.getLsbD (7 - i) then 0 else 0x1021)), rfl, fun _ _ => rfl⟩,
    ⟨Nat.rec c (fun i q => (q <<< 1) ^^^ (if q.getLsbD 7 = b.getLsbD (7 - i) then 0 else 0x07)), rfl, fun _ _ => rfl⟩⟩

/-- A CARD of entry 214 into slot 3 with template 9 at (40, 400, 1000, 160), written out as R200 lays it. -/
theorem test_card_cell : parseSeg .card ([0x05, 0x80, 0x00, 0xD6, 0x03, 0x09, 0x00, 0x28, 0x01, 0x90, 0x03, 0xE8, 0x00, 0xA0, 0, 0]) =
    some (.card 214 3 9 ⟨40, 400, 1000, 160⟩) := by decide

/-- Colour 4 is out of range (R84). -/
theorem test_fill_cell_range : parseSeg .fill ([0x01, 0, 0, 0, 4, 0] ++ word16Of 0 ++ word16Of 0 ++ word16Of 1 ++ word16Of 1) = none := by
  decide

/-- Cells at the ends of their ranges, and the same cells one past (R84, R200). -/
theorem test_cell_ranges :
    [(Kind.fill, [1, 0, 1, 3, 3, 0] ++ word16Of 1079 ++ word16Of 1919 ++ word16Of 1080 ++ word16Of 1920),
      (.frame, [2, 0, 0, 0, 0, 8] ++ word16Of 0 ++ word16Of 0 ++ word16Of 1 ++ word16Of 1),
      (.image, [3, 0, 0, 0, 0, 1] ++ word16Of 0 ++ word16Of 0 ++ word16Of 1 ++ word16Of 1 ++ word16Of 4095),
      (.call, [4, 0, 0, 0, 0, 63] ++ word16Of 1079 ++ word16Of 1919), (.route, [6, 0] ++ word16Of 1023 ++ [1, 8]),
      (.clearSlot, [8, 0, 0, 0, 11, 3]), (.textField, [10, 0, 1, 3, 3, 2] ++ word16Of 1079 ++ word16Of 1919 ++ word16Of 1),
      (.select, [11, 0, 3, 0, 8]), (.goto, [12, 0, 0, 0, 15])].all (fun p => (parseSeg p.1 p.2).isSome) = true ∧
    [(Kind.fill, [1, 0, 1, 3, 3, 0] ++ word16Of 1079 ++ word16Of 1919 ++ word16Of 1080 ++ word16Of 1921),
      (.frame, [2, 0, 0, 0, 0, 9] ++ word16Of 0 ++ word16Of 0 ++ word16Of 1 ++ word16Of 1),
      (.image, [3, 0, 0, 0, 0, 2] ++ word16Of 0 ++ word16Of 0 ++ word16Of 1 ++ word16Of 1 ++ word16Of 4095),
      (.call, [4, 0, 0, 0, 0, 63] ++ word16Of 1079 ++ word16Of 1920), (.route, [6, 0] ++ word16Of 1023 ++ [0, 8]),
      (.clearSlot, [8, 0, 0, 0, 12, 3]), (.textField, [10, 0, 1, 3, 3, 0] ++ word16Of 1079 ++ word16Of 1919 ++ word16Of 1),
      (.select, [11, 0, 4, 0, 8]), (.goto, [12, 0, 0, 0, 16])].all (fun p => (parseSeg p.1 p.2).isNone) = true := by
  decide +kernel

/-- The waypoint (2448, 1648, 2) in its trunk form (R202). -/
theorem test_waypoint : (Waypoint.x 0x99067002, Waypoint.y 0x99067002, Waypoint.level 0x99067002) = (2448, 1648, 2) := by decide

/-! ### Start-up -/

/-- The EEPROM with the key and nothing else in range: address 63 and the rest as its bytes give (R193, R203). -/
theorem test_config_read : (after (.configReadComplete (Vector.replicate 32 0 |>.set 0 0x48 |>.set 1 0x43))
    { State.reset with loader := { State.reset.loader with phase := .reading, clearing := false } }).settings.address = 63 := by
  decide +kernel

/-- After the load a face is in RECOVERY, its port READY with the WITHDRAWN flag (R70, R162). -/
theorem test_load_end : (after .configNoAcknowledge
    { State.reset with loader := { State.reset.loader with phase := .reading, clearing := false } }).statusByte 2 = 0x80 := by
  decide +kernel

/-! ### The trunk link -/

/-- A frame at the shortest timing is taken; POLL page 1 of the part in service names no zone but 0, and all faces enabled. -/
theorem test_poll_page_1 : (after (.pollFrame (wire 0x06 [1])) ready).trunk.reply =
    some ([0x83, 8, 1, 0, 0, 0, 0, 0, 0, 0x0F] ++ [crc8 [0x83, 8, 1, 0, 0, 0, 0, 0, 0, 0x0F]]) := by decide +kernel

/-- A broadcast is acted on and not answered (R188). -/
theorem test_broadcast_alarm : (after (.alarmFrame (frameFeed timing ⟨0, 0x07, [5]⟩)) ready).evac.trunkZone = some 5 ∧
    (after (.alarmFrame (frameFeed timing ⟨0, 0x07, [5]⟩)) ready).trunk.reply = none := by decide +kernel

/-- 48 samples with no accepted edge drop a frame (R187). -/
theorem test_timeout : (after (.trunkFrameTimeout (dipFeed 24 4 ++ [⟨true, 48⟩])) ready).trunk.rx = .idle := by decide +kernel

/-- In a frame, a gap of 48 samples is in time at every debounce count, and one of 49 has dropped it (R187, log 19). -/
theorem test_long_gap : [1, 2, 4, 8].all (fun n => [48, 49].all (fun gap =>
    decide ((Trunk.hear n 63 [⟨true, 24⟩, ⟨false, gap⟩, ⟨true, 8⟩] ready.trunk).1.rx =
      if gap = 48 then RxState.body else .sync))) = true := by decide +kernel

/-! ### Ports, queues and the arbiter -/

/-- STATUS is fetched as OK, its code, and six bytes (R76, R199). -/
theorem test_status : ((after (.fetch 0 8) (after (.status 0 (req [])) ready)).face 0).port.dataOut =
    [0x02, 0, 0x01, 0, 0, 0, 0, 0, 0] := by decide +kernel

/-- START (14, 1) holds four cells, and APPEND (3) makes them six before any has run (R83, R88). -/
theorem test_start_append :
    ((after (.start 1 (req [14, 1])) ready).face 1).queue.range.map ActiveRange.count = some 4 ∧
    ((after (.append 1 (req [3])) (after (.start 1 (req [14, 1])) ready)).face 1).queue.range.map ActiveRange.count = some 6 := by
  decide +kernel

/-- Wait counts and last served face at a grant of the worked example of chapter 6. -/
def aging (last : Option Face) (counts : Vector Nat 4) : State :=
  let s := { ready with settings := { Settings.default with priority := #v[2, 1, 2, 0] }, arbiter := ⟨none, last, none⟩ }
  s.mapFaces (fun f c => { c with waitCount := counts[f], queue := { c.queue with state := if f = 3 then .idle else .pending } })

/-- Grants 1, 5, 6 and 10 of the worked example. -/
theorem test_aging : (aging none #v[0, 0, 0, 0]).chooseFace [0, 1, 2] = some 1 ∧
    (aging (some 1) #v[4, 0, 4, 0]).chooseFace [0, 1, 2] = some 2 ∧
    (aging (some 2) #v[5, 1, 0, 0]).chooseFace [0, 1, 2] = some 0 ∧
    (aging (some 1) #v[3, 0, 4, 0]).chooseFace [0, 1, 2] = some 2 := by decide +kernel

/-! ### Drawing -/

/-- The face pixels of W0 to W2 of the worked example of R131, and whether W3 is on the level. -/
theorem test_placement :
    [(2048, 2048, 1), (2448, 2048, 1), (2448, 1648, 1), (2448, 1648, 2)].map (fun (p : Nat × Nat × Nat) =>
      let q := placeWaypoint ⟨540, 960, 2048, 2048, 1, 4⟩ .deg90 (BitVec.ofNat 32 (p.1 * 2 ^ 20 + p.2.1 * 2 ^ 8 + p.2.2))
      (q.onLevel, q.x, q.y)) =
    [(true, 540, 960), (true, 540, 1060), (true, 640, 1060), (false, 640, 1060)] := by decide +kernel

/-- The brush of width 8 covers columns 537 to 544 about column 540 (R128). -/
theorem test_brush : [536, 537, 544, 545].map (fun x => brushCovers 8 (540, 960) x 960) = [false, true, true, false] := by decide

/-- A level-change marker at (640, 1060) covers columns 632 to 647 (R128). -/
theorem test_marker : [631, 632, 647, 648].map (fun x => markerCovers ⟨true, 640, 1060⟩ x 1060) = [false, true, true, false] := by
  decide

/-- −3 ÷ 4 is −1 and 3 ÷ 4 is 0 (R127); a half is rounded upward (R128). -/
theorem test_rounding : Int.fdiv (-3) 4 = -1 ∧ Int.fdiv 3 4 = 0 ∧ roundStep 1 1 2 = 1 ∧ roundStep 1 (-1) 2 = 0 := by decide

/-- Card colour 2 over map colour 3 is pixel value 11 (chapter 7, the card over a route). -/
theorem test_pixel_value :
    pixelValue (putColour (putColour (Vector.replicate 4 []) .map 3 10 20 3) .card 3 10 20 2) 3 10 20 = 11 := by decide +kernel

/-- A field of 1032 at scale 2 holds 21 positions: of 22 codes, 20 are drawn and then the ellipsis (R121, R122). -/
theorem test_cut : (layoutText false (some 9) 24 1032 48 (List.replicate 22 1)).map Prod.fst = List.replicate 20 1 ++ [9] := by
  decide +kernel

/-- Position 0 of an RTL field of width 90 at x 4 has its left edge at 70 (R121). -/
theorem test_rtl : layoutText true none 4 90 24 [7, 8] = [(7, 70), (8, 46)] := by decide

/-- SELECT OPEN_MARK with n 3 from cell 2 goes on at cell 3 for OPEN (the worked example of a card template). -/
theorem test_select : ((after .templateCellStep
    (onFace (withTemplate (running (cell [5]) .expanding [⟨9, 0, none, 40, 400, 30⟩]) 9 1 (cell [11, 0, 0, 0, 3])) 1
      (fun c => { c with snapshot := some ⟨214, .live, 12, [3], 1, 2, .opened, Vector.replicate 4 none⟩ }))).face 1).queue.stack =
    [⟨9, 1, none, 40, 400, 29⟩] := by decide +kernel

/-- The palette of the worked example of chapter 7: entries 1 and 2 taken at a frame start. -/
theorem test_palette : (({ PaletteState.reset with pending := (Vector.replicate 16 none).set 1 (some 0xA) |>.set 2 (some 0xC) }).choose).shown.toList.take 4 =
    [0xE6DFCF, 0xA, 0xC, 0x1F3C73] := by decide +kernel

/-! ### Witnesses: a state and operands for the hypotheses of each statement, clause by clause -/

theorem witness_IdleStepScansOnePixel :
    [Scan.sync, .pixel 0 0 0, .pixel 1078 1919 0, .pixel 1079 1918 0, .pixel 1079 1919 0, .rowGap 0, .rowGap 1918, .frameGap, .blank].all
      (fun v => let s := onFace ready 0 (fun c => { c with scan := v })
        decide (s.pending = [] ∧ (s.face 0).scan = v)) = true := by decide +kernel

theorem witness_LoadRunsToItsEnd : State.reset.loader.phase = .held ∧ (after .resetRelease State.reset).loader.phase = .reading ∧
    State.reset.loader.clearing = true := by decide +kernel

/-- The last of the two ends comes, with every face enabled, or none where the memory's byte 5 is 0. -/
theorem witness_LoadEndServes :
    (let s := { State.reset with loader := { State.reset.loader with phase := .reading, clearing := false } }
     s.loadEnded = false ∧ (after .configNoAcknowledge s).loadEnded = true ∧ (after .configNoAcknowledge s).enabled 3 = true ∧
     (let m := Vector.replicate 32 0 |>.set 0 0x48 |>.set 1 0x43
      (after (.configReadComplete m) s).loadEnded = true ∧ (after (.configReadComplete m) s).enabled 3 = false)) ∧
    (let s := { State.reset with loader := { State.reset.loader with phase := .clearing, clearing := true } }
     s.loadEnded = false ∧ (after .planeClearDone s).loadEnded = true) := by decide +kernel

theorem witness_OnlyTheirCommandsWrite : (∃ t, exec .replyEnd ready = .next t) ∧ writesPlanes .replyEnd = false ∧
    movesSupervisor .replyEnd = false ∧ movesSettings .replyEnd = false := ⟨⟨_, rfl⟩, rfl, rfl, rfl⟩

/-- A frame of eight data bytes for address 63, a broadcast, one for another address, one with a wrong check byte, and a feed with
no frame, at the shortest timing. -/
theorem witness_trunk_feed : 1 ≤ 4 ∧ ready.trunk.atRest ∧ timing.seen 4 ∧ (⟨63, 1, List.replicate 8 0⟩ : Frame).data.length ≤ 8 ∧
    (⟨62, 1, []⟩ : Frame).address ≠ 0 ∧ (0 : Byte) ≠ crc8 [63, 1, 0] ∧
    (ready.heard (dipFeed 24 4)).2 = none ∧ (ready.heard (dipFeed 24 4)).1.rx = .body ∧ (ready.heard [⟨true, 4⟩]).1.rx = .sync ∧
    (ready.heard []).1.rx = .idle ∧ (ready.heard []).1.low = some false ∧ (State.reset.heard []).1.low = none ∧
    (State.reset.heard []).1.rx = .off := by
  unfold Trunk.atRest DipTiming.seen; decide +kernel

theorem witness_ReplyIsSent :
    (let s := { ready with trunk := { ready.trunk with rx := .turnaround, reply := some (TrunkReply.ack 7 .idle).bytes } }
     s.trunk.rx = .turnaround ∧ s.trunk.reply = some (TrunkReply.ack 7 .idle).bytes) ∧
    ({ ready with trunk := { ready.trunk with rx := .reply } }).trunk.rx = .reply ∧ ready.loadSink = false ∧
    ({ ready with trunk := { ready.trunk with sink := [⟨0, 4⟩] } } : State).loadSink = false := by decide +kernel

/-- An OPEN of PUT on entry 1023, the last, in IDLE and over a staged transaction. -/
theorem witness_OpenBeginsTransaction :
    [ready, during .staging ⟨3, .entry, 5, .hide⟩ none Chain.empty].all (fun s => takes s 0x01 [0, 7, 0, 3, 255, 0]) = true ∧
    TargetKind.ofCode 0 = some .entry ∧ Op.ofCode 0 = some .put ∧ opAllowed .entry .put = true ∧
    num16 [0, 7, 0, 3, 255, 0] 3 < TargetKind.entry.count ∧ stateAllows .put (ready.entry 1023).state = true ∧
    ready.update.state = .idle := by decide +kernel

/-- The blank entry image of PUT as the sender's 217 bytes: level, category and anchor absent, route action NONE (R24, R201). -/
theorem test_start_image : (ready.startImage .entry 5 .put).map (fun i => (i.size, (i.bytes.readBytes 12 10))) =
    some (217, [0, 0xFF, 0xFF, 0, 0xFF, 0xFF, 0xFF, 0xFF, 1, 0]) := by decide +kernel

theorem witness_OpenIsRefusedInOrder :
    takes ready 0x01 [0, 7, 0, 3, 255] = true ∧
    [UcState.committing, .deferred].all (fun st => takes (during st ⟨3, .entry, 5, .put⟩ none Chain.empty) 0x01 [0, 7, 0, 0, 5, 0]) = true ∧
    takes ready 0x01 [0, 7, 5, 0, 0, 5] = true ∧ TargetKind.ofCode 5 = none ∧
    takes ready 0x01 [0, 7, 0, 0, 0, 5] = true ∧ opAllowed .entry .load = false ∧
    takes ready 0x01 [0, 7, 0, 4, 0, 0] = true ∧ TargetKind.entry.count ≤ num16 [0, 7, 0, 4, 0, 0] 3 ∧
    [[0, 7, 0, 3, 255], [0, 7, 5, 0, 0, 5], [0, 7, 0, 4, 0, 0], [0, 7, 0, 0, 5, 2]].all (fun data =>
      takes (during .staging ⟨3, .entry, 5, .put⟩ none ⟨[0], 2⟩) 0x01 data) = true ∧
    takes ready 0x01 [0, 7, 0, 0, 5, 2] = true ∧ stateAllows .hide (ready.entry 5).state = false := by decide +kernel

/-- A chunk that ends at the image's last byte, and one that passes it by one. -/
theorem witness_ChunkOverwritesImage :
    (let s := during .staging ⟨3, .entry, 5, .put⟩ (some ⟨217, entryBlank⟩) Chain.empty
     takes s 0x02 [0, 211, 1, 2, 3, 4, 5, 6] = true ∧ num16 [0, 211, 1, 2, 3, 4, 5, 6] 0 + (8 - 2) ≤ 217 ∧
     takes s 0x02 [0, 212, 1, 2, 3, 4, 5, 6] = true ∧ 217 < num16 [0, 212, 1, 2, 3, 4, 5, 6] 0 + (8 - 2) ∧
     takes s 0x02 [0, 1] = true) ∧
    takes (during .staging ⟨3, .entry, 5, .hide⟩ none Chain.empty) 0x02 [0, 0, 1] = true ∧ takes ready 0x02 [0, 0, 1] = true ∧
    [UcState.committing, .deferred].all (fun st => takes (during st ⟨3, .entry, 5, .put⟩ none Chain.empty) 0x02 [0, 0, 1]) = true := by
  decide +kernel

/-- Two waypoints that make 64, two that make 65, the first of a chain, and no block to give. -/
theorem witness_WaypointsExtendChain :
    (let s := during .staging ⟨3, .entry, 5, .put⟩ (some ⟨217, entryBlank⟩) ⟨List.range 8, 62⟩
     takes s 0x03 (List.replicate 8 1) = true ∧ s.update.chain.count + 8 / 4 ≤ 64 ∧
     (stageWaypoints (frameWaypoints (List.replicate 8 1)) (s.routes, s.update.chain)).isSome = true) ∧
    (let s := during .staging ⟨3, .entry, 5, .patch⟩ (some ⟨217, entryBlank⟩) ⟨List.range 8, 63⟩
     takes s 0x03 (List.replicate 8 1) = true ∧ 64 < s.update.chain.count + 8 / 4) ∧
    (let s := { during .staging ⟨3, .entry, 5, .put⟩ (some ⟨217, entryBlank⟩) Chain.empty with routes := ⟨List.range 512, []⟩ }
     takes s 0x03 [0, 0, 0, 0] = true ∧ stageWaypoints (frameWaypoints [0, 0, 0, 0]) (s.routes, s.update.chain) = none) ∧
    takes (during .staging ⟨3, .entry, 5, .hide⟩ none Chain.empty) 0x03 [0, 0, 0, 0] = true ∧
    takes (during .staging ⟨3, .entry, 5, .put⟩ none Chain.empty) 0x03 [0, 0, 0, 0, 0] = true ∧
    takes ready 0x03 [0, 0, 0, 0] = true ∧
    [UcState.committing, .deferred].all (fun st => takes (during st ⟨3, .entry, 5, .put⟩ none Chain.empty) 0x03 [0, 0, 0, 0]) = true := by
  decide +kernel

theorem witness_CloseIsRefusedInOrder :
    (let s := during .staging ⟨3, .language, 3, .load⟩ (some ⟨4, [(0, 2)]⟩) Chain.empty
     takes s 0x04 [0] = true ∧ takes s 0x04 [0, 0] = true ∧ (crc16 s.crcContent).toNat ≠ num16 [0, 0] 0 ∧
     takes s 0x04 (closing s) = true ∧ (crc16 s.crcContent).toNat = num16 (closing s) 0 ∧
     s.formatOk ⟨3, .language, 3, .load⟩ = false) ∧
    takes ready 0x04 [0, 0] = true ∧
    [UcState.committing, .deferred].all (fun st => takes (during st ⟨3, .entry, 5, .put⟩ none Chain.empty) 0x04 [0, 0]) = true := by
  decide +kernel

/-- Contents at the ends of their ranges and past them: unit code of 6 and 7, level 7 and 8, a plan's scale 16 and 17 (R33). -/
theorem test_format_check :
    [((0 : Nat), (6 : Byte), true), (0, 7, false), (13, 7, true), (13, 8, false), (15, 3, false), (20, 0, false), (20, 2, false)].all (fun p =>
      let i : Image := ⟨217, (goodImage 1).write p.1 p.2.1⟩
      (during .staging ⟨3, .entry, 5, .put⟩ (some i) Chain.empty).formatOk ⟨3, .entry, 5, .put⟩ == p.2.2) = true ∧
    [((16 : Byte), true), (17, false), (0, false)].all (fun p =>
      let i : Image := ⟨315, Mem.write [(0, 0xFF), (1, 0xFF)] 11 p.1⟩
      (during .staging ⟨3, .evacPlan, 7, .load⟩ (some i) Chain.empty).formatOk ⟨3, .evacPlan, 7, .load⟩ == p.2) = true := by decide +kernel

/-- PUT with NEW and with NONE, PATCH with KEEP, HIDE, SHOW and REMOVE of entry 5. The image's size is cut to its written bytes, which
no hypothesis looks at, so that its CRC-16 is short. -/
theorem witness_CloseCommitsEntry :
    [(Op.put, EntryState.free, some (goodImage 2), (⟨[0], 2⟩ : Chain)), (.put, .live, some (goodImage 1), Chain.empty),
     (.patch, .live, some (goodImage 0), Chain.empty), (.hide, .live, none, Chain.empty), (.show, .hidden, none, Chain.empty),
     (.remove, .live, none, Chain.empty)].all (fun p =>
      let s := withEntry (during .staging ⟨3, .entry, 5, p.1⟩ (p.2.2.1.map (Image.mk 24)) p.2.2.2) p.2.1
      takes s 0x04 (closing s) && decide ((crc16 s.crcContent).toNat = num16 (closing s) 0) &&
        s.formatOk ⟨3, .entry, 5, p.1⟩) = true := by decide +kernel

/-- Slots that hold entry 5: a card in DRAWING and a route in DISTURBED, on an enabled face. -/
theorem witness_CommitNoticeMarksSlots :
    (let s := onFace ready 0 (fun c => { c with
        cards := c.cards.set 11 (some ⟨.drawing, 5, 1, ⟨0, 0, 1, 1⟩⟩), route := some ⟨.disturbed, 5, 1, 3, 8, []⟩ })
     s.enabled 0 = true ∧ ((s.commitNotice 5 .free).face 0).route = some ⟨.gone, 5, 1, 3, 8, []⟩ ∧
     ((s.commitNotice 5 .live).face 0).route = some ⟨.disturbed, 5, 1, 3, 8, []⟩) ∧
    ({ ready with settings := { Settings.default with enabled := Vector.replicate 4 false } } : State).enabled 0 = false := by decide +kernel

/-- Plan 0 with exit entry 5, in each evacuation state, with a drawing in flight and with none. -/
theorem witness_CommitReachesEvacuation :
    [(EvacState.normal, (none : Option Drawing)), (.takeover, none), (.takeover, some .view), (.showing, none), (.showing, some .band),
     (.releasing, some .blank)].all (fun p =>
      let s := { ready with evac := { ready.evac with state := p.1, drawing := p.2, plans := ready.evac.plans.set 0 (some [(1, 5)]) } }
      decide ((s.evac.plans[s.shownZone].bind planExit) = some 5 ∧ s.evac.state = p.1 ∧ s.evac.drawing = p.2 ∧
        (7 : Nat) ≠ s.shownZone.val)) = true := by decide +kernel

/-- A language slot, a plan, a page and a template, each with LOAD and CLEAR; the images' sizes are cut short as above. -/
theorem witness_CloseCommitsStores :
    [((⟨3, .language, 3, .load⟩ : Txn), some (Image.mk 4 languageBlank)), (⟨3, .language, 0, .clear⟩, none),
     (⟨3, .evacPlan, 7, .load⟩, some ⟨12, [(0, 0xFF), (1, 0xFF), (11, 4)]⟩), (⟨3, .evacPlan, 7, .clear⟩, none),
     (⟨3, .glyphPage, 63, .clear⟩, none), (⟨3, .template, 63, .load⟩, some ⟨16, [(0, 13)]⟩), (⟨3, .template, 63, .clear⟩, none)].all
      (fun p => let s := during .staging p.1 p.2 Chain.empty
        takes s 0x04 (closing s) && decide ((crc16 s.crcContent).toNat = num16 (closing s) 0) && s.formatOk p.1 &&
          decide ((s.template 63).use = 0 ∧ 63 ∉ s.templates.entered)) = true := by decide +kernel

theorem witness_CloseCommitsStores_glyphs :
    (let s := during .staging ⟨3, .glyphPage, 63, .load⟩ (some ⟨16, [(0, 1)]⟩) Chain.empty
     takes s 0x04 (closing s) = true ∧ (crc16 s.crcContent).toNat = num16 (closing s) 0 ∧
     s.formatOk ⟨3, .glyphPage, 63, .load⟩ = true) := by decide +kernel

theorem witness_DeferredAndAbandoned :
    (let s := withTemplate (during .staging ⟨3, .template, 9, .clear⟩ none Chain.empty) 9 1 []
     takes s 0x04 (closing s) = true ∧ (crc16 s.crcContent).toNat = num16 (closing s) 0 ∧ 0 < (s.template 9).use ∧
     9 ∈ s.templates.entered) ∧
    [UcState.staging, .deferred, .committing].all (fun st =>
      takes (during st ⟨3, .template, 9, .clear⟩ none Chain.empty) 0x05 []) = true ∧
    takes ready 0x05 [] = true ∧ takes ready 0x05 [0] = true := by decide +kernel

theorem witness_PurgeIsAcceptedOrRefused :
    takes ready 0x09 [0] = true ∧ takes ready 0x09 [] = true ∧ ready.evac.state = .normal ∧ ready.update.txn = none ∧
    takes { ready with evac := { ready.evac with state := .releasing } } 0x09 [] = true ∧
    [UcState.staging, .deferred, .committing].all (fun st =>
      takes (during st ⟨3, .template, 9, .clear⟩ none Chain.empty) 0x09 []) = true := by decide +kernel

theorem witness_AlarmFramesMoveTheSource :
    [[0x07], [0x07, 8], [0x07, 7], [0x07, 0], [0x08], [0x08, 0], [0x00], [0x0A]].all (fun p =>
      takes ready (p.getD 0 0) (p.drop 1) && takes { ready with evac := { ready.evac with trunkZone := some 7 } } (p.getD 0 0) (p.drop 1)) = true ∧
    ready.evac.state = .normal ∧ ready.evac.trunkZone = none ∧ trunkKinds.contains 0x00 = false ∧ trunkKinds.contains 0x0A = false := by
  decide +kernel

/-- Another zone, and no zone, in each state out of NORMAL, with no drawing in flight and with one; the same zone as drawn. -/
theorem witness_AlarmFramesMoveTheSource_looked :
    [EvacState.takeover, .showing, .releasing].all (fun st => [(none : Option Drawing), some .view].all (fun d =>
      [[0x07, 3], [0x07, 5], [0x08]].all (fun p =>
        takes { ready with evac := { ready.evac with state := st, trunkZone := some 5, drawnZone := some 3, drawing := d } }
          (p.getD 0 0) (p.drop 1)))) = true := by decide +kernel

theorem witness_PollReadsItsPage : [[], [0], [1], [2], [3], [255], [0, 0]].all (fun data => takes ready 0x06 data) = true := by
  decide +kernel

theorem witness_PollReadsItsPage_sound : ready.storesCanonical ∧ (∀ p, 64 ≤ p → ready.glyphPage p = none) ∧
    (∀ k, 64 ≤ k → (ready.template k).cells = none) := by
  refine ⟨⟨?_, ?_, ⟨rfl, fun _ => rfl⟩, ⟨rfl, fun _ => rfl⟩, ⟨rfl, fun _ => rfl⟩, ?_, ?_, rfl, rfl⟩, fun _ _ => rfl, fun _ _ => rfl⟩
  all_goals decide +kernel

/-- A face with a request held, a face withdrawn, and a part with no face enabled. -/
def held (h : HeldRequest) : State := onFace ready 1 (fun c => { c with port := { c.port with inProgress := some h } })
def away (st : SupState) : State := onFace ready 1 (fun c => { c with supervisor := ⟨st, .running 100, 0⟩ })
def off : State := { ready with settings := { Settings.default with enabled := Vector.replicate 4 false } }

theorem witness_ports_open : (∀ f : Face, ready.portReady f) ∧ (∀ f : Face, (away .pulse).portOpen f) := by
  unfold State.portReady State.portOpen; decide +kernel

theorem witness_PortCommandsStayOnTheirFace : portCommandOf (.fetch 3 9) = some 3 ∧ portCommandOf (.unknownRequestCode 2 0x05 (req [])) = some 2 ∧
    portCommandOf (.start 0 (req [0, 15])) = some 0 ∧ (∃ t, exec (.start 0 (req [0, 15])) ready = .next t) := ⟨rfl, rfl, rfl, _, rfl⟩

theorem witness_PortRefusesInOrder : requestOf (.start 1 (req [0, 15])) = some (1, 0x21, req [0, 15]) ∧ State.reset.loadEnded = false ∧
    (off.loadEnded = true ∧ off.enabled 1 = false) ∧ ((held .readSlots).face 1).port.inProgress ≠ none ∧
    (away .disabled).withdrawn 1 = true ∧ lengthAllowed 0x21 1 = false ∧ lengthAllowed 0x21 3 = false ∧ lengthAllowed 0x02 1 = false ∧
    [(0x01, 0), (0x22, 1), (0x04, 2), (0x10, 3), (0x41, 4), (0x11, 5), (0x30, 10), (0x12, 14), (0x20, 17), (0x20, 65), (0x25, 3),
      (0x25, 66), (0x32, 4), (0x32, 49)].all (fun p : Byte × Nat => lengthAllowed p.1 p.2) = true ∧
    [(0x20, 16), (0x20, 81), (0x25, 2), (0x25, 67), (0x32, 1), (0x32, 52)].all (fun p : Byte × Nat => !lengthAllowed p.1 p.2) = true ∧
    bareReply .format 0x05 = ⟨.format, 0x05, []⟩ := by decide +kernel

/-- The status byte in each port state, with WITHDRAWN and without, and ATTN with the event masked and not (R70, R159). -/
theorem test_status_byte_and_attn :
    [State.reset, off, held .readSlots, onFace ready 1 (fun c => { c with port := ⟨none, some ⟨.ok, 1, []⟩, []⟩ }), ready,
      away .pulse, away .recovery, away .disabled, away .watch].map (fun s => s.statusByte 1) =
      [3, 4, 1, 2, 0, 0x80, 0x80, 0x80, 0] ∧
    [((0x800 : EventSet), (0x7FF : EventSet)), (0x800, 0x800), (0, 0)].map (fun p =>
      (onFace ready 1 (fun c => { c with latch := p.1, mask := p.2 })).attn 1) = [true, false, false] := by decide +kernel

theorem witness_StatusAndEventsAreAnswered : (req [0x0F, 0xFF]).bytes.length = 2 ∧ (ready.face 0).queue.fault = none ∧
    ((onFace ready 0 (fun c => { c with queue := { c.queue with fault := some ⟨15, 4, some (63, 15), .depth⟩ } })).face 0).queue.fault =
      some ⟨15, 4, some (63, 15), .depth⟩ := by decide +kernel

/-- Languages 3 and 4; map windows at the ends of every range, and past one; palettes of 1 and 16 colours, and one past the end. -/
theorem witness_ContextRequestsAreTakenWhole : num [3] 0 = 3 ∧ 3 < num [4] 0 ∧
    windowOf (word16Of 1079 ++ word16Of 1919 ++ word16Of 4095 ++ word16Of 4095 ++ [7, 16]) = ⟨1079, 1919, 4095, 4095, 7, 16⟩ ∧
    (windowOf (word16Of 1079 ++ word16Of 1919 ++ word16Of 4095 ++ word16Of 4095 ++ [7, 16])).inRange = true ∧
    (windowOf (word16Of 1080 ++ word16Of 0 ++ word16Of 0 ++ word16Of 0 ++ [0, 1])).inRange = false ∧
    (windowOf (word16Of 0 ++ word16Of 0 ++ word16Of 0 ++ word16Of 0 ++ [0, 0])).inRange = false ∧
    (ready.face 0).route = none ∧
    [RouteState.drawing, .drawn, .stale, .gone, .disturbed].all (fun st => decide
      (((onFace ready 0 (fun c => { c with route := some ⟨st, 5, 1, 3, 8, []⟩ })).face 0).route = some ⟨st, 5, 1, 3, 8, []⟩)) = true ∧
    num ([15] ++ [1, 2, 3]) 0 + 1 ≤ 16 ∧ ([0] ++ List.replicate 48 (9 : Byte)).length = 1 + 3 * 16 ∧
    16 < num ([15] ++ List.replicate 6 (1 : Byte)) 0 + 2 := by decide +kernel

/-- WRITE_IMAGE of 64 bytes that ends at the buffer's last byte and one byte past it; WRITE_CELLS of four cells from 15 on, within and
outside an active range, and from 16. -/
theorem witness_BuffersAreWritten :
    (let bs := word16Of 4032 ++ List.replicate 64 (7 : Byte)
     bs.length = 66 ∧ num16 bs 0 + (bs.length - 2) ≤ 4096 ∧ (word16Of 4033 ++ List.replicate 64 (7 : Byte)).length = 66 ∧
     4096 < num16 (word16Of 4033 ++ List.replicate 64 (7 : Byte)) 0 + 64) ∧
    [QueueState.idle, .halted, .pending, .running, .waiting].all (fun st => decide
      (((onFace ready 0 (fun c => { c with queue := queueOf st (cell [9]) 1 })).face 0).queue.state = st)) = true ∧
    ([15] ++ List.replicate 64 (0 : Byte)).length = 1 + 16 * 4 ∧
    (⟨4, 14⟩ : ActiveRange).holds 15 = false ∧ (⟨4, 14⟩ : ActiveRange).holds 3 = false ∧ (⟨4, 14⟩ : ActiveRange).holds 14 = true ∧
    15 < num [16] 0 := by decide +kernel

theorem witness_ResetFaceAppliesOrIsHeld : (running (cell [5]) .expanding []).faceHolds 1 = true ∧
    (running (cell [5]) .expanding []).purgeHolds = false ∧
    ({ ready with arbiter := ⟨some .purge, none, none⟩ } : State).purgeHolds = true ∧ ready.faceHolds 1 = false ∧
    (∀ f : Face, (running (cell [5]) .expanding []).portReady f) := by
  unfold State.portReady State.portOpen; decide +kernel

/-- The three queries with parameters at the ends of their ranges, with no reposition, one in flight, and a purge. -/
theorem witness_ReadsAreAnsweredOrHeld :
    num16 (word16Of 1023 ++ [3]) 0 ≤ 1023 ∧ (ready.entry 1023).state = .free ∧ ((withEntry ready .hidden).entry 5).state ≠ .free ∧
    num [3, 255, 255, 8, 63] 3 ≤ 8 ∧ filterOf 63 = some (some 63) ∧ filterOf 255 = some none ∧
    (let bs : Bytes := [3, 6] ++ (List.replicate 6 [0x0F, 0xFF]).flatten
     bs.length = 14 ∧ num bs 1 = 6 ∧ ((List.range 6).map (fun i => num16 bs (2 + 2 * i))).all (fun k => decide (k < 4096)) = true) ∧
    ((withEntry ready .live).entry 5).image.num 0 ≤ 6 ∧ ((withEntry ready .live).entry 5).image.num (21 + 49 * 3) = 0 ∧
    ((withEntry ready .live).entry 5).image.num 21 ≤ 24 ∧
    ready.orders.reposition = none ∧ ready.purgeHolds = false ∧
    ({ ready with orders := { ready.orders with reposition := some ⟨5, .live, .live⟩ } } : State).orders.reposition ≠ none := by
  decide +kernel

/-- A pixel at a corner of the face within a slot's rectangle, just outside it, and points off the face; queries out of range. -/
theorem witness_SlotsAreReadAndRangesChecked :
    (let s := onFace ready 0 (fun c => { c with cards := c.cards.set 11 (some ⟨.current, 5, 1, ⟨1070, 1910, 10, 10⟩⟩) })
     cardHit 1079 1919 (s.face 0).cards[11] = true ∧ (∀ j : Fin 12, j < 11 → cardHit 1079 1919 (s.face 0).cards[j] = false) ∧
     ∀ j : Fin 12, cardHit 1069 1919 (s.face 0).cards[j] = false) ∧
    num16 (word16Of 1079 ++ word16Of 1919) 2 ≤ 1919 ∧ 1079 < num16 (word16Of 1080 ++ word16Of 0) 0 ∧ 1919 < num16 (word16Of 0 ++ word16Of 1920) 2 ∧
    1023 < num16 (word16Of 1024 ++ [0]) 0 ∧ 3 < num [0, 0, 4] 2 ∧ 8 < num [0, 0, 0, 9, 0] 3 ∧
    (63 < num [0, 0, 0, 1, 64] 4 ∧ num [0, 0, 0, 1, 64] 4 ≠ 0xFF) ∧
    6 < num (7 :: List.replicate 13 7) 1 ∧ 4095 < num16 ([0, 1, 0x10, 0] ++ List.replicate 10 (0 : Byte)) 2 := by decide +kernel

/-- The bytes of a STALE card and of a DISTURBED route, the last of their ranges (R198, R199). -/
theorem test_slot_bytes :
    cardBytes (some ⟨.stale, 1023, 255, ⟨1079, 1919, 1, 1⟩⟩) = [3, 3, 255, 255, 4, 55, 7, 127, 0, 1, 0, 1] ∧
    routeBytes (some ⟨.disturbed, 1023, 255, 3, 8, List.replicate 64 0⟩) = [5, 3, 255, 255, 3, 8, 64] := by decide +kernel

/-- A queue in each state; an APPEND that fills the ring to sixteen, and one that passes it; cells 16. -/
theorem witness_QueueRequestsFollowTheirTables :
    [QueueState.idle, .halted, .pending, .running, .waiting].all (fun st => decide
      (((onFace ready 0 (fun c => { c with queue := queueOf st (cell [9]) 14 })).face 0).queue.state = st)) = true ∧
    (let r : ActiveRange := ⟨0, 14⟩
     (r.last - r.next).val + 1 + ((15 : Fin 16) - r.last).val ≤ 16 ∧ 16 < (r.last - r.next).val + 1 + ((0 : Fin 16) - r.last).val) ∧
    [byteOf (15 : Fin 16).val, byteOf (0 : Fin 16).val] = [15, 0] ∧ 15 < num [16, 0] 0 ∧ 15 < num [0, 16] 1 ∧
    ({ ready with evac := { ready.evac with state := .takeover } } : State).evac.state ≠ .normal := by decide +kernel

theorem witness_FetchDeliversTheReply : ready.loadEnded = true ∧ ready.enabled 0 = true ∧ (ready.face 0).port.reply = none ∧
    ((after (.status 0 (req [])) ready).face 0).port.reply ≠ none ∧ State.reset.loadEnded = false ∧ off.enabled 0 = false := by
  decide +kernel

theorem witness_GrantFollowsItsOrder :
    (let s := { ready with update := { Update.reset with purging := true } }
     s.update.purging = true ∧ s.arbiter.holder ≠ some .purge) ∧
    ready.update.purging = false ∧ ready.evac.state = .normal ∧ (∀ f : Face, (ready.face f).queue.state ≠ .pending) ∧
    ((aging none #v[0, 0, 0, 0]).face 2).queue.state = .pending ∧
    [EvacState.takeover, .showing, .releasing].all (fun st =>
      decide (({ ready with evac := { ready.evac with state := st } } : State).evac.state = st)) = true := by decide +kernel

/-- A queue of face 1 whose next cell is given, and the decision for it. -/
def decided (bytes : Bytes) : State :=
  { onFace (withEntry ready .live) 1 (fun c => { c with queue := queueOf .pending bytes 1 }) with
    arbiter := ⟨none, none, some ⟨.face 1, [1]⟩⟩ }

/-- A CARD of entry 5 at the face's last pixel, the same one pixel too far, a CARD of a FREE entry, a code that names no kind, an END,
a FILL of width 0, and a WAIT_FRAME. -/
theorem witness_FaceGrantBeginsSegment :
    (let card := cell ([5, 0, 0, 5, 11, 9] ++ word16Of 1079 ++ word16Of 1919 ++ word16Of 1 ++ word16Of 1)
     let s := { decided card with templates := ⟨[(9, ⟨some [], 0⟩)], none, []⟩ }
     (s.face 1).queue.range = some ⟨0, 1⟩ ∧ cellOf (s.face 1).queue.ring 0 = card ∧ cellKind card = some .card ∧
     parseSeg .card card = some (.card 5 11 9 ⟨1079, 1919, 1, 1⟩) ∧ (s.entry 5).state = .live ∧ (s.entry 6).state ≠ .live ∧
     (s.template 9).cells.isSome = true) ∧
    parseSeg .card (cell ([5, 0, 0, 5, 11, 9] ++ word16Of 1079 ++ word16Of 1919 ++ word16Of 2 ++ word16Of 1)) =
      some (.card 5 11 9 ⟨1079, 1919, 2, 1⟩) ∧
    parseSeg .card (cell ([5, 0, 0, 6, 0, 9] ++ word16Of 0 ++ word16Of 0 ++ word16Of 1 ++ word16Of 1)) = some (.card 6 0 9 ⟨0, 0, 1, 1⟩) ∧
    cellKind (cell [0]) = none ∧ cellKind (cell [14]) = none ∧ cellKind (cell [13]) = some .endLevel ∧ parseSeg .fill (cell [1]) = none ∧
    (let s := decided (cell [9])
     cellKind (cellOf (s.face 1).queue.ring 0) = some .waitFrame ∧ (s.face 1).queue.stop = false ∧ s.evac.state = .normal ∧
     s.update.state ≠ .deferred ∧ (s.face 1).port.inProgress ≠ some .resetFace) := by decide +kernel

/-- The cells whose work begins at the grant: a FILL to the face's last pixel and one past it, an IMAGE to the buffer's last byte and
one past it, a CALL, a ROUTE, a CLEAR_ROUTE and a CLEAR_SLOT; a template that is EMPTY, in copy, and neither; each state of a route slot. -/
theorem witness_FaceGrantBeginsSegment_work :
    [(cell ([1, 0, 0, 3, 3, 0] ++ word16Of 0 ++ word16Of 0 ++ word16Of 1080 ++ word16Of 1920),
        Seg.fill .map .xor 3 ⟨0, 0, 1080, 1920⟩, some (Layer.map, Combine.xor, Shape.solid 3, Rect.mk 0 0 1080 1920, true)),
      (cell ([2, 0, 1, 0, 3, 8] ++ word16Of 1 ++ word16Of 0 ++ word16Of 1080 ++ word16Of 1),
        .frame .card .replace 3 8 ⟨1, 0, 1080, 1⟩, some (.card, .replace, .outline 8 3, ⟨1, 0, 1080, 1⟩, true)),
      (cell ([3, 0, 0, 0, 0, 1] ++ word16Of 0 ++ word16Of 0 ++ word16Of 4 ++ word16Of 1 ++ word16Of 4095),
        .image .map .replace true ⟨0, 0, 4, 1⟩ 4095, some (.map, .replace, .image 4095 true, ⟨0, 0, 4, 1⟩, true)),
      (cell ([3, 0, 0, 0, 0, 1] ++ word16Of 0 ++ word16Of 0 ++ word16Of 5 ++ word16Of 1 ++ word16Of 4095),
        .image .map .replace true ⟨0, 0, 5, 1⟩ 4095, some (.map, .replace, .image 4095 true, ⟨0, 0, 5, 1⟩, false)),
      (cell ([4, 0, 0, 0, 0, 63] ++ word16Of 1079 ++ word16Of 1919), .call 63 1079 1919, none),
      (cell [6, 0, 3, 255, 3, 8], .route 1023 3 8, none), (cell [7], .clearRoute, none), (cell [8, 0, 0, 0, 11, 3], .clearSlot 11 3, none)].all
      (fun p => let s := decided p.1
        decide ((s.face 1).queue.range = some ⟨0, 1⟩ ∧ cellOf (s.face 1).queue.ring 0 = p.1 ∧ (s.face 1).queue.stack = [] ∧
          (cellKind p.1).bind (fun k => parseSeg k p.1) = some p.2.1 ∧ p.2.1.plain = p.2.2)) = true ∧
    (let s := { ready with templates := ⟨[(8, ⟨some [], 0⟩), (9, ⟨some [], 0⟩)], some 8, []⟩ }
     (s.template 7).cells = none ∧ (s.template 8).cells ≠ none ∧ (s.template 9).cells ≠ none ∧ s.templates.copying = some 8) ∧
    [RouteState.drawing, .drawn, .stale, .gone, .disturbed].all (fun st => decide
      (((onFace ready 1 (fun c => { c with route := some ⟨st, 5, 1, 3, 8, []⟩, cards := c.cards.set 11 (some ⟨.gone, 5, 1, ⟨0, 0, 1, 1⟩⟩) })).face 1).route =
        some ⟨st, 5, 1, 3, 8, []⟩)) = true ∧
    (ready.face 1).cards[11] = none := by decide +kernel

/-- A level at a template cell, with a budget. -/
def atCell (bytes : Bytes) (budget : Nat) (below : List Level) : State :=
  withTemplate (running (cell [4]) .expanding (⟨9, 0, none, 10, 20, budget⟩ :: below)) 9 1 bytes

/-- A snapshot of entry 214 with each selector's value. -/
def snap : Snapshot := ⟨214, .live, 12, [3], 7, 63, .absent, #v[some [1], none, none, none]⟩

theorem witness_SelectContinuesAtItsCell :
    [0, 1, 2, 3].all (fun (k : Nat) =>
      let bytes := cell [11, 0, byteOf k, 0, 8]
      let s := onFace (atCell bytes 1 []) 1 (fun c => { c with snapshot := some snap })
      decide (s.engine.segment.map Segment.stage = some .expanding ∧ s.engine.jobs = [] ∧ (s.face 1).snapshot = some snap ∧
        cellOf ((s.template 9).cells.getD []) 0 = bytes ∧ cellKind bytes = some .select) &&
      (parseSeg .select bytes).isSome) = true := by decide +kernel

theorem witness_TemplateCellsRun :
    [cell [0], cell [9], cell [5], cell [10], cell [1], cell [12, 0, 0, 0, 15], cell [13], cell [4, 0, 0, 0, 0, 9]].all (fun bytes =>
      [0, 1, 32].all (fun budget => [[], [⟨9, 15, none, 0, 0, 1⟩], List.replicate 3 ⟨9, 15, some 0, 0, 0, 1⟩].all (fun below =>
        let s := atCell bytes budget below
        decide (s.engine.segment.map Segment.stage = some .expanding ∧ s.engine.jobs = [] ∧
          (s.face 1).queue.stack = ⟨9, 0, none, 10, 20, budget⟩ :: below ∧ cellOf ((s.template 9).cells.getD []) 0 = bytes)))) = true ∧
    cellKind (cell [0]) = none ∧ cellKind (cell [9]) = some .waitFrame ∧ cellKind (cell [5]) = some .card ∧
    cellKind (cell [10]) = some .textField ∧ ((atCell (cell [5]) 1 []).face 1).snapshot = none ∧ parseSeg .fill (cell [1]) = none ∧
    parseSeg .goto (cell [12, 0, 0, 0, 15]) = some (.goto 15) ∧ cellKind (cell [13]) = some .endLevel ∧
    parseSeg .call (cell [4, 0, 0, 0, 0, 9]) = some (.call 9 0 0) ∧ ((atCell (cell [4]) 1 []).template 9).cells ≠ none ∧
    ((atCell (cell [4]) 1 []).template 8).cells = none ∧
    parseSeg .fill (cell ([1, 0, 1, 0, 3, 0] ++ word16Of 0 ++ word16Of 0 ++ word16Of 1070 ++ word16Of 1900)) =
      some (.fill .card .replace 3 ⟨0, 0, 1070, 1900⟩) ∧
    parseSeg .fill (cell ([1, 0, 1, 0, 3, 0] ++ word16Of 0 ++ word16Of 0 ++ word16Of 1071 ++ word16Of 1)) =
      some (.fill .card .replace 3 ⟨0, 0, 1071, 1⟩) := by decide +kernel

/-- A TEXT_FIELD to the face's corner and one past it, in a template with a snapshot. -/
theorem witness_TemplateCellsRun_text :
    [(cell ([10, 0, 0, 0, 3, 2] ++ word16Of 22 ++ word16Of 1852 ++ word16Of 1048), true),
      (cell ([10, 0, 1, 1, 0, 1] ++ word16Of 23 ++ word16Of 0 ++ word16Of 1048), false)].all (fun p =>
      let s := onFace (atCell p.1 1 []) 1 (fun c => { c with snapshot := some snap })
      decide ((s.face 1).snapshot = some snap ∧ s.engine.jobs = [] ∧ cellOf ((s.template 9).cells.getD []) 0 = p.1) &&
      (match parseSeg .textField p.1 with
       | some (.textField _ _ _ scale x y width) => decide (10 + x + width ≤ 1080 ∧ 20 + y + 24 * scale ≤ 1920) == p.2
       | _ => false)) = true := by decide +kernel

/-- A TEXT_FIELD of scale 3 and a SELECT of n 9, in a template with a snapshot: out of range (R103). -/
theorem witness_TemplateCellsRun_range :
    [(cell ([10, 0, 0, 0, 3, 3] ++ word16Of 0 ++ word16Of 0 ++ word16Of 24), Kind.textField), (cell [11, 0, 0, 0, 9], .select)].all (fun p =>
      let s := onFace (atCell p.1 1 []) 1 (fun c => { c with snapshot := some snap })
      decide ((s.face 1).snapshot ≠ none ∧ s.engine.jobs = [] ∧ cellOf ((s.template 9).cells.getD []) 0 = p.1 ∧
        cellKind p.1 = some p.2) && (parseSeg p.2 p.1).isNone) = true := by decide +kernel

/-- An IMAGE past the buffer and a map-layer FILL; a language slot with RTL and an ellipsis; a field of no position and one of one. -/
theorem witness_TemplateCellsRun_plain :
    (Seg.image .card .and false ⟨0, 0, 5, 1⟩ 4095).plain = some (.card, .and, .image 4095 false, ⟨0, 0, 5, 1⟩, false) ∧
    (Seg.fill .map .or 1 ⟨0, 0, 1, 1⟩).plain = some (.map, .or, .solid 1, ⟨0, 0, 1, 1⟩, true) ∧
    Mem.num [(0, 1), (3, 9)] 0 = 1 ∧ Mem.num16 [(0, 1), (3, 9)] 2 = 9 ∧
    layoutText true (some 9) 0 23 24 [1] = [] ∧ layoutText true (some 9) 0 24 24 [1, 2] = [(9, 0)] :=
  ⟨rfl, rfl, by decide, by decide, by decide, by decide⟩

/-- The last pixel of a face, in each shape; and a run of 32 that ends at the row's end, with XOR. -/
theorem witness_PixelPathWritesItsPixel : (1079 : Nat) + 0 < 1080 ∧ (1919 : Nat) + 0 < 1920 ∧ 1040 + 8 + 32 ≤ 1080 ∧
    (⟨3, .map, .xor, .solid 3, ⟨1040, 1919, 40, 1⟩, 8⟩ : Plot).combine = .xor ∧
    (⟨3, .map, .xor, .outline 8 3, ⟨1079, 1919, 1, 1⟩, 0⟩ : Plot).shape = .outline 8 3 ∧
    (⟨3, .map, .xor, .image 4095 true, ⟨1079, 1919, 1, 1⟩, 0⟩ : Plot).shape = .image 4095 true := by decide

/-- Pairs of placed waypoints that add a pixel and that do not: a line's brush, a level's marker at its last column and one past it,
and two waypoints off the level. -/
theorem witness_PixelPathWritesItsPixel_route :
    pairAdds 8 ⟨true, 540, 960⟩ ⟨true, 540, 1060⟩ 544 1010 ∧ pairAdds 8 ⟨true, 640, 1060⟩ ⟨false, 640, 1060⟩ 647 1060 ∧
    ¬pairAdds 8 ⟨true, 640, 1060⟩ ⟨false, 640, 1060⟩ 648 1060 ∧ ¬pairAdds 8 ⟨false, 0, 0⟩ ⟨false, 0, 0⟩ 0 0 := by
  refine ⟨⟨100, 50, 0, 50, by decide, by decide, ?_, ?_, ?_⟩, ?_, ?_, fun h => h⟩
  · unfold isStep; decide
  · unfold isStep; decide
  all_goals (simp only [pairAdds, inSquare]; omega)

/-- A plot of 40 by 2 pixels with all of it to write, with its last 8, and with its last row's first 32; each stage the work ends. -/
theorem witness_PixelGroupWritesAdvance :
    [0, 40, 72].all (fun passed =>
      let p : Plot := ⟨1, .card, .replace, .solid 1, ⟨0, 0, 40, 2⟩, passed⟩
      [Stage.drawing, .routing, .clearing 11, .erasing, .expanding].all (fun st =>
        let s := running (cell [1]) st [⟨9, 15, none, 0, 0, 1⟩]
        let s := { s with engine := { s.engine with jobs := [.plot p] } }
        decide (s.engine.glyphHeld = false ∧ s.engine.jobs = [.plot p] ∧ s.engine.segment.map Segment.stage = some st))) = true ∧
    72 + min (min 32 32) (40 - 72 % 40) = 40 * 2 ∧ 0 + min (min 33 32) (40 - 0 % 40) = 32 ∧
    ({ ready with glyphs := ⟨[], some 63⟩ } : State).glyphs.copying = some (4095 / 64) ∧
    ({ ready with glyphs := ⟨[], some 63⟩ } : State).glyphRequest 4095 = none ∧ (ready.glyphRequest 4095).isSome = true ∧
    ({ ready with glyphs := ⟨[(0, some []), (63, some [])], some 0⟩ } : State).glyphRequest 64 = none ∧
    ({ ready with glyphs := ⟨[(0, some []), (63, some [])], some 0⟩ } : State).glyphPage 63 = some [] := by decide +kernel

/-- A message of 30 codes in an RTL slot with an ellipsis: 21 positions from the right edge, the ellipsis last (R179). -/
theorem witness_PixelGroupWritesAdvance_message :
    (let s := { ready with languages := ready.languages.set 3 (some [(0, 1), (3, 9)])
                           engine := ⟨none, [.message 1 3 (List.replicate 30 5)], false⟩ }
     s.engine.jobs = [.message 1 3 (List.replicate 30 5)] ∧ s.engine.glyphHeld = false ∧ s.languageLayout 3 = (true, some 9)) ∧
    (layoutText true (some 9) 24 1032 48 (List.replicate 30 5)).length = 21 ∧
    (layoutText true (some 9) 24 1032 48 (List.replicate 30 5)).head? = some (5, 1008) ∧
    (layoutText true (some 9) 24 1032 48 (List.replicate 30 5)).getLast? = some (9, 48) := by decide +kernel

theorem witness_EraseEndLeavesNone :
    [cell [7], cell [6, 0, 0, 5, 3, 8]].all (fun bytes =>
      let s := running bytes .erasing []
      decide (s.engine.segment = some ⟨1, 0, cellKind bytes, 0, .erasing, none, false, false⟩ ∧ s.engine.jobs = [] ∧
        cellOf (s.face 1).queue.ring 0 = bytes)) = true ∧
    cellKind (cell [7]) = some .clearRoute ∧ parseSeg .route (cell [6, 0, 0, 5, 3, 8]) = some (.route 5 3 8) ∧
    ((withEntry (running (cell [6, 0, 0, 5, 3, 8]) .erasing []) .live).entry 5).state = .live ∧
    ((running (cell [6, 0, 0, 5, 3, 8]) .erasing []).entry 5).state ≠ .live := by decide +kernel

/-- A segment that has done its work, one that has failed, one in a cut, a deferred load of a template with one level in it, and a
held RESET_FACE. -/
theorem witness_SegmentsEndAsTheTableGives :
    (let s := running (cell [5]) .finished []
     s.engine.segment.map Segment.stage = some .finished ∧ (s.face 1).queue.range = some ⟨0, 1⟩ ∧ cellKind (cell [5]) ≠ some .waitFrame ∧
     s.update.state ≠ .deferred ∧ (s.face 1).port.inProgress ≠ some .resetFace) ∧
    (running (cell [5]) (.failed .runaway) []).engine.segment.map Segment.stage = some (.failed .runaway) ∧
    ({ ready with evac := { ready.evac with cutoff := .running 40 } } : State).evac.cutoff = .running 40 ∧ ready.engine.segment = none ∧
    (let s := withTemplate (running (cell [5]) .finished [⟨9, 0, none, 0, 0, 1⟩]) 9 1 []
     let s := { s with update := (during .deferred ⟨3, .template, 9, .load⟩ (some ⟨256, []⟩) Chain.empty).update }
     s.update.state = .deferred ∧ (s.template 9).use = (s.face 1).queue.stack.countP (fun l => l.template == 9)) ∧
    ((onFace (running (cell [5]) .finished []) 1 (fun c => { c with port := ⟨some .resetFace, none, []⟩ })).face 1).port.inProgress =
      some .resetFace := by decide +kernel

/-- A deferred LOAD and CLEAR, each with a held RESET_FACE and without, at a completion, a fault and a cut. -/
theorem witness_SegmentsEndAsTheTableGives_released :
    [Stage.finished, .failed .runaway, .drawing].all (fun st => [Op.load, .clear].all (fun op =>
      [none, some HeldRequest.resetFace].all (fun h =>
        let s := onFace (withTemplate (running (cell [5]) st [⟨9, 0, none, 0, 0, 1⟩]) 9 1 []) 1 (fun c => { c with port := ⟨h, none, []⟩ })
        let s := { s with update := (during .deferred ⟨3, .template, 9, op⟩ none Chain.empty).update
                          evac := { s.evac with cutoff := .running 40 } }
        decide (s.engine.segment.map Segment.stage = some st ∧ s.update.state = .deferred ∧ s.evac.cutoff = .running 40 ∧
          s.update.txn = some ⟨3, .template, 9, op⟩ ∧ (s.face 1).port.inProgress = h ∧ s.enabled 1 = true ∧
          (s.template 9).use = (s.face 1).queue.stack.countP (fun l => l.template == 9))))) = true := by decide +kernel

theorem witness_KeysAreComparedCodeByCode : ([] : List Nat) ≠ [0] ∧ (0 : Nat) ≠ 1023 := by decide

/-- A reposition with a held query of each kind, a held request of another kind, and none. -/
theorem witness_RepositionEndsTheCommit :
    [HeldRequest.readEntry 5 3, .readEntry 6 0, .listWindow 0 65535 8 none, .findPrefix 3 [4095], .readSlots, .hitTest 0 0, .resetFace].all (fun h =>
      let s := onFace (withEntry (during .committing ⟨3, .entry, 5, .put⟩ none Chain.empty) .live) 1
        (fun c => { c with port := ⟨some h, none, []⟩ })
      let s := { s with orders := ⟨Vector.replicate 4 [], some ⟨5, .free, .live⟩⟩ }
      decide (s.orders.reposition = some ⟨5, .free, .live⟩ ∧ s.update.txn ≠ none ∧ (s.face 1).port.inProgress = some h ∧
        5 ∉ s.orders.lists[(0 : Fin 4)] ∧ (s.entry 5).state ≠ .free ∧ (s.entry 6).state = .free)) = true := by decide +kernel

/-- Copies into page 63 and template 63, with a held request for the page's last code and with a push that waits. -/
theorem witness_CopiesEndTheirCommits :
    (let s := during .committing ⟨3, .glyphPage, 63, .load⟩ (some ⟨4608, [(0, 1)]⟩) Chain.empty
     let s := { s with glyphs := ⟨[(63, some [])], some 63⟩
                       engine := ⟨none, [.text ⟨1, .replace, 2, 2, 96, [(4095, 24)]⟩], true⟩ }
     s.glyphs.copying = some 63 ∧ s.update.image = some ⟨4608, [(0, 1)]⟩ ∧ s.engine.glyphHeld = true ∧ 4095 / 64 = 63) ∧
    (let s := { running (cell [4, 0, 0, 0, 0, 63]) (.pushing 63 0 0 none) [] with
        update := (during .committing ⟨3, .template, 63, .load⟩ (some ⟨256, [(0, 13)]⟩) Chain.empty).update
        templates := ⟨[(63, ⟨some [], 0⟩)], some 63, []⟩ }
     s.templates.copying = some 63 ∧ s.engine.segment.map Segment.stage = some (.pushing 63 0 0 none)) ∧
    ready.engine.segment = none := by decide +kernel

theorem witness_PurgeClearsTheStores :
    (let s := { ready with arbiter := ⟨none, some 3, some ⟨.purge, []⟩⟩ }
     s.arbiter.holder = none ∧ s.arbiter.decision = some ⟨.purge, []⟩) ∧
    [HeldRequest.readSlots, .listWindow 0 0 1 none, .resetFace].all (fun h =>
      let s := { held h with arbiter := ⟨some .purge, some 3, none⟩ }
      decide (s.arbiter.holder = some .purge ∧ (s.face 1).port.inProgress = some h ∧ s.enabled 1 = true)) = true ∧ off.enabled 1 = false := by
  decide +kernel

theorem witness_FrameStartPacesItsFace : ready.loadEnded = true ∧ ready.enabled 1 = true ∧ ready.arbiter.holder = none ∧
    [PaletteSource.face, .evacuation].all (fun src => [QueueState.waiting, .idle].all (fun st => [(0 : Fin 16), 1].all (fun last =>
      let s := onFace ready 1 (fun c => { c with palette := { c.palette with source := src }, queue := queueOf st (cell [9, 0x80]) last })
      decide ((s.face 1).palette.source = src ∧ (s.face 1).queue.state = st ∧ (s.face 1).queue.range = some ⟨0, last⟩) &&
        cellNotify (cellOf (s.face 1).queue.ring 0)))) = true := by decide +kernel

/-- Every supervisor state with a timer; a count one below the limit of 3 and at the one before. -/
theorem witness_SupervisorFollowsItsTables :
    [SupState.off, .watch, .pulse, .recovery, .disabled].all (fun st =>
      decide (((away st).face 1).supervisor.state = st ∧ ((away st).face 1).supervisor.timer = .running 100)) = true ∧
    1 + 1 < Settings.default.pulseLimit ∧ Settings.default.pulseLimit ≤ 2 + 1 := by decide +kernel

theorem witness_PulseExpiryEntersRecovery : ((away .pulse).face 1).supervisor.timer = .running 100 ∧
    (let s := running (cell [5]) .finished []
     let s := { s with engine := { s.engine with segment := some ⟨1, 0, some .card, 0, .finished, none, false, true⟩ } }
     s.engine.segment = some ⟨1, 0, some .card, 0, .finished, none, false, true⟩ ∧ s.evac.state ≠ .takeover ∧
     (s.face 1).port.inProgress ≠ some .resetFace) := by decide +kernel

theorem witness_LineSourceFollowsThePin :
    [(true, true), (false, true), (true, false), (false, false)].all (fun p =>
      [EvacState.normal, .takeover, .showing, .releasing].all (fun st =>
        let s := { ready with evac := { ready.evac with state := st, asserted := p.1, lineLow := p.2, debounce := .running 20 } }
        decide (s.evac.debounce = .running 20 ∧ s.evac.asserted = p.1 ∧ s.evac.lineLow = p.2 ∧ s.evac.state = st ∧
          s.evac.drawing = none ∧ s.evac.trunkZone = none))) = true := by decide +kernel

theorem witness_EcGrantStartsTheView :
    (let s := { ready with arbiter := ⟨none, none, some ⟨.ec, []⟩⟩ }
     s.arbiter.holder = none ∧ s.arbiter.decision = some ⟨.ec, []⟩ ∧ s.evac.plans[s.shownZone] = none) ∧
    (let s := { ready with evac := { ready.evac with trunkZone := some 7, plans := ready.evac.plans.set 7 (some planBlank) } }
     s.evac.plans[s.shownZone] = some planBlank) := by decide +kernel

/-- The marker at the face's first and last pixel: cut to it (R178). -/
theorem test_marker_rect : markerRect ⟨0, 0, 0, 0, 0, 1⟩ = ⟨0, 0, 16, 16⟩ ∧ markerRect ⟨1079, 1919, 0, 0, 0, 1⟩ = ⟨1063, 1903, 17, 17⟩ ∧
    markerRect ⟨540, 960, 0, 0, 0, 1⟩ = ⟨524, 944, 32, 32⟩ := by decide

/-- Drawings whose last pixel is written, wanted and not; a plan with messages for languages 0 and 2, and one with only its own. -/
theorem witness_EvacuationDrawingsEnd :
    [(EvacState.takeover, Drawing.view), (.showing, .view), (.showing, .band), (.releasing, .blank)].all (fun p =>
      [false, true].all (fun want => [false, true].all (fun redraw =>
        let s := { ready with arbiter := ⟨some .ec, none, none⟩
                              evac := { ready.evac with state := p.1, drawing := some p.2, asserted := want, redraw := redraw } }
        decide (s.arbiter.holder = some .ec ∧ s.engine.jobs = [] ∧ s.evac.drawing = some p.2 ∧ s.evacWanted = want ∧
          s.evac.redraw = redraw)))) = true ∧
    (let plan : Mem := [(0, 0xFF), (1, 0xFF), (11, 4), (60, 1), (62, 1), (182, 1), (184, 2)]
     let s := { ready with evac := { ready.evac with state := .showing, cycle := .running 4000, drawnZone := some 7, language := some 0
                                                     plans := ready.evac.plans.set 7 (some plan) } }
     s.evac.plans[(7 : Fin 8)] = some plan ∧ (planMessage plan 2).isSome = true ∧ planMessage plan 1 = none ∧ planMessage plan 3 = none ∧
     ready.evac.language = none) := by decide +kernel

/-! ### A part at work, for the invariants -/

/-- Entry 5 LIVE with a route in block 0, in every list; template 2 in use by face 1, which holds the engine for a CARD in slot 3. -/
def atWork : State :=
  let s := running (cell [5, 0, 0, 5, 3, 2]) .expanding [⟨2, 0, none, 0, 0, 32⟩]
  let s := onFace s 1 (fun c => { c with cards := c.cards.set 3 (some ⟨.drawing, 5, 1, ⟨0, 0, 9, 9⟩⟩), snapshot := some snap })
  { s with
    directory := [(5, ⟨.live, 1, goodImage 2, some ⟨[0], 2⟩⟩)]
    routes := ⟨[0], []⟩
    orders := ⟨Vector.replicate 4 [5], none⟩
    templates := ⟨[(2, ⟨some [(0, 13)], 1⟩)], none, [2]⟩ }

/-- A command at its front, which a step takes. -/
theorem witness_step_at_work : ∃ t, step { atWork with pending := [.templateCellStep] } = .next t := ⟨_, rfl⟩

theorem atWork_entry (n : Nat) : atWork.entry n = if 5 = n then ⟨.live, 1, goodImage 2, some ⟨[0], 2⟩⟩ else Entry.free := rfl

theorem atWork_template (k : Nat) : atWork.template k = if 2 = k then ⟨some [(0, 13)], 1⟩ else Template.empty := rfl

theorem witness_EngineSound : atWork.EngineSound where
  running := by decide +kernel
  segment := by decide +kernel
  decision := fun d h => by cases h
  evacHolds := by decide +kernel
  halted := by decide +kernel
  decided := by decide +kernel

theorem witness_StacksSound : atWork.StacksSound where
  engine := witness_EngineSound
  holderOnly := by decide +kernel
  depth := by decide +kernel
  room := fun g h => by cases h; trivial
  uses := fun t => by
    rw [atWork_template]
    by_cases h : 2 = t
    · subst h; decide +kernel
    · have e : ∀ f : Face, ((atWork.face f).queue.stack.countP (fun l => l.template == t)) = 0 := by
        intro f
        have : (atWork.face f).queue.stack = if f = 1 then [⟨2, 0, none, 0, 0, 32⟩] else [] := by revert f; decide +kernel
        rw [this]
        split <;> simp [h]
      simp [h, Template.empty, State.levelsIn, e]

theorem witness_SlotsSound : atWork.SlotsSound where
  cards := fun f i card h _ => by
    have key : ∀ (f : Face) (i : Fin 12), (atWork.face f).cards[i] = none ∨
        (atWork.face f).cards[i] = some ⟨.drawing, 5, 1, ⟨0, 0, 9, 9⟩⟩ := by decide +kernel
    rcases key f i with k | k
    · rw [k] at h; cases h
    · rw [k] at h; cases h; exact ⟨rfl, rfl⟩
  routes := fun f r h _ => by
    have key : ∀ f : Face, (atWork.face f).route = none := by decide +kernel
    rw [key f] at h; cases h

theorem witness_storesCanonical : atWork.storesCanonical := by
  refine ⟨by decide +kernel, by decide +kernel, ⟨by decide +kernel, fun n => ?_⟩, ⟨rfl, fun _ => rfl⟩, ⟨by decide +kernel, fun t => ?_⟩,
    by decide +kernel, by decide +kernel, by decide +kernel⟩
  · rw [atWork_entry]; split <;> decide
  · rw [atWork_template]; split <;> decide

/-- A staging chain of `n` waypoints in the first blocks, and an entry's route in block 100. -/
def staged (n : Nat) : State :=
  { during .staging ⟨3, .entry, 6, .put⟩ (some ⟨217, entryBlank⟩) ⟨List.range ((n + 7) / 8), n⟩ with
    directory := [(5, ⟨.live, 1, goodImage 2, some ⟨[100], 2⟩⟩)]
    routes := ⟨List.range ((n + 7) / 8) ++ [100], []⟩ }

theorem staged_route (n k : Nat) (chain : Chain) (h : ((staged n).entry k).route = some chain) : k = 5 ∧ chain = ⟨[100], 2⟩ := by
  have e : (staged n).entry k = if 5 = k then ⟨.live, 1, goodImage 2, some ⟨[100], 2⟩⟩ else Entry.free := rfl
  rw [e] at h
  split at h
  · next hk => exact ⟨hk.symm, by cases h; rfl⟩
  · cases h

theorem ready_EngineSound : ready.EngineSound where
  running := by decide +kernel
  segment := by decide +kernel
  decision := fun d h => by cases h
  evacHolds := by decide +kernel
  halted := by decide +kernel
  decided := by decide +kernel

/-- The engine of a staged part is that of a part in service: staging touches nothing EA looks at. -/
theorem staged_EngineSound (n : Nat) : (staged n).EngineSound where
  running := ready_EngineSound.running
  segment := ready_EngineSound.segment
  decision := fun d h => by cases h
  evacHolds := ready_EngineSound.evacHolds
  halted := ready_EngineSound.halted
  decided := ready_EngineSound.decided

theorem witness_RoutesSound (n : Nat) (h : n ≤ 64) : (staged n).RoutesSound where
  commit := ⟨staged_EngineSound n, ⟨fun h => (by cases h), fun h => (by cases h)⟩,
    fun h => (by rcases h with h | h | h <;> cases h), ⟨fun h => (by cases h.1), fun h => (by cases h.1), fun h => (by cases h.1)⟩⟩
  blocks := by
    refine ⟨?_, ?_⟩
    · simp only [staged, List.nodup_append, List.nodup_range, true_and]
      refine ⟨by simp, ?_⟩
      intro a ha b hb
      simp at ha hb
      omega
    · intro b hb
      simp only [staged, List.mem_append, List.mem_range, List.mem_singleton] at hb
      simp only [Config.blockCount]
      omega
  held := by
    intro b
    constructor
    · intro hb
      simp only [staged, List.mem_append, List.mem_singleton] at hb
      rcases hb with hb | hb
      · exact Or.inl hb
      · exact Or.inr ⟨5, ⟨[100], 2⟩, rfl, by simp [hb]⟩
    · rintro (hb | ⟨k, chain, hk, hb⟩)
      · exact List.mem_append_left _ hb
      · obtain ⟨_, rfl⟩ := staged_route n k chain hk
        exact List.mem_append_right _ hb
  apart := by
    intro k m chain other hne h1 h2
    exact absurd ((staged_route n k chain h1).1.trans (staged_route n m other h2).1.symm) hne
  stagedApart := by
    intro k chain h1 b hb hc
    obtain ⟨_, rfl⟩ := staged_route n k chain h1
    simp only [List.mem_singleton] at hb
    simp only [staged, during, List.mem_range] at hc
    omega
  built := by
    refine ⟨⟨List.nodup_range, by simp [staged, during], h⟩, ?_⟩
    intro k chain h1
    obtain ⟨_, rfl⟩ := staged_route n k chain h1
    unfold Chain.wellBuilt; decide
  staging := fun _ => ⟨rfl, rfl⟩

/-- A first waypoint, the last of a block, the first of the next, and the sixty-fourth. -/
theorem witness_StagedWaypointEndsTheRoute : [0, 7, 8, 63].all (fun n =>
    decide (n < 64) && (stageWaypoint 0x99067002 ((staged n).routes, (staged n).update.chain)).isSome) = true := by decide +kernel

/-- Every block out of the free set: at a full last block none is staged, and one waypoint short of it one is (R13). -/
theorem test_no_block_to_give :
    stageWaypoint 0 (⟨List.range 512, []⟩, ⟨[0], 8⟩) = none ∧ (stageWaypoint 0 (⟨List.range 512, []⟩, ⟨[0], 7⟩)).isSome = true := by
  decide +kernel

theorem witness_ListsSound : atWork.ListsSound where
  commit := ⟨witness_EngineSound, by decide +kernel, by decide +kernel, by decide +kernel⟩
  live := fun l n => by
    have e : atWork.settled l = [5] := by revert l; decide +kernel
    have m : atWork.moving = none := rfl
    rw [e, m, atWork_entry]
    by_cases h : 5 = n
    · subst h; simp
    · simp [h, Entry.free]; exact fun k => h k.symm
  sorted := by
    intro l
    have e : atWork.settled l = [5] := by revert l; decide +kernel
    rw [e]; exact List.pairwise_singleton _ _
  mover := fun r h => by cases h

end Sys2Proof.Tests
end

section
/-! PROOFS. What a taken trunk frame leaves: each command of chapter 2 hears its feed, acts on the frame's data, and keeps the reply
for the turnaround. -/

namespace Sys2Proof.Machine.UpdateTransactions

open Sys2Proof Sys2Proof.Machine

/-! ### A taken frame -/

/-- A frame of the command's own kind: its action's state, with the action's reply kept as the address asks (R188, R189). -/
theorem trunkFrame_answers {s t : State} {feed : Feed} {tr : Trunk} {fr : Frame} {mine : Byte → Bool}
    {act : State → Bytes → State × TrunkReply} {r : TrunkReply} (heard : s.heard feed = (tr, some fr))
    (kind : mine fr.kind = true) (acts : act { s with trunk := tr } fr.data = (t, r)) :
    s.trunkFrame feed mine act = t.modTrunk (fun u => u.answered fr.address r) := by
  unfold State.trunkFrame
  rw [heard]
  simp only [kind, if_true, State.actOn, acts, Trunk.answered]
  split <;> rfl

/-- A frame whose action refuses it changes the receiver alone (R31, R190). -/
theorem trunkFrame_refuses {s : State} {feed : Feed} {tr : Trunk} {fr : Frame} {mine : Byte → Bool}
    {act : State → Bytes → State × TrunkReply} {reason : NakReason} (heard : s.heard feed = (tr, some fr))
    (kind : mine fr.kind = true) (refuses : act { s with trunk := tr } fr.data = State.nak { s with trunk := tr } reason) :
    s.trunkFrame feed mine act = { s with trunk := tr.answered fr.address (.nak s.replyTag reason) } :=
  trunkFrame_answers heard kind refuses

/-! ### The commands -/

theorem exec_openFrame (feed : Feed) (s : State) :
    exec (.openFrame feed) s = .next (s.trunkFrame feed (· == 0x01) State.openTxn) := rfl

theorem exec_chunkFrame (feed : Feed) (s : State) :
    exec (.chunkFrame feed) s = .next (s.trunkFrame feed (· == 0x02) State.chunk) := rfl

theorem exec_closeFrame (feed : Feed) (s : State) :
    exec (.closeFrame feed) s = .next (s.trunkFrame feed (· == 0x04) State.close) := rfl

theorem exec_abandonFrame (feed : Feed) (s : State) :
    exec (.abandonFrame feed) s = .next (s.trunkFrame feed (· == 0x05) (withLength 0 (fun t _ => t.abandon))) := rfl

theorem exec_purgeFrame (feed : Feed) (s : State) :
    exec (.purgeFrame feed) s = .next (s.trunkFrame feed (· == 0x09) (withLength 0 (fun t _ => t.purge))) := rfl

/-- A frame whose kind carries no data, and that brings none, is acted on (R189). -/
theorem emptyFrame_answers {s t : State} {feed : Feed} {tr : Trunk} {fr : Frame} {mine : Byte → Bool}
    {act : State → State × TrunkReply} {r : TrunkReply} (heard : s.heard feed = (tr, some fr)) (kind : mine fr.kind = true)
    (empty : fr.data = [])
    (acts : act { s with trunk := tr } = (t, r)) :
    s.trunkFrame feed mine (withLength 0 (fun u _ => act u)) = t.modTrunk (fun u => u.answered fr.address r) :=
  trunkFrame_answers heard kind (by simp [withLength, empty, acts])

theorem emptyFrame_refuses {s : State} {feed : Feed} {tr : Trunk} {fr : Frame} {mine : Byte → Bool}
    {act : State → State × TrunkReply} {reason : NakReason} (heard : s.heard feed = (tr, some fr)) (kind : mine fr.kind = true)
    (empty : fr.data = [])
    (refuses : act { s with trunk := tr } = State.nak { s with trunk := tr } reason) :
    s.trunkFrame feed mine (withLength 0 (fun u _ => act u)) =
      { s with trunk := tr.answered fr.address (.nak s.replyTag reason) } :=
  emptyFrame_answers heard kind empty refuses

/-- A frame whose kind carries no data is refused with FORMAT if it brings some (R189). -/
theorem emptyFrame_length {s : State} {feed : Feed} {tr : Trunk} {fr : Frame} {mine : Byte → Bool}
    {act : State → State × TrunkReply}
    (heard : s.heard feed = (tr, some fr)) (kind : mine fr.kind = true) (data : fr.data ≠ []) :
    s.trunkFrame feed mine (withLength 0 (fun u _ => act u)) =
      { s with trunk := tr.answered fr.address (.nak s.replyTag .format) } :=
  trunkFrame_refuses heard kind (by simp [withLength, data])

/-! ### The tag of a reply, and the end of a transaction -/

theorem replyTag_of_txn {s : State} {x : Txn} (h : s.update.txn = some x) : s.replyTag = x.tag := by
  simp only [State.replyTag, h]

theorem replyTag_of_no_txn {s : State} (h : s.update.txn = none) : s.replyTag = s.update.recordTag := by
  simp only [State.replyTag, h]

theorem nakState_idle {s : State} (h : s.update.state = .idle) : s.nakState = s.nak .state := by
  simp only [State.nakState, h]

theorem nakState_busy {s : State} (h : s.update.state = .committing ∨ s.update.state = .deferred) : s.nakState = s.nak .busy := by
  rcases h with h | h <;> simp only [State.nakState, h]

/-- A transaction that ends without a commit: its chain returns, its image goes, and the record takes its tag (R14, R22, R46). -/
theorem endTxn_of_txn {s : State} {x : Txn} (o : TxnOutcome) (h : s.update.txn = some x) :
    s.endTxn o = { s with
      routes := s.routes.release s.update.chain
      update := { s.update with
        state := .idle, txn := none, image := none, chain := ⟨[], 0⟩, recordTag := x.tag, recordOutcome := o } } := by
  unfold State.endTxn
  rw [h]
  rfl

theorem endTxn_of_no_txn {s : State} (o : TxnOutcome) (h : s.update.txn = none) : s.endTxn o = s := by
  simp only [State.endTxn, h]

/-- The commit in flight is done (R40). -/
theorem commitDone_of_txn {s : State} {x : Txn} (h : s.update.txn = some x) :
    s.commitDone = { s with update := s.update.done x.tag } := by
  unfold State.commitDone
  rw [h]
  rfl

/-! ### OPEN -/

/-- The data of an OPEN that passes every check of R25, the transaction staged before it apart. -/
structure OpenPasses (s : State) (data : Bytes) (k : TargetKind) (op : Op) : Prop where
  length : data.length = 6
  target : TargetKind.ofCode (data.getD 2 0) = some k
  operation : Op.ofCode (data.getD 5 0) = some op
  allowed : opAllowed k op = true
  range : num16 data 3 < k.count
  entry : k = .entry → stateAllows op (s.entry (num16 data 3)).state = true

/-- The transaction that the data of an OPEN asks for. -/
def openedTxn (data : Bytes) (k : TargetKind) (op : Op) : Txn := ⟨BitVec.ofNat 16 (num16 data 0), k, num16 data 3, op⟩

/-- An OPEN that passes every check of R25 begins its transaction. -/
theorem openChecked_passes {s : State} {data : Bytes} {k : TargetKind} {op : Op} (h : OpenPasses s data k op) :
    s.openChecked data = (s.beginTxn (openedTxn data k op), .ack (openedTxn data k op).tag .staging) := by
  have entry : ¬(decide (k = .entry) && !stateAllows op (s.entry (num16 data 3)).state) = true := by
    by_cases hk : k = .entry <;> simp [hk, h.entry]
  unfold State.openChecked
  rw [h.target, h.operation]
  simp only [h.allowed, Bool.not_true, Bool.false_eq_true, if_false, if_neg (Nat.not_le.mpr h.range), if_neg entry]
  rfl

theorem openTxn_of_idle {s : State} {data : Bytes} {k : TargetKind} {op : Op} (idle : s.update.state = .idle)
    (h : OpenPasses s data k op) :
    s.openTxn data = (s.beginTxn (openedTxn data k op), .ack (openedTxn data k op).tag .staging) := by
  rw [← openChecked_passes h]
  simp [State.openTxn, idle, h.length]

/-- In STAGING the staged transaction is displaced, and the OPEN then begins its own (R26). -/
theorem openTxn_of_staging {s : State} {data : Bytes} {k : TargetKind} {op : Op} {old : Txn} (staging : s.update.state = .staging)
    (txn : s.update.txn = some old) (h : OpenPasses s data k op) :
    s.openTxn data = (State.beginTxn { s with
      routes := s.routes.release s.update.chain
      update := { s.update with
        state := .idle, txn := none, image := none, chain := ⟨[], 0⟩, recordTag := old.tag, recordOutcome := .displaced } }
      (openedTxn data k op), .ack (openedTxn data k op).tag .staging) := by
  have still : OpenPasses (s.endTxn .displaced) data k op := by
    rw [endTxn_of_txn _ txn]
    exact ⟨h.length, h.target, h.operation, h.allowed, h.range, h.entry⟩
  have idle : (s.endTxn .displaced).update.state = .idle := by rw [endTxn_of_txn _ txn]
  rw [← endTxn_of_txn _ txn, ← openChecked_passes still]
  simp [State.openTxn, staging, idle, h.length]

/-! ### The starting images -/

theorem entryBlank_read (a : Nat) :
    Mem.read entryBlank a = if a = 20 then 1 else if a = 13 ∨ a = 14 ∨ (16 ≤ a ∧ a ≤ 19) then 0xFF else 0 := by
  simp only [Mem.read, entryBlank, Sparse.read_cons, Sparse.read_nil]
  grind

theorem languageBlank_read (a : Nat) : Mem.read languageBlank a = if a = 2 ∨ a = 3 then 0xFF else 0 := by
  simp only [Mem.read, languageBlank, Sparse.read_cons, Sparse.read_nil]
  grind

theorem planBlank_read (a : Nat) : Mem.read planBlank a = if a = 0 ∨ a = 1 then 0xFF else 0 := by
  simp only [Mem.read, planBlank, Sparse.read_cons, Sparse.read_nil]
  grind

/-- The starting image of a store: the store's content, or the blank image where the store holds none (R24). -/
theorem startsAs_getD (v : Option Mem) (blank : Mem) (size : Nat) (byte : Nat → Byte) (h : ∀ a, blank.read a = byte a) :
    startsAs (some ⟨size, v.getD blank⟩) size
      (fun a => match v with
                | some m => m.read a
                | none => byte a) := by
  refine ⟨_, rfl, rfl, fun a => ?_⟩
  cases v with
  | none => exact h a
  | some m => rfl

/-- Settles O12, by the checks of R25 in IDLE, after the displacement of R26 in STAGING. -/
theorem openBeginsTransaction : Obligations.OpenBeginsTransaction := by
  refine ⟨?_, fun s n => ⟨?_, ?_, ?_, ?_, ?_, ?_, ?_⟩⟩
  · rintro s feed tr fr k op x heard kind length target operation allowed range entry rfl
    have mine : (fr.kind == 0x01) = true := by simp [kind]
    have passes : OpenPasses { s with trunk := tr } fr.data k op := ⟨length, target, operation, allowed, range, entry⟩
    rw [exec_openFrame]
    refine ⟨fun idle => ?_, fun old staging txn => ?_⟩
    · rw [trunkFrame_answers heard mine (openTxn_of_idle idle passes)]
      rfl
    · rw [trunkFrame_answers heard mine (openTxn_of_staging staging txn passes)]
      rfl
  · exact ⟨_, rfl, rfl, entryBlank_read⟩
  · refine ⟨_, rfl, rfl, fun a => ?_⟩
    rw [Mem.read_write]
    simp only [eq_comm]
  · exact startsAs_getD _ [] 256 _ Mem.read_nil
  · exact startsAs_getD _ [] 4608 _ Mem.read_nil
  · rintro l rfl
    have place : Fin.ofNat 4 l.val = l := by simp
    simp only [State.startImage, place]
    exact startsAs_getD _ _ 4 _ languageBlank_read
  · rintro z rfl
    have place : Fin.ofNat 8 z.val = z := by simp
    simp only [State.startImage, place]
    exact startsAs_getD _ _ 315 _ planBlank_read
  · intro k op put patch load
    unfold State.startImage
    split <;> simp_all

/-! ### CHUNK -/

/-- Every byte of a store after bytes are written from an address onward. -/
theorem read_writeBytes (m : Mem) (a : Nat) (bs : Bytes) (b : Nat) :
    (m.writeBytes a bs).read b = if a ≤ b ∧ b < a + bs.length then bs.getD (b - a) 0 else m.read b := by
  split
  · next h =>
    obtain ⟨i, rfl⟩ := Nat.exists_eq_add_of_le h.1
    have inside : i < bs.length := by omega
    simp [Mem.read_writeBytes_inside bs m a i inside, List.getD, inside]
  · next h => exact Mem.read_writeBytes_outside bs m a b (by omega)

/-- A CHUNK inside the staged image is written from its offset (R28). -/
theorem chunk_writes {s : State} {data : Bytes} {x : Txn} {i : Image} (staging : s.update.state = .staging)
    (txn : s.update.txn = some x) (image : s.update.image = some i) (length : 3 ≤ data.length)
    (inside : num16 data 0 + (data.length - 2) ≤ i.size) :
    s.chunk data = ({ s with update := { s.update with
      image := some { i with bytes := i.bytes.writeBytes (num16 data 0) (data.drop 2) } } }, .ack x.tag .staging) := by
  simp [State.chunk, staging, image, Nat.not_lt.mpr length, Nat.not_lt.mpr inside, State.ack, State.replyTag, State.modUpdate, txn]

theorem chunk_outside {s : State} {data : Bytes} {i : Image} (staging : s.update.state = .staging)
    (image : s.update.image = some i) (length : 3 ≤ data.length) (outside : i.size < num16 data 0 + (data.length - 2)) :
    s.chunk data = s.nak .range := by
  simp [State.chunk, staging, image, Nat.not_lt.mpr length, outside]

theorem chunk_short {s : State} {data : Bytes} (staging : s.update.state = .staging) (length : data.length < 3) :
    s.chunk data = s.nak .format := by
  simp [State.chunk, staging, length]

theorem chunk_without_image {s : State} {data : Bytes} (staging : s.update.state = .staging) (length : 3 ≤ data.length)
    (image : s.update.image = none) : s.chunk data = s.nak .state := by
  simp [State.chunk, staging, image, Nat.not_lt.mpr length]

theorem chunk_idle {s : State} {data : Bytes} (idle : s.update.state = .idle) : s.chunk data = s.nak .state := by
  simp [State.chunk, idle, nakState_idle]

theorem chunk_busy {s : State} {data : Bytes} (busy : s.update.state = .committing ∨ s.update.state = .deferred) :
    s.chunk data = s.nak .busy := by
  have out : s.update.state ≠ .staging := by rcases busy with h | h <;> simp [h]
  simp [State.chunk, out, nakState_busy busy]

/-- Settles O14, by the cases of R28 and R31. -/
theorem chunkOverwritesImage : Obligations.ChunkOverwritesImage := by
  intro s feed tr fr heard kind
  have mine : (fr.kind == 0x02) = true := by simp [kind]
  rw [exec_chunkFrame]
  refine ⟨fun x i staging txn image length => ⟨fun inside => ⟨?_, fun a => ?_⟩, fun outside => ?_⟩, fun staging short => ?_,
    fun staging length image => ?_, fun idle => ?_, fun busy => ?_⟩
  · rw [trunkFrame_answers heard mine (chunk_writes staging txn image length inside)]
    rfl
  · rw [read_writeBytes]
    simp [List.getD]
  · rw [trunkFrame_refuses heard mine (chunk_outside staging image length outside), replyTag_of_txn txn]
  · rw [trunkFrame_refuses heard mine (chunk_short staging short)]
  · rw [trunkFrame_refuses heard mine (chunk_without_image staging length image)]
  · rw [trunkFrame_refuses heard mine (chunk_idle idle)]
  · rw [trunkFrame_refuses heard mine (chunk_busy busy)]

/-! ### CLOSE of a good transaction -/

/-- A CLOSE that passes the checks of R32 and R33. -/
structure ClosePasses (s : State) (data : Bytes) (x : Txn) : Prop where
  staging : s.update.state = .staging
  txn : s.update.txn = some x
  length : data.length = 2
  check : (crc16 s.crcContent).toNat = num16 data 0
  format : s.formatOk x = true

/-- What waits in DEFERRED at a CLOSE: a template in use, or entered by the segment that holds the engine (R34). -/
theorem templateBusy_iff (s : State) (n : Nat) :
    s.templateBusy n = true ↔ 0 < (s.template n).use ∨ n ∈ s.templates.entered := by
  simp [State.templateBusy]

theorem close_defers {s : State} {data : Bytes} {x : Txn} (h : ClosePasses s data x) (kind : x.kind = .template)
    (busy : s.templateBusy x.number = true) :
    s.close data = ({ s with update := { s.update with state := .deferred } }, .ack x.tag .deferred) := by
  simp [State.close, h.staging, h.txn, h.length, h.check, h.format, kind, busy, State.ack, State.replyTag, State.modUpdate]

theorem close_commits {s : State} {data : Bytes} {x : Txn} (h : ClosePasses s data x)
    (free : x.kind = .template → s.templateBusy x.number = false) :
    s.close data = (s.startCommit x, .ack x.tag .committing) := by
  have starts : ¬(x.kind = .template ∧ s.templateBusy x.number = true) := fun ⟨kind, busy⟩ => by simp [free kind] at busy
  simp [State.close, h.staging, h.txn, h.length, h.check, h.format, starts]

/-! ### ABANDON -/

theorem abandon_ends {s : State} {x : Txn} (held : s.update.state = .staging ∨ s.update.state = .deferred)
    (txn : s.update.txn = some x) :
    s.abandon = ({ s with
      routes := s.routes.release s.update.chain
      update := { s.update with
        state := .idle, txn := none, image := none, chain := ⟨[], 0⟩, recordTag := x.tag, recordOutcome := .abandoned } },
      .ack x.tag .idle) := by
  have ends : s.abandon = (s.endTxn .abandoned).ack := by rcases held with h | h <;> simp only [State.abandon, h]
  rw [ends, endTxn_of_txn _ txn]
  rfl

theorem abandon_idle {s : State} (h : s.update.state = .idle) : s.abandon = s.nak .state := by
  simp only [State.abandon, h, nakState_idle]

theorem abandon_committing {s : State} (h : s.update.state = .committing) : s.abandon = s.nak .busy := by
  simp only [State.abandon, h, nakState_busy (.inl h)]

/-- Settles O22, by R34 at a CLOSE and by the UC state at an ABANDON. -/
theorem deferredAndAbandoned : Obligations.DeferredAndAbandoned := by
  intro s feed tr fr heard
  rw [exec_closeFrame, exec_abandonFrame]
  refine ⟨fun x kind staging txn length check format target busy => ?_, fun x kind empty held txn => ?_,
    fun kind empty idle => ?_, fun kind empty committing => ?_, fun kind data => ?_⟩
  · have passes : ClosePasses { s with trunk := tr } fr.data x := ⟨staging, txn, length, check, format⟩
    rw [trunkFrame_answers heard (by simp [kind]) (close_defers passes target ((templateBusy_iff _ _).mpr busy))]
    rfl
  · rw [emptyFrame_answers heard (by simp [kind]) empty (abandon_ends held txn)]
    rfl
  · rw [emptyFrame_refuses heard (by simp [kind]) empty (abandon_idle idle)]
  · rw [emptyFrame_refuses heard (by simp [kind]) empty (abandon_committing committing)]
  · rw [emptyFrame_length heard (by simp [kind]) data]

/-! ### PURGE -/

theorem purge_out_of_normal {s : State} (h : s.evac.state ≠ .normal) : s.purge = s.nak .state := if_pos h

theorem purge_busy {s : State} (normal : s.evac.state = .normal) (h : s.update.state = .committing ∨ s.update.purging = true) :
    s.purge = s.nak .busy := by
  simp [State.purge, normal, h]

theorem purge_accepts {s : State} (normal : s.evac.state = .normal) (free : s.update.state ≠ .committing)
    (apart : s.update.purging = false) : s.purge = s.acceptPurge.ack := by
  simp [State.purge, normal, free, apart]

theorem arbitrate_update (s : State) : s.arbitrate.update = s.update := by
  rw [arbitrate_eq]; rfl

theorem arbitrate_of_holder {s : State} {c : Claimant} (h : s.arbiter.holder = some c) : s.arbitrate = s.setDecision none := by
  simp only [State.arbitrate, h]

theorem arbitrate_of_undecided {s : State} (free : s.arbiter.holder = none) (h : s.arbiter.decision = none) :
    s.arbitrate = s.setDecision s.grantDecision := by
  simp only [State.arbitrate, free, h]

theorem arbitrate_of_decided {s : State} {d : Decision} (free : s.arbiter.holder = none) (h : s.arbiter.decision = some d) :
    s.arbitrate = if s.stillClaims d then s else s.setDecision s.grantDecision := by
  simp only [State.arbitrate, free, h]

/-- EA does not look at the trunk. -/
theorem arbitrate_modTrunk (s : State) (g : Trunk → Trunk) : (s.modTrunk g).arbitrate = s.arbitrate.modTrunk g := by
  cases holder : s.arbiter.holder with
  | some c => rw [arbitrate_of_holder holder, arbitrate_of_holder (s := s.modTrunk g) holder]; rfl
  | none =>
    cases decision : s.arbiter.decision with
    | none => rw [arbitrate_of_undecided holder decision, arbitrate_of_undecided (s := s.modTrunk g) holder decision]; rfl
    | some d =>
      rw [arbitrate_of_decided holder decision, arbitrate_of_decided (s := s.modTrunk g) holder decision,
        apply_ite (fun u : State => u.modTrunk g)]
      rfl

/-- A purge accepted with no transaction held (R43). -/
theorem purge_accepts_without_txn {s : State} (normal : s.evac.state = .normal) (free : s.update.state ≠ .committing)
    (apart : s.update.purging = false) (txn : s.update.txn = none) :
    s.purge = (State.arbitrate { s with update := { s.update with purging := true, state := .committing } },
      .ack s.update.recordTag .committing) := by
  rw [purge_accepts normal free apart]
  unfold State.acceptPurge State.ack
  rw [endTxn_of_no_txn _ txn, replyTag_of_no_txn (by rw [arbitrate_update]; exact txn), arbitrate_update]
  rfl

/-- A purge accepted with a transaction held, which ends PURGED (R43). -/
theorem purge_accepts_over_txn {s : State} {x : Txn} (normal : s.evac.state = .normal) (free : s.update.state ≠ .committing)
    (apart : s.update.purging = false) (txn : s.update.txn = some x) :
    s.purge = (State.arbitrate { s with
      routes := s.routes.release s.update.chain
      update := { s.update with
        purging := true, state := .committing, txn := none, image := none, chain := ⟨[], 0⟩
        recordTag := x.tag, recordOutcome := .purged } }, .ack x.tag .committing) := by
  rw [purge_accepts normal free apart]
  unfold State.acceptPurge State.ack
  rw [endTxn_of_txn _ txn, replyTag_of_no_txn (by rw [arbitrate_update]; rfl), arbitrate_update]
  rfl

/-- Settles O23, by R43's table: the two refusals, then the acceptance with a transaction held and without. -/
theorem purgeIsAcceptedOrRefused : Obligations.PurgeIsAcceptedOrRefused := by
  intro s feed tr fr heard kind
  have mine : (fr.kind == 0x09) = true := by simp [kind]
  rw [exec_purgeFrame]
  refine ⟨fun data => ?_, fun empty out => ?_, fun empty normal busy => ?_, fun empty normal free apart =>
    ⟨fun txn => ?_, fun x txn => ?_⟩⟩
  · rw [emptyFrame_length heard mine data]
  · rw [emptyFrame_refuses heard mine empty (purge_out_of_normal out)]
  · rw [emptyFrame_refuses heard mine empty (purge_busy normal busy)]
  · rw [emptyFrame_answers heard mine empty (purge_accepts_without_txn normal free apart txn)]
    rw [← arbitrate_modTrunk]
    rfl
  · rw [emptyFrame_answers heard mine empty (purge_accepts_over_txn normal free apart txn)]
    rw [← arbitrate_modTrunk]
    rfl

/-! ### EC's part in a commit -/

/-- EC takes the notice of the exit entry of the shown plan (R35). -/
theorem noticeEntry_of_exit {s : State} {n : Nat} (h : s.evac.plans[s.shownZone].bind planExit = some n) :
    s.noticeEntry n = s.shownCommit := by
  obtain ⟨m, plan, exits⟩ := Option.bind_eq_some_iff.mp h
  unfold State.noticeEntry
  rw [plan]
  exact if_pos exits

theorem noticeEntry_of_other {s : State} {n : Nat} (h : s.evac.plans[s.shownZone].bind planExit ≠ some n) : s.noticeEntry n = s := by
  unfold State.noticeEntry
  cases plan : s.evac.plans[s.shownZone] with
  | none => rfl
  | some m => exact if_neg (by simpa [plan] using h)

theorem noticePlan_of_shown (s : State) : s.noticePlan s.shownZone.val = s.shownCommit := if_pos rfl

theorem noticePlan_of_other {s : State} {z : Nat} (h : z ≠ s.shownZone.val) : s.noticePlan z = s := if_neg h

/-- With a drawing in flight in TAKEOVER or SHOWING, the redraw is pending (R180, R181). -/
theorem shownCommit_drawing {s : State} (shows : s.evac.state = .takeover ∨ s.evac.state = .showing) (h : s.evac.drawing ≠ none) :
    s.shownCommit = { s with evac := { s.evac with redraw := true } } := by
  obtain ⟨d, drawing⟩ := Option.ne_none_iff_exists'.mp h
  rcases shows with state | state
  · simp only [State.shownCommit, state, drawing, Option.isSome_some, if_true, State.modEvac]
  · simp only [State.shownCommit, state, State.redrawCause, drawing, State.modEvac]

theorem shownCommit_showing {s : State} (state : s.evac.state = .showing) (h : s.evac.drawing = none) : s.shownCommit = s.startView := by
  simp only [State.shownCommit, state, State.redrawCause, h]

theorem shownCommit_takeover {s : State} (state : s.evac.state = .takeover) (h : s.evac.drawing = none) : s.shownCommit = s := by
  simp [State.shownCommit, state, h]

theorem shownCommit_elsewhere {s : State} (h : s.evac.state = .normal ∨ s.evac.state = .releasing) : s.shownCommit = s := by
  rcases h with h | h <;> simp only [State.shownCommit, h]

/-- Settles O20: a notice that reaches EC is `shownCommit`, whose cases are those of R180 and R181. -/
theorem commitReachesEvacuation : Obligations.CommitReachesEvacuation := by
  refine ⟨fun m => rfl, fun s t given => ?_⟩
  have reaches : t = s.shownCommit := by
    rcases given with ⟨n, rfl, exits⟩ | rfl
    · exact noticeEntry_of_exit exits
    · exact noticePlan_of_shown s
  subst reaches
  exact ⟨shownCommit_elsewhere, shownCommit_takeover, shownCommit_drawing, shownCommit_showing,
    fun n => noticeEntry_of_other, fun z => noticePlan_of_other⟩

/-- EC does not look at the trunk as it takes a notice. -/
theorem noticePlan_modTrunk (s : State) (z : Nat) (g : Trunk → Trunk) : (s.modTrunk g).noticePlan z = (s.noticePlan z).modTrunk g := by
  by_cases shown : z = s.shownZone.val
  · subst shown
    rw [noticePlan_of_shown, show (s.modTrunk g).noticePlan s.shownZone.val = (s.modTrunk g).shownCommit from noticePlan_of_shown _]
    cases state : s.evac.state with
    | normal => rw [shownCommit_elsewhere (.inl state), shownCommit_elsewhere (s := s.modTrunk g) (.inl state)]
    | releasing => rw [shownCommit_elsewhere (.inr state), shownCommit_elsewhere (s := s.modTrunk g) (.inr state)]
    | takeover =>
      by_cases drawing : s.evac.drawing = none
      · rw [shownCommit_takeover state drawing, shownCommit_takeover (s := s.modTrunk g) state drawing]
      · rw [shownCommit_drawing (.inl state) drawing, shownCommit_drawing (s := s.modTrunk g) (.inl state) drawing]
        rfl
    | showing =>
      by_cases drawing : s.evac.drawing = none
      · rw [shownCommit_showing state drawing, shownCommit_showing (s := s.modTrunk g) state drawing]
        rfl
      · rw [shownCommit_drawing (.inr state) drawing, shownCommit_drawing (s := s.modTrunk g) (.inr state) drawing]
        rfl
  · rw [noticePlan_of_other shown, noticePlan_of_other (s := s.modTrunk g) shown]

/-! ### The commits of the stores -/

/-- What an event raised on every enabled face leaves (R158). -/
theorem raiseAll_face (s : State) (e : Event) (f : Face) :
    (s.raiseAll e).face f = { s.face f with latch := if s.enabled f = true then (s.face f).latch ||| e.bit else (s.face f).latch } := by
  unfold State.raiseAll
  rw [mapFaces_face]
  split <;> rfl

/-- A language slot takes its content, and the commit ends at once (R38). -/
theorem startCommit_language {s : State} {x : Txn} {l : Fin 4} (target : x.kind = .language) (txn : s.update.txn = some x)
    (number : x.number = l.val) (op : x.op = .load ∨ x.op = .clear) :
    s.startCommit x = State.raiseAll { s with
      languages := s.languages.set l (if x.op = .load then some s.staged else if l = 0 then some languageBlank else none)
      update := s.update.done x.tag } .glyphsChanged := by
  have place : Fin.ofNat 4 l.val = l := by simp
  have zero : l.val = 0 ↔ l = 0 := (Fin.ext_iff (a := l) (b := 0)).symm
  simp only [State.startCommit, target, State.languageCommit, number, place, zero]
  rcases op with op | op
  · simp only [op, if_true]
    exact congrArg (fun u : State => u.raiseAll _) (commitDone_of_txn (by exact txn))
  · simp only [op, reduceCtorEq, if_false]
    exact congrArg (fun u : State => u.raiseAll _) (commitDone_of_txn (by exact txn))

/-- A plan takes its content, the commit ends at once, and EC is given the plan (R39). -/
theorem startCommit_plan {s : State} {x : Txn} {z : Fin 8} (target : x.kind = .evacPlan) (txn : s.update.txn = some x)
    (number : x.number = z.val) (op : x.op = .load ∨ x.op = .clear) :
    s.startCommit x = State.noticePlan { s with
      evac := { s.evac with plans := s.evac.plans.set z (if x.op = .load then some s.staged else none) }
      update := s.update.done x.tag } z.val := by
  have place : Fin.ofNat 8 z.val = z := by simp
  simp only [State.startCommit, target, State.planCommit, number, place]
  rcases op with op | op
  · simp only [op, if_true]
    exact congrArg (fun u : State => u.noticePlan _) (commitDone_of_txn (by exact txn))
  · simp only [op, reduceCtorEq, if_false]
    exact congrArg (fun u : State => u.noticePlan _) (commitDone_of_txn (by exact txn))

/-- A CLEAR of a page ends at once (R36). -/
theorem startCommit_glyph_clear {s : State} {x : Txn} (target : x.kind = .glyphPage) (txn : s.update.txn = some x) (op : x.op = .clear) :
    s.startCommit x = State.raiseAll { s.setGlyphPage x.number none with update := s.update.done x.tag } .glyphsChanged := by
  simp only [State.startCommit, target, State.glyphCommit, op]
  exact congrArg (fun u : State => u.raiseAll _) (commitDone_of_txn (by exact txn))

/-- A LOAD of a page begins its copy (R36). -/
theorem startCommit_glyph_load {s : State} {x : Txn} (target : x.kind = .glyphPage) (op : x.op = .load) :
    s.startCommit x = { s with
      glyphs := ⟨(s.setGlyphPage x.number (some ((s.glyphPage x.number).getD []))).glyphs.pages, some x.number⟩
      update := { s.update with state := .committing } } := by
  simp only [State.startCommit, target, State.glyphCommit, op]
  rfl

/-- A CLEAR of a template empties it and ends at once (R37). -/
theorem templateCommit_clear {s : State} {x : Txn} (txn : s.update.txn = some x) (op : x.op = .clear) :
    s.templateCommit x = State.raiseAll { s.setTemplate x.number ⟨none, (s.template x.number).use⟩ with
      update := s.update.done x.tag } .templateChanged := by
  simp only [State.templateCommit, op]
  exact congrArg (fun u : State => u.raiseAll _) (commitDone_of_txn (by exact txn))

/-- A LOAD of a template makes it DEFINED and begins its copy (R37). -/
theorem templateCommit_load {s : State} {x : Txn} (op : x.op = .load) :
    s.templateCommit x = { s with
      templates := ⟨(s.setTemplate x.number ⟨some ((s.template x.number).cells.getD []), (s.template x.number).use⟩).templates.table,
        some x.number, s.templates.entered⟩
      update := { s.update with state := .committing } } := by
  simp only [State.templateCommit, op]
  rfl

theorem startCommit_template {s : State} {x : Txn} (target : x.kind = .template) : s.startCommit x = s.committing.templateCommit x := by
  simp only [State.startCommit, target]

/-- Settles O21: a good CLOSE starts its commit, and each store's commit is that of R36 to R39. -/
theorem closeCommitsStores : Obligations.CloseCommitsStores := by
  refine ⟨?_, fun s n v => ⟨rfl, rfl, fun k => ?_⟩, fun s n v => ⟨rfl, rfl, rfl, fun k => ?_⟩, ?_⟩
  · rintro s e bit (⟨rfl, rfl⟩ | ⟨rfl, rfl⟩) <;> exact ⟨raiseAll_outside s _, raiseAll_face s _⟩
  · rw [setGlyphPage_glyphPage]
    simp only [eq_comm]
  · rw [setTemplate_template]
    simp only [eq_comm]
  · rintro s feed tr fr x done heard kind staging txn length check format rfl
    have mine : (fr.kind == 0x04) = true := by simp [kind]
    have passes : ClosePasses { s with trunk := tr } fr.data x := ⟨staging, txn, length, check, format⟩
    have commits (free : x.kind = .template → s.templateBusy x.number = false) :
        exec (.closeFrame feed) s = .next ((State.startCommit { s with trunk := tr } x).modTrunk
          (fun u => u.answered fr.address (.ack x.tag .committing))) := by
      rw [exec_closeFrame, trunkFrame_answers heard mine (close_commits passes free)]
    have unused (use : (s.template x.number).use = 0) (entered : x.number ∉ s.templates.entered) :
        s.templateBusy x.number = false := by
      rw [Bool.eq_false_iff, ne_eq, templateBusy_iff]
      simp [use, entered]
    refine ⟨fun l target number op => ?_, fun z target number op => ?_, fun target op => ?_, fun target op => ?_,
      fun target use entered op => ?_, fun target use entered op => ?_⟩
    · rw [commits (by simp [target]), startCommit_language target (by exact txn) number op]
      rfl
    · rw [commits (by simp [target]), startCommit_plan target (by exact txn) number op, ← noticePlan_modTrunk]
      rfl
    · rw [commits (by simp [target]), startCommit_glyph_load target op]
      have page (p : Nat) := setGlyphPage_glyphPage s x.number p (some ((s.glyphPage x.number).getD []))
      refine ⟨_, rfl, rfl, rfl, ?_, fun p other => (page p).trans (if_neg other.symm)⟩
      exact congrArg Option.isSome ((page x.number).trans (if_pos rfl))
    · rw [commits (by simp [target]), startCommit_glyph_clear target (by exact txn) op]
      rfl
    · rw [commits (fun _ => unused use entered), startCommit_template target, templateCommit_load op]
      have cells (k : Nat) := setTemplate_template s x.number k ⟨some ((s.template x.number).cells.getD []), (s.template x.number).use⟩
      refine ⟨_, rfl, rfl, rfl, rfl, ?_, ?_, fun k other => (cells k).trans (if_neg other.symm)⟩
      · exact congrArg (fun v => v.cells.isSome) ((cells x.number).trans (if_pos rfl))
      · exact (congrArg Template.use ((cells x.number).trans (if_pos rfl))).trans use
    · rw [commits (fun _ => unused use entered), startCommit_template target, templateCommit_clear (by exact txn) op]
      have cleared : (⟨none, (s.template x.number).use⟩ : Template) = ⟨none, 0⟩ := by rw [use]
      rw [← cleared]
      rfl

end Sys2Proof.Machine.UpdateTransactions
end

section
/-! PROOFS. What a request of a ready port leaves: the reads of chapters 3 and 8, answered, held or refused. -/

namespace Sys2Proof.Machine.UpdateTransactions

open Sys2Proof Sys2Proof.Machine

/-! ### A reply on a face -/

/-- Changes that agree on a face's context are one change of that face. -/
theorem modFace_congr {s : State} {f : Face} {g h : FaceContext → FaceContext} (e : g (s.face f) = h (s.face f)) :
    s.modFace f g = s.modFace f h := by
  unfold State.modFace
  exact congrArg (fun c => { s with faces := s.faces.set f c }) e

theorem modFace_self (s : State) (f : Face) : s.modFace f (fun c => c) = s := by
  simp [State.modFace]

/-- What raising an event does to its face (R158). -/
theorem raise_eq (s : State) (f : Face) (e : Event) :
    s.raise f e = s.modFace f (fun c => { c with latch := if s.enabled f = true then c.latch ||| e.bit else c.latch }) := by
  unfold State.raise
  by_cases on : s.enabled f = true
  · simp only [on, if_true]
    rfl
  · simp only [on, Bool.false_eq_true, if_false]
    exact (modFace_self s f).symm

/-- A context whose request in progress has been answered; `on` tells whether the face is enabled (R71, R158). -/
def answeredContext (c : FaceContext) (on : Bool) (r : Reply) : FaceContext :=
  { c with port := ⟨none, some r, c.port.dataOut⟩, latch := if on = true then c.latch ||| 1 else c.latch }

/-- An answer ends the request in progress, fills the slot and raises REPLY_READY (R71). -/
theorem answer_eq (s : State) (f : Face) (code : ReplyCode) (request : Byte) (results : Bytes) :
    s.answer f code request results =
      s.modFace f (fun c => answeredContext c (s.enabled f) ⟨code, request, padResults request results⟩) := by
  unfold State.answer State.fillReply
  rw [raise_eq, modFace_modFace, modFace_modFace]
  rfl

/-! ### A request of a ready port -/

/-- The state in which a request's owner acts: the shift made and the reply slot emptied (R69, R71). -/
def taken (s : State) (f : Face) (x : Transfer) : State := s.modFace f (fun c => { c with port := ⟨none, none, s.requestOut f x⟩ })

/-- A request of a ready port, of an allowed length, reaches its owner (R74). -/
theorem request_taken {s : State} {f : Face} {code : Byte} {x : Transfer} (own : State → State) (ready : s.portReady f)
    (length : lengthAllowed code x.bytes.length = true) : s.request f code true x own = own (taken s f x) := by
  obtain ⟨⟨ended, enabled, idle⟩, present⟩ := ready
  have passes : s.portRefusal f code true x.bytes.length = none := by
    simp [State.portRefusal, idle, present, length]
  have slot : (s.requestShift f x).takeRequest f = taken s f x := by
    unfold State.requestShift State.shiftOut State.takeRequest taken
    rw [modFace_modFace]
    exact modFace_congr (by simp only [idle, State.requestOut])
  unfold State.request
  simp only [ended, enabled, passes, slot, Bool.not_true, Bool.false_eq_true, if_false]

theorem answer_taken {s : State} {f : Face} {x : Transfer} (ready : s.portReady f) (code : ReplyCode) (request : Byte) (results : Bytes) :
    (taken s f x).answer f code request results =
      s.modFace f (fun c => c.replied (s.requestOut f x) code request (padResults request results)) := by
  rw [answer_eq, show (taken s f x).enabled f = true from ready.1.2.1]
  exact modFace_modFace s f _ _

theorem hold_taken (s : State) (f : Face) (x : Transfer) (h : HeldRequest) :
    (taken s f x).hold f h = s.modFace f (fun c => c.holding (s.requestOut f x) h) := modFace_modFace s f _ _

/-! ### The commands -/

theorem exec_readEntry {s : State} {f : Face} {x : Transfer} (ready : s.portReady f) (length : x.bytes.length = 3) :
    exec (.readEntry f x) s = .next ((taken s f x).query f 0x10 (readEntryQuery x.bytes)) :=
  congrArg _ (request_taken _ ready (by rw [length]; rfl))

theorem exec_listWindow {s : State} {f : Face} {x : Transfer} (ready : s.portReady f) (length : x.bytes.length = 5) :
    exec (.listWindow f x) s = .next ((taken s f x).query f 0x11 (listWindowQuery x.bytes)) :=
  congrArg _ (request_taken _ ready (by rw [length]; rfl))

theorem exec_findPrefix {s : State} {f : Face} {x : Transfer} (ready : s.portReady f) (length : x.bytes.length = 14) :
    exec (.findPrefix f x) s = .next ((taken s f x).query f 0x12 (findPrefixQuery x.bytes)) :=
  congrArg _ (request_taken _ ready (by rw [length]; rfl))

theorem exec_readSlots {s : State} {f : Face} {x : Transfer} (ready : s.portReady f) (empty : x.bytes = []) :
    exec (.readSlots f x) s = .next ((taken s f x).takeSlotRead f .readSlots) :=
  congrArg _ (request_taken _ ready (by rw [empty]; rfl))

theorem exec_hitTest {s : State} {f : Face} {x : Transfer} (ready : s.portReady f) (length : x.bytes.length = 4) :
    exec (.hitTest f x) s = .next (
      if 1079 < num16 x.bytes 0 ∨ 1919 < num16 x.bytes 2 then (taken s f x).answer f .range 0x41 []
      else (taken s f x).takeSlotRead f (.hitTest (num16 x.bytes 0) (num16 x.bytes 2))) :=
  congrArg _ (request_taken _ ready (by rw [length]; rfl))

/-! ### Directory queries -/

/-- A query behind a reposition, or behind a purge that holds the engine, is held (R44, R53). -/
theorem query_held {s : State} (f : Face) (x : Transfer) (code : Byte) (h : HeldRequest)
    (busy : s.orders.reposition ≠ none ∨ s.purgeHolds = true) :
    (taken s f x).query f code (some h) = s.modFace f (fun c => c.holding (s.requestOut f x) h) := by
  have waits : ((taken s f x).orders.reposition.isSome || (taken s f x).purgeHolds) = true := by
    show (s.orders.reposition.isSome || s.purgeHolds) = true
    rcases busy with h | h
    · simp [Option.isSome_iff_ne_none.mpr h]
    · simp [h]
  rw [← hold_taken]
  exact if_pos waits

theorem query_answered {s : State} (f : Face) (x : Transfer) (code : Byte) (h : HeldRequest) (still : s.orders.reposition = none)
    (free : s.purgeHolds = false) : (taken s f x).query f code (some h) = (taken s f x).answerRequest f h := by
  have goes : ¬((taken s f x).orders.reposition.isSome || (taken s f x).purgeHolds) = true := by
    show ¬(s.orders.reposition.isSome || s.purgeHolds) = true
    simp [still, free]
  exact if_neg goes

theorem answerRequest_readEntry_free {s : State} {f : Face} {n : Nat} {l : Fin 4} (h : (s.entry n).state = .free) :
    s.answerRequest f (.readEntry n l) =
      s.answer f .notLive 0x10 ([0x00, (s.entry n).generation] ++ Word16.bytes s.update.count) := by
  simp only [State.answerRequest, State.readEntryAnswer, h, if_true]
  rfl

theorem answerRequest_readEntry_held {s : State} {f : Face} {n : Nat} {l : Fin 4} (h : (s.entry n).state ≠ .free) :
    s.answerRequest f (.readEntry n l) = s.answer f .ok 0x10 (s.entryResults n l) := by
  simp only [State.answerRequest, State.readEntryAnswer, h, if_false]

/-- A query with a parameter out of range is refused at once (R56). -/
theorem query_refused {s : State} {f : Face} (x : Transfer) (code : Byte) (ready : s.portReady f) :
    (taken s f x).query f code none =
      s.modFace f (fun c => c.replied (s.requestOut f x) .range code (List.replicate (resultLength code) 0)) :=
  answer_taken ready .range code []

theorem finOf_val {n : Nat} (v : Fin n) : finOf n v.val = some v := (finOf_eq_some n _ v).mpr rfl

theorem finOf_none {n k : Nat} (h : n ≤ k) : finOf n k = none := dif_neg (Nat.not_lt.mpr h)

theorem within_self {lo hi k : Nat} (h : lo ≤ k ∧ k ≤ hi) : within lo hi k = some k := if_pos h

theorem within_none {lo hi k : Nat} (h : ¬(lo ≤ k ∧ k ≤ hi)) : within lo hi k = none := if_neg h

theorem readEntryQuery_in_range {bs : Bytes} {l : Fin 4} (entry : num16 bs 0 ≤ 1023) (language : num bs 2 = l.val) :
    readEntryQuery bs = some (.readEntry (num16 bs 0) l) := by
  unfold readEntryQuery
  rw [within_self ⟨Nat.zero_le _, entry⟩, language, finOf_val]

theorem readEntryQuery_out_of_range {bs : Bytes} (out : 1023 < num16 bs 0 ∨ 3 < num bs 2) : readEntryQuery bs = none := by
  unfold readEntryQuery
  rcases out with out | out
  · rw [within_none (by omega)]
  · rw [finOf_none out]
    cases within 0 1023 (num16 bs 0) <;> rfl

theorem listWindowQuery_in_range {bs : Bytes} {l : Fin 4} {filter : Option Nat} (language : num bs 0 = l.val)
    (count : 1 ≤ num bs 3 ∧ num bs 3 ≤ 8) (category : filterOf (num bs 4) = some filter) :
    listWindowQuery bs = some (.listWindow l (num16 bs 1) (num bs 3) filter) := by
  unfold listWindowQuery
  rw [language, finOf_val, within_self count, category]

theorem listWindowQuery_out_of_range {bs : Bytes}
    (out : 3 < num bs 0 ∨ num bs 3 = 0 ∨ 8 < num bs 3 ∨ (63 < num bs 4 ∧ num bs 4 ≠ 0xFF)) : listWindowQuery bs = none := by
  unfold listWindowQuery
  have count (h : num bs 3 = 0 ∨ 8 < num bs 3) : within 1 8 (num bs 3) = none := within_none (by omega)
  rcases out with out | out | out | ⟨out, any⟩
  · rw [finOf_none out]
  · rw [count (.inl out)]
    cases finOf 4 (num bs 0) <;> rfl
  · rw [count (.inr out)]
    cases finOf 4 (num bs 0) <;> rfl
  · have category : filterOf (num bs 4) = none := by rw [filterOf, if_neg any, if_neg (by omega)]
    rw [category]
    cases finOf 4 (num bs 0) <;> cases within 1 8 (num bs 3) <;> rfl

theorem findPrefixQuery_in_range {bs : Bytes} {l : Fin 4} {codes : List Nat} (language : num bs 0 = l.val)
    (length : 1 ≤ num bs 1 ∧ num bs 1 ≤ 6) (h : codes = (List.range (num bs 1)).map (fun i => num16 bs (2 + 2 * i)))
    (range : ∀ k ∈ codes, k < 4096) : findPrefixQuery bs = some (.findPrefix l codes) := by
  unfold findPrefixQuery
  rw [language, finOf_val, within_self length]
  simp only [← h]
  exact if_pos (by simpa using range)

theorem findPrefixQuery_out_of_range {bs : Bytes} (out : 3 < num bs 0 ∨ num bs 1 = 0 ∨ 6 < num bs 1 ∨
    ∃ i, i < num bs 1 ∧ 4095 < num16 bs (2 + 2 * i)) : findPrefixQuery bs = none := by
  unfold findPrefixQuery
  by_cases language : 3 < num bs 0
  · rw [finOf_none language]
  · obtain ⟨l, hl⟩ : ∃ l : Fin 4, num bs 0 = l.val := ⟨⟨num bs 0, by omega⟩, rfl⟩
    rw [hl, finOf_val]
    by_cases length : 1 ≤ num bs 1 ∧ num bs 1 ≤ 6
    · rw [within_self length]
      obtain ⟨i, inside, large⟩ := ((out.resolve_left language).resolve_left (by omega)).resolve_left (by omega)
      refine if_neg ?_
      simp only [List.all_map, List.all_eq_true, List.mem_range, Function.comp_apply, decide_eq_true_eq, not_forall]
      exact ⟨i, inside, by omega⟩
    · rw [within_none length]

/-! ### The bytes of an entry -/

theorem byteOf_num (m : Mem) (a : Nat) : byteOf (m.num a) = m.read a := by
  simp [byteOf, Mem.num]

/-- A two-byte field is sent as the two bytes that hold it (R196). -/
theorem word16Of_num16 (m : Mem) (a : Nat) : word16Of (m.num16 a) = [m.read a, m.read (a + 1)] := by
  have high := (m.read a).isLt
  have low := (m.read (a + 1)).isLt
  simp only [word16Of, Word16.bytes, Mem.num16, Mem.num, List.cons.injEq, and_true]
  constructor <;> (apply BitVec.eq_of_toNat_eq; simp [Nat.shiftRight_eq_div_pow]; omega)

/-- The codes of a field, sent, are the bytes that hold them (R196). -/
theorem codes_sent (m : Mem) (a k : Nat) :
    (m.codes a k).flatMap word16Of = (List.range (2 * k)).map (fun i => m.read (a + i)) := by
  induction k with
  | zero => rfl
  | succ k ih =>
    have grows : m.codes a (k + 1) = m.codes a k ++ [m.num16 (a + 2 * k)] := by simp [Mem.codes, List.range_succ]
    rw [grows, List.flatMap_append, ih, show 2 * (k + 1) = 2 * k + 1 + 1 by omega, List.range_succ, List.range_succ]
    simp [word16Of_num16, Nat.add_assoc]

/-- The code positions of a field: the bytes that hold its codes, then 00h (R197). -/
theorem codePositions_codes (m : Mem) (a k n : Nat) (h : k ≤ n) :
    codePositions n (m.codes a k) = (List.range (2 * n)).map (fun i => if i < 2 * k then m.read (a + i) else 0) := by
  have length : (m.codes a k).length = k := by simp [Mem.codes]
  rw [codePositions, codes_sent, length, show 2 * n = 2 * k + 2 * (n - k) by omega, List.range_add, List.map_append]
  congr 1
  · exact List.map_congr_left (fun i hi => by simp [List.mem_range.mp hi])
  · exact (List.eq_replicate_iff.mpr ⟨by simp, by simp⟩).symm

/-- The key of an image: its own name, or else its name for slot 0 (R49). -/
theorem imgKey_eq (m : Mem) (l : Fin 4) (name : Nat)
    (h : name = if m.num (21 + 49 * l.val) = 0 then 21 else 21 + 49 * l.val) : imgKey m l = m.codes (name + 1) (m.num name) := by
  unfold imgKey imgName nameOffset
  by_cases own : m.num (21 + 49 * l.val) = 0
  · rw [if_pos own] at h
    subst h
    by_cases first : m.num 21 = 0 <;> simp [own, first, Mem.codes]
  · rw [if_neg own] at h
    subst h
    simp [own]

/-- The results of READ_ENTRY, byte by byte (R57, R58, R199). -/
theorem entryResults_bytes (s : State) (n : Nat) (l : Fin 4) (m : Mem) (name : Nat) (image : m = (s.entry n).image)
    (h : name = if m.num (21 + 49 * l.val) = 0 then 21 else 21 + 49 * l.val) (unit : m.num 0 ≤ 6) (codes : m.num name ≤ 24) :
    s.entryResults n l =
      [(s.entry n).state.code, (s.entry n).generation, s.update.count.extractLsb' 8 8, s.update.count.extractLsb' 0 8, m.read 0] ++
      (List.range 12).map (fun i => if i < 2 * m.num 0 then m.read (1 + i) else 0) ++
      [m.read 13, m.read 14, m.read 15, m.read 16, m.read 17, m.read 18, m.read 19, byteOf (s.routeOf (s.entry n)).length,
       if m.num (21 + 49 * l.val) = 0 then 0x01 else 0x00, m.read name] ++
      (List.range 48).map (fun i => if i < 2 * m.num name then m.read (name + 1 + i) else 0) := by
  have unitLength : (imgUnit m).length = m.num 0 := by simp [imgUnit, Mem.codes]
  have keyLength : (imgKey m l).length = m.num name := by simp [imgKey_eq m l name h, Mem.codes]
  have own : (if (imgName m l).isSome = true then (0x00 : Byte) else 0x01) = if m.num (21 + 49 * l.val) = 0 then 0x01 else 0x00 := by
    unfold imgName nameOffset
    split <;> rfl
  unfold State.entryResults
  simp only [← image, unitLength, keyLength, own]
  rw [imgKey_eq m l name h, imgUnit, codePositions_codes m 1 _ 6 unit, codePositions_codes m (name + 1) _ 24 codes]
  simp only [imgLevel, imgCategory, imgAnchorX, imgAnchorY, byteOf_num, word16Of_num16, Word16.bytes, List.cons_append, List.nil_append,
    List.append_assoc]

/-! ### The tuples of a window -/

/-- The places of a list from a position onward, each with the entry that stands there. -/
theorem mem_places (list : List Nat) (start n pos : Nat) :
    (n, pos) ∈ list.zipIdx.drop start ↔ start ≤ pos ∧ list[pos]? = some n := by
  simp only [List.mem_iff_getElem?, List.getElem?_drop, List.getElem?_zipIdx, Option.map_eq_some_iff, Prod.mk.injEq, Nat.zero_add]
  constructor
  · rintro ⟨i, _, stands, rfl, rfl⟩
    exact ⟨Nat.le_add_right _ _, stands⟩
  · rintro ⟨from_start, stands⟩
    obtain ⟨i, rfl⟩ := Nat.exists_eq_add_of_le from_start
    exact ⟨i, n, stands, rfl, rfl⟩

theorem places_ascend (list : List Nat) (start : Nat) : (list.zipIdx.drop start).Pairwise (fun p q => p.2 < q.2) := by
  have positions : (list.zipIdx.map Prod.snd).Pairwise (· < ·) := by
    rw [List.zipIdx_map_snd]
    exact List.pairwise_lt_range'
  exact (List.pairwise_map.mp positions).sublist (List.drop_sublist start _)

/-- A window with no filter, or one whose category the entry has (R59). -/
theorem matchesFilter_iff (s : State) (filter : Option Nat) (n : Nat) :
    s.matchesFilter filter n = true ↔ ∀ k, filter = some k → (s.entry n).image.num 14 = k := by
  cases filter with
  | none => simp [State.matchesFilter]
  | some k =>
    simp only [Option.some.injEq, forall_eq']
    exact decide_eq_true_iff

/-- What a cut of a list in ascending order leaves out stands after all it keeps, and it keeps as many as the cut allows. -/
theorem mem_take_or_after {l : List (Nat × Nat)} (ascends : l.Pairwise (fun p q => p.2 < q.2)) (count : Nat) {p : Nat × Nat}
    (h : p ∈ l) : p ∈ l.take count ∨ ((l.take count).length = count ∧ ∀ q ∈ l.take count, q.2 < p.2) := by
  rw [← List.take_append_drop count l, List.mem_append] at h
  rw [← List.take_append_drop count l, List.pairwise_append] at ascends
  obtain ⟨-, -, before⟩ := ascends
  refine h.imp_right fun later => ⟨?_, fun q hq => before q hq p later⟩
  have : count < l.length := by
    by_contra short
    rw [List.drop_eq_nil_of_le (by omega)] at later
    exact absurd later List.not_mem_nil
  simp; omega

/-- The tuples of a window: what stands from the start position on and matches, in ascending order, to the count (R59, R60). -/
theorem windowTuples_spec (s : State) (l : Fin 4) (start count : Nat) (filter : Option Nat) (list : List Nat)
    (h : list = s.orders.lists[l]) (tuples : List (Nat × Nat)) (ht : tuples = s.windowTuples l start count filter) :
    tuples.length ≤ count ∧ tuples.Pairwise (fun p q => p.2 < q.2) ∧
    (∀ n pos, (n, pos) ∈ tuples →
      start ≤ pos ∧ list[pos]? = some n ∧ ∀ k, filter = some k → (s.entry n).image.num 14 = k) ∧
    (∀ n pos, start ≤ pos → list[pos]? = some n → (∀ k, filter = some k → (s.entry n).image.num 14 = k) →
      (n, pos) ∈ tuples ∨ (tuples.length = count ∧ ∀ q ∈ tuples, q.2 < pos)) := by
  obtain ⟨matching, hm⟩ : ∃ v, v = (list.zipIdx.drop start).filter (fun p => s.matchesFilter filter p.1) := ⟨_, rfl⟩
  have cut : tuples = matching.take count := by rw [ht, hm, h]; rfl
  have ascends : matching.Pairwise (fun p q => p.2 < q.2) := hm ▸ (places_ascend list start).filter _
  have member (n pos : Nat) : (n, pos) ∈ matching ↔
      start ≤ pos ∧ list[pos]? = some n ∧ ∀ k, filter = some k → (s.entry n).image.num 14 = k := by
    rw [hm, List.mem_filter, mem_places, matchesFilter_iff, and_assoc]
  subst cut
  refine ⟨List.length_take_le count matching, ascends.sublist (List.take_sublist count matching),
    fun n pos hp => (member n pos).mp (List.mem_of_mem_take hp),
    fun n pos from_start stands fits => mem_take_or_after ascends count ((member n pos).mpr ⟨from_start, stands, fits⟩)⟩

/-! ### The lower bound of a search key -/

/-- Before the lower bound every key is less than the key searched for, and at it none is (R62). -/
theorem lowerBound_spec (s : State) (l : Fin 4) (codes list : List Nat) (h : list = s.orders.lists[l]) :
    s.lowerBound l codes ≤ list.length ∧
    (∀ pos n, pos < s.lowerBound l codes → list[pos]? = some n → keyLess (s.key l n) codes = true) ∧
    (∀ n, list[s.lowerBound l codes]? = some n → keyLess (s.key l n) codes = false) := by
  subst h
  refine ⟨List.findIdx_le_length, fun pos n before stands => ?_, fun n stands => ?_⟩
  · obtain ⟨inside, rfl⟩ := List.getElem?_eq_some_iff.mp stands
    simpa using List.not_of_lt_findIdx before
  · obtain ⟨inside, rfl⟩ := List.getElem?_eq_some_iff.mp stands
    exact (Bool.not_eq_true' _).mp (List.findIdx_getElem (w := inside))

theorem prefixFound_iff (s : State) (l : Fin 4) (codes list : List Nat) (h : list = s.orders.lists[l]) :
    s.prefixFound l codes = true ↔ ∃ n rest, list[s.lowerBound l codes]? = some n ∧ s.key l n = codes ++ rest := by
  subst h
  unfold State.prefixFound
  cases s.orders.lists[l][s.lowerBound l codes]? with
  | none => simp
  | some n =>
    simp only [List.isPrefixOf_iff_prefix, Option.some.injEq, exists_and_left, exists_eq_left']
    exact exists_congr fun rest => eq_comm

/-- Settles O32: each query in range is held or answered (R44, R53), and each answer's results are those of R57 to R62. -/
theorem readsAreAnsweredOrHeld : Obligations.ReadsAreAnsweredOrHeld := by
  refine ⟨fun results => ⟨rfl, rfl, rfl⟩, fun m a n => rfl, fun k => rfl, ?_, ?_, ?_, ?_⟩
  · intro s f x query h code r results ready asked
    obtain ⟨asks, answers⟩ : exec query s = .next ((taken s f x).query f code (some h)) ∧
        (taken s f x).answerRequest f h = (taken s f x).answer f r code results := by
      rcases asked with ⟨rfl, rfl, length, l, entry, language, rfl, free, held⟩ |
        ⟨rfl, rfl, length, rfl, l, filter, language, least, most, category, rfl, rfl⟩ |
        ⟨rfl, rfl, length, rfl, l, codes, language, least, most, sent, range, rfl, rfl⟩
      · refine ⟨by rw [exec_readEntry ready length, readEntryQuery_in_range entry language], ?_⟩
        by_cases state : (s.entry (num16 x.bytes 0)).state = .free
        · obtain ⟨rfl, rfl⟩ := free state
          exact answerRequest_readEntry_free (by exact state)
        · obtain ⟨rfl, rfl⟩ := held state
          exact answerRequest_readEntry_held (by exact state)
      · exact ⟨by rw [exec_listWindow ready length, listWindowQuery_in_range language ⟨least, most⟩ category], rfl⟩
      · exact ⟨by rw [exec_findPrefix ready length, findPrefixQuery_in_range language ⟨least, most⟩ sent range], rfl⟩
    rw [asks]
    exact ⟨fun still free => by rw [query_answered f x code h still free, answers, answer_taken ready],
      fun busy => by rw [query_held f x code h busy]⟩
  · intro s n l m name image hname
    refine ⟨?_, entryResults_bytes s n l m name image hname⟩
    rw [State.key, ← image]
    exact imgKey_eq m l name hname
  · intro s l start count filter list h
    refine ⟨s.windowTuples l start count filter, ?_, windowTuples_spec s l start count filter list h _ rfl⟩
    subst h
    rfl
  · intro s l codes list h
    obtain ⟨inside, before, stands⟩ := lowerBound_spec s l codes list h
    refine ⟨s.lowerBound l codes, s.prefixFound l codes, ?_, inside, before, stands, prefixFound_iff s l codes list h⟩
    subst h
    rfl

/-! ### The slots -/

/-- A read of the slots behind a purge that holds the engine is held (R44, R156, R157). -/
theorem slotRead_held {s : State} (f : Face) (x : Transfer) (h : HeldRequest) (busy : s.purgeHolds = true) :
    (taken s f x).takeSlotRead f h = s.modFace f (fun c => c.holding (s.requestOut f x) h) := by
  rw [← hold_taken]
  exact if_pos busy

theorem slotRead_answered {s : State} (f : Face) (x : Transfer) (h : HeldRequest) (free : s.purgeHolds = false) :
    (taken s f x).takeSlotRead f h = (taken s f x).answerRequest f h :=
  if_neg (by rw [show (taken s f x).purgeHolds = s.purgeHolds from rfl, free]; exact Bool.false_ne_true)

theorem cardBytes_length (v : Option Card) : (cardBytes v).length = 12 := by
  cases v <;> rfl

theorem routeBytes_length (v : Option RouteRecord) : (routeBytes v).length = 7 := by
  cases v <;> rfl

/-- Twelve card slots and the route slot fill READ_SLOTS's row (R199). -/
theorem padResults_slotResults (c : FaceContext) : padResults 0x40 c.slotResults = c.slotResults := by
  have cards : (c.cards.toList.flatMap cardBytes).length = 144 := by
    simp [List.length_flatMap, cardBytes_length]
  have length : c.slotResults.length = 151 := by
    rw [FaceContext.slotResults, List.length_append, cards, routeBytes_length]
  rw [padResults, length]
  exact List.append_nil _

/-- The lowest-numbered slot that a point hits is the one that HIT_TEST names (R157). -/
theorem hitResults_of_hit {c : FaceContext} {x y : Nat} {i : Fin 12} {card : Card} (slot : c.cards[i] = some card)
    (hit : cardHit x y (some card) = true) (lowest : ∀ j : Fin 12, j < i → cardHit x y c.cards[j] = false) :
    c.hitResults x y = [1, byteOf i.val] ++ word16Of card.entry ++ [cardStateCode (some card)] := by
  have found : (List.finRange 12).find? (fun j => cardHit x y c.cards[j]) = some i := by
    rw [List.find?_eq_some_iff_getElem]
    refine ⟨by rw [slot]; exact hit, i.val, by simp, by simp, fun j before => ?_⟩
    simpa using lowest ⟨j, by omega⟩ before
  unfold FaceContext.hitResults
  rw [found]
  simp only [slot]

theorem hitResults_of_miss {c : FaceContext} {x y : Nat} (misses : ∀ j : Fin 12, cardHit x y c.cards[j] = false) :
    c.hitResults x y = [0] := by
  have unfound : (List.finRange 12).find? (fun j => cardHit x y c.cards[j]) = none := by
    rw [List.find?_eq_none]
    exact fun j _ => by simpa using misses j
  unfold FaceContext.hitResults
  rw [unfound]

/-- Taking a request touches the port alone, so what the slots hold is still read. -/
theorem taken_slotResults (s : State) (f : Face) (x : Transfer) : ((taken s f x).face f).slotResults = (s.face f).slotResults := by
  rw [taken, modFace_face_same]
  rfl

theorem taken_hitResults (s : State) (f : Face) (x : Transfer) (px py : Nat) :
    ((taken s f x).face f).hitResults px py = (s.face f).hitResults px py := by
  rw [taken, modFace_face_same]
  rfl

/-- Settles O33, by R156 and R157 for the slots and by R56 for the parameters of the queries. -/
theorem slotsAreReadAndRangesChecked : Obligations.SlotsAreReadAndRangesChecked := by
  refine ⟨fun card => rfl, rfl, fun r => ?_, rfl, fun x y card => ?_, fun x y => rfl, fun s f x ready =>
    ⟨fun empty => ⟨fun free => ?_, fun busy => ?_⟩, fun length right low => ⟨fun busy => ?_, fun free => ⟨?_, fun misses => ?_⟩⟩,
      fun length out => ?_, fun length out => ?_, fun length out => ?_, fun length out => ?_⟩⟩
  · have colour : r.colour.setWidth 8 = byteOf r.colour.toNat := BitVec.eq_of_toNat_eq (by simp [byteOf])
    rw [routeBytes, colour]
    rfl
  · simp [cardHit, Rect.contains]
  · rw [exec_readSlots ready empty, slotRead_answered f x _ free, State.answerRequest, taken_slotResults, answer_taken ready,
      padResults_slotResults]
    exact congrArg _ (modFace_congr rfl)
  · rw [exec_readSlots ready empty, slotRead_held f x _ busy]
  · rw [exec_hitTest ready length, if_neg (by omega), slotRead_held f x _ busy]
  · intro i card slot hit lowest
    rw [exec_hitTest ready length, if_neg (by omega), slotRead_answered f x _ free, State.answerRequest, taken_hitResults,
      answer_taken ready, hitResults_of_hit slot hit lowest]
    rfl
  · rw [exec_hitTest ready length, if_neg (by omega), slotRead_answered f x _ free, State.answerRequest, taken_hitResults,
      answer_taken ready, hitResults_of_miss misses]
    rfl
  · rw [exec_hitTest ready length, if_pos out, answer_taken ready]
    rfl
  · rw [exec_readEntry ready length, readEntryQuery_out_of_range out, query_refused x _ ready]
    rfl
  · rw [exec_listWindow ready length, listWindowQuery_out_of_range out, query_refused x _ ready]
    rfl
  · rw [exec_findPrefix ready length, findPrefixQuery_out_of_range out, query_refused x _ ready]
    rfl

end Sys2Proof.Machine.UpdateTransactions
end

section
/-! PROOFS. The ends of a reposition and of a purge, and the requests that their ports held. -/

namespace Sys2Proof.Machine.UpdateTransactions

open Sys2Proof Sys2Proof.Machine

/-! ### The held requests -/

theorem answer_face (s : State) (f : Face) (code : ReplyCode) (request : Byte) (results : Bytes) :
    (s.answer f code request results).face f =
      answeredContext (s.face f) (s.enabled f) ⟨code, request, padResults request results⟩ := by
  rw [answer_eq, modFace_face_same]

/-- A RESET_FACE applied and answered (R82): REPLY_READY alone is latched. -/
theorem applyReset_face (s : State) (f : Face) :
    (s.applyReset f).face f = answeredContext (s.face f).resetFace (s.enabled f) ⟨.ok, 0x50, []⟩ := by
  unfold State.applyReset
  rw [answer_face, modFace_face_same]
  rfl

/-- After a reset is answered, REPLY_READY stands alone in the latch of an enabled face (R82). -/
theorem answered_reset_latch (c : FaceContext) (on : Bool) (r : Reply) :
    (answeredContext c.resetFace on r).latch = if on = true then 1 else 0 := by
  cases on with
  | false => rfl
  | true => exact BitVec.zero_or

/-- The reply that the owner of a held request gives, as the state stands (R53, R156, R157). -/
def heldReply (s : State) (f : Face) : HeldRequest → Reply
  | .readEntry n l => ⟨(s.readEntryAnswer n l).1, 0x10, padResults 0x10 (s.readEntryAnswer n l).2⟩
  | .listWindow l start count filter => ⟨.ok, 0x11, padResults 0x11 (s.windowResults l start count filter)⟩
  | .findPrefix l codes => ⟨.ok, 0x12, padResults 0x12 (s.prefixResults l codes)⟩
  | .readSlots => ⟨.ok, 0x40, padResults 0x40 (s.face f).slotResults⟩
  | .hitTest x y => ⟨.ok, 0x41, padResults 0x41 ((s.face f).hitResults x y)⟩
  | .resetFace => ⟨.ok, 0x50, []⟩

/-- What an answer to a held request leaves of its face: the reply, after the reset where the request is RESET_FACE. -/
theorem answerRequest_face (s : State) (f : Face) (h : HeldRequest) :
    (s.answerRequest f h).face f =
      answeredContext (if h = .resetFace then (s.face f).resetFace else s.face f) (s.enabled f) (heldReply s f h) := by
  cases h with
  | resetFace => exact applyReset_face s f
  | _ => exact answer_face s f _ _ _

theorem answerRequest_face_ne (s : State) {f g : Face} (other : f ≠ g) (h : HeldRequest) : (s.answerRequest f h).face g = s.face g := by
  cases h with
  | resetFace => exact applyReset_face_ne s other
  | _ => exact answer_face_ne s other _ _ _

theorem answerHeld_of_none {s : State} {f : Face} (which : HeldRequest → Bool) (h : (s.face f).port.inProgress = none) :
    State.answerHeld which s f = s := by
  simp only [State.answerHeld, h]

theorem answerHeld_of_some {s : State} {f : Face} {h : HeldRequest} (which : HeldRequest → Bool)
    (held : (s.face f).port.inProgress = some h) : State.answerHeld which s f = if which h = true then s.answerRequest f h else s := by
  simp only [State.answerHeld, held]

/-- A held request of another kind stays held. -/
theorem answerHeld_of_other {s : State} {f : Face} (which : HeldRequest → Bool)
    (others : ∀ h, (s.face f).port.inProgress = some h → which h = false) : State.answerHeld which s f = s := by
  cases held : (s.face f).port.inProgress with
  | none => exact answerHeld_of_none which held
  | some h => rw [answerHeld_of_some which held, others h held]; rfl

theorem answerHeld_face_ne (which : HeldRequest → Bool) (s : State) {f g : Face} (other : f ≠ g) :
    (State.answerHeld which s f).face g = s.face g := by
  cases held : (s.face f).port.inProgress with
  | none => rw [answerHeld_of_none which held]
  | some h =>
    rw [answerHeld_of_some which held]
    split
    · exact answerRequest_face_ne s other h
    · rfl

theorem answerHeld_outside (which : HeldRequest → Bool) (s : State) (f : Face) :
    s.SameOutsideFaces (State.answerHeld which s f) := by
  cases held : (s.face f).port.inProgress with
  | none => rw [answerHeld_of_none which held]; rfl
  | some h =>
    rw [answerHeld_of_some which held]
    split
    · exact answerRequest_outside s f h
    · rfl

/-- A reply to a held request looks at no face but its own. -/
theorem heldReply_local {s t : State} {f : Face} (outside : s.SameOutsideFaces t) (own : t.face f = s.face f) (h : HeldRequest) :
    heldReply t f h = heldReply s f h := by
  cases h with
  | readSlots => simp only [heldReply, own]
  | hitTest x y => simp only [heldReply, own]
  | _ => rw [outside]; rfl

/-- A directory query looks at no face at all. -/
theorem heldReply_query {s t : State} {f : Face} {h : HeldRequest} (outside : s.SameOutsideFaces t) (query : h.isQuery = true) :
    heldReply t f h = heldReply s f h := by
  cases h with
  | readEntry n l => rw [outside]; rfl
  | listWindow l start count filter => rw [outside]; rfl
  | findPrefix l codes => rw [outside]; rfl
  | _ => cases query

theorem heldReply_readEntry_free {s : State} {n : Nat} (f : Face) (l : Fin 4) (h : (s.entry n).state = .free) :
    heldReply s f (.readEntry n l) =
      ⟨.notLive, 0x10, padResults 0x10 ([0x00, (s.entry n).generation] ++ Word16.bytes s.update.count)⟩ := by
  simp only [heldReply, State.readEntryAnswer, h, if_true]
  rfl

theorem heldReply_readEntry_held {s : State} {n : Nat} (f : Face) (l : Fin 4) (h : (s.entry n).state ≠ .free) :
    heldReply s f (.readEntry n l) = ⟨.ok, 0x10, padResults 0x10 (s.entryResults n l)⟩ := by
  simp only [heldReply, State.readEntryAnswer, h, if_false]

theorem answerHeld_local {s t : State} {f : Face} (which : HeldRequest → Bool) (outside : s.SameOutsideFaces t)
    (own : t.face f = s.face f) : (State.answerHeld which t f).face f = (State.answerHeld which s f).face f := by
  have enabled : t.enabled f = s.enabled f := by rw [outside]; rfl
  cases held : (s.face f).port.inProgress with
  | none => rw [answerHeld_of_none which held, answerHeld_of_none which (own ▸ held), own]
  | some h =>
    rw [answerHeld_of_some which held, answerHeld_of_some which (own ▸ held)]
    split
    · rw [answerRequest_face, answerRequest_face, own, enabled, heldReply_local outside own]
    · exact own

/-- Among distinct faces, each is answered as if it were the only one. -/
theorem foldl_answerHeld_face (which : HeldRequest → Bool) (f : Face) (fs : List Face) (distinct : fs.Nodup) (s : State) :
    (fs.foldl (State.answerHeld which) s).face f = if f ∈ fs then (State.answerHeld which s f).face f else s.face f := by
  induction fs generalizing s with
  | nil => rfl
  | cons g fs ih =>
    obtain ⟨fresh, distinct⟩ := List.nodup_cons.mp distinct
    rw [List.foldl_cons, ih distinct]
    by_cases this : f = g
    · subst this
      simp [fresh]
    · have own := answerHeld_face_ne which s (Ne.symm this)
      rw [answerHeld_local which (answerHeld_outside which s g) own, own]
      simp [this]

theorem answerAllHeld_face (s : State) (which : HeldRequest → Bool) (f : Face) :
    (s.answerAllHeld which).face f = (State.answerHeld which s f).face f := by
  have listed : f ∈ [(0 : Face), 1, 2, 3] := by revert f; decide
  rw [State.answerAllHeld, foldl_answerHeld_face which f _ (by decide), if_pos listed]

/-! ### The lists after a reposition -/

/-- An insertion leaves the other entries in their order (R51). -/
theorem insertEntry_filter (s : State) (l : Fin 4) (n : Nat) (list : List Nat) :
    (s.insertEntry l n list).filter (fun m => m != n) = list.filter (fun m => m != n) := by
  induction list with
  | nil => simp [State.insertEntry]
  | cons m ms ih =>
    rw [State.insertEntry]
    split
    · simp
    · rw [List.filter_cons, List.filter_cons, ih]

theorem insertEntry_count (s : State) (l : Fin 4) (n : Nat) (list : List Nat) :
    (s.insertEntry l n list).count n = list.count n + 1 := by
  induction list with
  | nil => simp [State.insertEntry]
  | cons m ms ih =>
    rw [State.insertEntry]
    split
    · simp
    · rw [List.count_cons, List.count_cons, ih]
      omega

theorem repositioned_filter (s : State) (r : Reposition) (l : Fin 4) :
    (s.repositioned r l).filter (fun m => m != r.entry) = s.orders.lists[l].filter (fun m => m != r.entry) := by
  unfold State.repositioned
  by_cases old : r.old = .live <;> by_cases new : r.new = .live <;> simp [old, new, insertEntry_filter]

/-- The entry stands in a list once if it is LIVE now, and not at all otherwise (R51). -/
theorem repositioned_count {s : State} {r : Reposition} {l : Fin 4} (h : r.old = .live ∨ r.entry ∉ s.orders.lists[l]) :
    (s.repositioned r l).count r.entry = if r.new = .live then 1 else 0 := by
  have absent : (if r.old = .live then s.orders.lists[l].filter (fun m => m != r.entry) else s.orders.lists[l]).count r.entry = 0 := by
    rw [List.count_eq_zero]
    split
    · simp
    · next old => exact h.resolve_left old
  unfold State.repositioned
  by_cases new : r.new = .live
  · simp only [new, if_true, insertEntry_count, absent]
  · simp only [new, if_false, absent]

/-- The state in which the held queries are answered: the lists moved and the commit done (R52, R53). -/
def repositionedState (s : State) (r : Reposition) (x : Txn) : State :=
  { s with orders := ⟨Vector.ofFn (fun l : Fin 4 => s.repositioned r l), none⟩, update := s.update.done x.tag }

theorem exec_repositionDone {s : State} {r : Reposition} {x : Txn} (h : s.orders.reposition = some r) (txn : s.update.txn = some x) :
    exec .repositionDone s = .next ((repositionedState s r x).answerAllHeld HeldRequest.isQuery) := by
  show execRepositionDone s = _
  simp only [execRepositionDone, h]
  rw [show (s.listsMoved r).commitDone = repositionedState s r x from commitDone_of_txn (by exact txn)]

/-- Settles O46: the lists take their new content, and each held query is answered from the state that is then left. -/
theorem repositionEndsTheCommit : Obligations.RepositionEndsTheCommit := by
  intro s r x h txn
  obtain ⟨u, hu⟩ : ∃ u, u = repositionedState s r x := ⟨_, rfl⟩
  obtain ⟨t, ht⟩ : ∃ t, t = u.answerAllHeld HeldRequest.isQuery := ⟨_, rfl⟩
  have outside : u.SameOutsideFaces t := ht ▸ answerAllHeld_outside u _
  have faces (f : Face) : t.face f = (State.answerHeld HeldRequest.isQuery u f).face f := ht ▸ answerAllHeld_face u _ f
  have before (f : Face) : u.face f = s.face f := by rw [hu]; rfl
  have lists (l : Fin 4) : t.orders.lists[l] = s.repositioned r l := by
    rw [outside, hu]
    simp [repositionedState]
  refine ⟨t, by rw [ht, hu]; exact exec_repositionDone h txn, by rw [outside, hu]; rfl, fun l => ⟨?_, fun gone => ?_⟩, fun f => ?_⟩
  · rw [lists, repositioned_filter]
  · rw [lists, repositioned_count gone]
  · have answered {h : HeldRequest} (held : (s.face f).port.inProgress = some h) (query : h.isQuery = true) :
        t.face f = answeredContext (s.face f) (s.enabled f) (heldReply t f h) := by
      rw [heldReply_query outside query, faces, answerHeld_of_some _ ((before f).symm ▸ held), if_pos query, answerRequest_face,
        if_neg (by rintro rfl; cases query), before, hu]
      rfl
    have kept (others : ∀ h, (s.face f).port.inProgress = some h → h.isQuery = false) : t.face f = s.face f := by
      rw [faces, ← before f]
      exact congrArg (fun v => v.face f) (answerHeld_of_other _ (by rw [before]; exact others))
    refine ⟨?_, fun other => kept ?_, fun n l held state => ?_, fun n l held state => ?_, fun l start count filter held => ?_,
      fun l codes held => ?_, fun asked => ?_⟩
    · cases held : (s.face f).port.inProgress with
      | none => rw [kept (by simp [held])]
      | some h =>
        cases query : h.isQuery with
        | true => rw [answered held query]; rfl
        | false => rw [kept (by simp [held, query])]
    · rcases other with free | reset | slots | ⟨px, py, hit⟩ <;> simp_all [HeldRequest.isQuery]
    · have live : (t.entry n).state ≠ .free := by rw [outside, hu]; exact state
      rw [answered held rfl, heldReply_readEntry_held f l live]
      rfl
    · have free : (t.entry n).state = .free := by rw [outside, hu]; exact state
      rw [answered held rfl, heldReply_readEntry_free f l free, outside, hu]
      rfl
    · rw [answered held rfl]
      rfl
    · rw [answered held rfl]
      rfl
    · rcases asked with ⟨n, l, held⟩ | ⟨l, start, count, filter, held⟩ | ⟨l, codes, held⟩ <;> rw [answered held rfl] <;> rfl

/-! ### The purge -/

theorem exec_purgeGrant {s : State} {claims : List Face} (free : s.arbiter.holder = none)
    (decision : s.arbiter.decision = some ⟨.purge, claims⟩) : exec .purgeGrant s = .next s.purgeGrant := by
  show execPurgeGrant s = _
  simp only [execPurgeGrant, free, decision, Option.map_some, and_self, if_true]

theorem purgeGrant_face (s : State) (f : Face) :
    s.purgeGrant.face f = { s.face f with queue := (s.face f).queue.haltedBy .purged } := by
  unfold State.purgeGrant State.haltQueues
  rw [mapFaces_face]
  rfl

/-- A context at the end of a purge, before its held request is answered (R45, R154); `on` tells whether the face is enabled. -/
def purgedContext (c : FaceContext) (on : Bool) : FaceContext :=
  { c with
    cards := vmap cardPurged c.cards, route := routePurged c.route
    latch := if on = true then
        c.latch ||| 0x1C0 ||| (if c.cards.toList.any Option.isSome = true then 0x010 else 0) ||| (if c.route.isSome = true then 0x020 else 0)
      else c.latch }

/-- The three events of a purge are raised after those of the slots, which come to one set (R45, R154). -/
theorem purge_events (latch slots route : EventSet) :
    latch ||| slots ||| route ||| 0x040 ||| 0x080 ||| 0x100 = latch ||| 0x1C0 ||| slots ||| route := by
  have three : (0x1C0 : EventSet) = 0x040 ||| 0x080 ||| 0x100 := rfl
  rw [three]
  ac_rfl

theorem purgeSlots_eq (c : FaceContext) (on : Bool) : c.purgeSlots on =
    { c with
      cards := vmap cardPurged c.cards, route := routePurged c.route
      latch := if on = true then
          c.latch ||| (if c.cards.toList.any Option.isSome = true then 0x010 else 0) ||| (if c.route.isSome = true then 0x020 else 0)
        else c.latch } := by
  unfold FaceContext.purgeSlots FaceContext.latchIf FaceContext.latching
  cases on with
  | false => rfl
  | true =>
    cases c.cards.toList.any Option.isSome <;> cases c.route.isSome <;> simp [Event.bit, Event.index]

theorem raiseAll_enabled (s : State) (e : Event) (f : Face) : (s.raiseAll e).enabled f = s.enabled f := rfl

theorem purgeNotice_face (s : State) (f : Face) : s.purgeNotice.face f = purgedContext (s.face f) (s.enabled f) := by
  unfold State.purgeNotice
  simp only [raiseAll_face, raiseAll_enabled, mapFaces_face, mapFaces_enabled, purgeSlots_eq, purgedContext, ← purge_events]
  cases s.enabled f <;> rfl

/-- The state at the end of a purge in which the held requests are answered (R44, R45). -/
def purgedState (s : State) : State :=
  (s.clearStores.purgeNotice.modUpdate
    (fun u => { u with purging := false, state := .idle, count := u.count + 1, chain := Chain.empty })).release

theorem purgedState_face (s : State) (f : Face) : (purgedState s).face f = purgedContext (s.face f) (s.enabled f) :=
  purgeNotice_face s.clearStores f

theorem exec_purgeEnd {s : State} (holds : s.arbiter.holder = some .purge) :
    exec .purgeEnd s = .next ((purgedState s).answerAllHeld (fun _ => true)).arbitrate := by
  have held : s.purgeHolds = true := by simp [State.purgeHolds, holds]
  show execPurgeEnd s = _
  simp only [execPurgeEnd, held, if_true]
  rfl

/-- What a face is left as at the end of a purge: its held request answered, a RESET_FACE after the purge's events (R44, R81). -/
def afterPurge (s : State) (f : Face) : FaceContext :=
  match (s.face f).port.inProgress with
  | none => purgedContext (s.face f) (s.enabled f)
  | some h =>
    answeredContext
      (if h = .resetFace then (purgedContext (s.face f) (s.enabled f)).resetFace else purgedContext (s.face f) (s.enabled f))
      (s.enabled f) (heldReply (purgedState s) f h)

theorem answered_after_purge (s : State) (f : Face) : ((purgedState s).answerAllHeld (fun _ => true)).face f = afterPurge s f := by
  rw [answerAllHeld_face, afterPurge]
  have request : ((purgedState s).face f).port.inProgress = (s.face f).port.inProgress := by rw [purgedState_face]; rfl
  cases held : (s.face f).port.inProgress with
  | none => rw [answerHeld_of_none _ (request.trans held), purgedState_face]
  | some h =>
    rw [answerHeld_of_some _ (request.trans held), if_pos rfl, answerRequest_face, purgedState_face]
    rfl

theorem purgedState_list (s : State) (l : Fin 4) : (purgedState s).orders.lists[l] = [] := by
  show (Vector.replicate 4 ([] : List Nat))[l] = []
  simp

/-- A window on an empty list has no tuple (R60). -/
theorem windowResults_of_empty (s : State) (l : Fin 4) (start count : Nat) (filter : Option Nat) (empty : s.orders.lists[l] = []) :
    s.windowResults l start count filter = [0, 0] ++ Word16.bytes s.update.count ++ [0] := by
  simp [State.windowResults, State.windowTuples, empty]
  rfl

theorem any_isSome_iff (cards : Vector (Option Card) 12) :
    cards.toList.any Option.isSome = true ↔ ∃ i : Fin 12, cards[i] ≠ none := by
  simp only [List.any_eq_true, Vector.mem_toList_iff, Vector.mem_iff_getElem]
  constructor
  · rintro ⟨v, ⟨i, inside, rfl⟩, tracked⟩
    exact ⟨⟨i, inside⟩, Option.isSome_iff_ne_none.mp tracked⟩
  · rintro ⟨i, tracked⟩
    exact ⟨_, ⟨i.val, i.isLt, rfl⟩, Option.isSome_iff_ne_none.mpr tracked⟩

theorem purgedContext_cards (c : FaceContext) (on : Bool) (i : Fin 12) :
    (purgedContext c on).cards[i] = c.cards[i].map (fun card => { card with state := .gone }) := by
  rw [purgedContext, vmap_getElem]
  cases c.cards[i] <;> rfl

theorem purgedContext_route (c : FaceContext) (on : Bool) :
    (purgedContext c on).route = c.route.map (fun v => { v with state := .gone }) := by
  rw [purgedContext]
  cases c.route <;> rfl

theorem purgedContext_latch (c : FaceContext) : (purgedContext c true).latch = c.latch ||| 0x1C0
    ||| (if ∃ i : Fin 12, c.cards[i] ≠ none then 0x010 else 0) ||| (if c.route ≠ none then 0x020 else 0) := by
  simp only [purgedContext, if_true, any_isSome_iff, Option.isSome_iff_ne_none]

theorem afterPurge_of_none {s : State} {f : Face} (h : (s.face f).port.inProgress = none) :
    afterPurge s f = purgedContext (s.face f) (s.enabled f) := by
  simp only [afterPurge, h]

theorem afterPurge_of_read {s : State} {f : Face} {h : HeldRequest} (held : (s.face f).port.inProgress = some h) (read : h ≠ .resetFace) :
    afterPurge s f = answeredContext (purgedContext (s.face f) (s.enabled f)) (s.enabled f) (heldReply (purgedState s) f h) := by
  simp only [afterPurge, held, read, if_false]

theorem afterPurge_of_reset {s : State} {f : Face} (h : (s.face f).port.inProgress = some .resetFace) :
    afterPurge s f = answeredContext (purgedContext (s.face f) (s.enabled f)).resetFace (s.enabled f) ⟨.ok, 0x50, []⟩ := by
  simp only [afterPurge, h, if_true, heldReply]

/-- A face after a purge, with a read held behind it or with no request held (R44, R45, R154). -/
theorem afterPurge_kept {s : State} {f : Face} (read : (s.face f).port.inProgress ≠ some .resetFace) :
    afterPurge s f = { s.face f with
      cards := (afterPurge s f).cards, route := (afterPurge s f).route, latch := (afterPurge s f).latch, port := (afterPurge s f).port } ∧
    (∀ i : Fin 12, (afterPurge s f).cards[i] = (s.face f).cards[i].map (fun card => { card with state := .gone })) ∧
    (afterPurge s f).route = (s.face f).route.map (fun v => { v with state := .gone }) ∧
    ((s.face f).port.inProgress = none → (afterPurge s f).port = (s.face f).port) ∧
    (s.enabled f = false → (afterPurge s f).latch = (s.face f).latch) ∧
    (s.enabled f = true → (afterPurge s f).latch = (s.face f).latch ||| 0x1C0
      ||| (if ∃ i : Fin 12, (s.face f).cards[i] ≠ none then 0x010 else 0)
      ||| (if (s.face f).route ≠ none then 0x020 else 0)
      ||| (if (s.face f).port.inProgress ≠ none then 0x001 else 0)) := by
  have cards := purgedContext_cards (s.face f) (s.enabled f)
  have route := purgedContext_route (s.face f) (s.enabled f)
  have latch := purgedContext_latch (s.face f)
  cases held : (s.face f).port.inProgress with
  | none =>
    rw [afterPurge_of_none held]
    refine ⟨rfl, cards, route, fun _ => rfl, fun off => by rw [off]; rfl, fun on => ?_⟩
    simp only [on, latch, ne_eq, not_true_eq_false, if_false]
    exact (BitVec.or_zero ..).symm
  | some h =>
    rw [afterPurge_of_read held (by rintro rfl; exact read held)]
    refine ⟨rfl, cards, route, fun free => by simp at free, fun off => by rw [off]; rfl, fun on => ?_⟩
    rw [on, if_pos (Option.some_ne_none h), ← latch]
    rfl

/-- What EA decides does not depend on what it has decided (R107). -/
theorem grantDecision_setDecision (s : State) (d : Option Decision) : (s.setDecision d).grantDecision = s.grantDecision := rfl

/-- Settles O48: the grant halts the queues, and the end leaves `purgedState` with every held request answered. -/
theorem purgeClearsTheStores : Obligations.PurgeClearsTheStores := by
  refine ⟨fun s claims free decision => ⟨_, exec_purgeGrant free decision, rfl, fun f => ?_⟩, fun s holds => ?_⟩
  · rw [purgeGrant_face]
    unfold Queue.haltedBy
    cases (s.face f).queue.state <;> rfl
  · obtain ⟨v, hv⟩ : ∃ v, v = (purgedState s).answerAllHeld (fun _ => true) := ⟨_, rfl⟩
    have outside : (purgedState s).SameOutsideFaces v := hv ▸ answerAllHeld_outside _ _
    obtain ⟨faces, rfl⟩ : ∃ faces, v = { purgedState s with faces := faces } := ⟨_, outside⟩
    have runs := exec_purgeEnd holds
    rw [← hv, arbitrate_of_undecided rfl rfl] at runs
    refine ⟨_, runs, by rw [grantDecision_setDecision]; rfl, fun f => ?_⟩
    rw [setDecision_face, hv, answered_after_purge]
    refine ⟨?_, afterPurge_kept, fun held => ?_, fun l start count filter held => ?_, fun held => ?_⟩
    · cases held : (s.face f).port.inProgress with
      | none => rw [afterPurge_of_none held]; exact held
      | some h => simp only [afterPurge, held]; rfl
    · rw [afterPurge_of_read held (by simp), heldReply, padResults_slotResults, purgedState_face]
      rfl
    · rw [afterPurge_of_read held (by simp), heldReply, windowResults_of_empty _ _ _ _ _ (purgedState_list s l)]
      rfl
    · rw [afterPurge_of_reset held]
      refine ⟨rfl, rfl, rfl, ?_⟩
      rw [answered_reset_latch]
      split <;> decide

end Sys2Proof.Machine.UpdateTransactions
end

section
/-! PROOFS. The end of a segment: what it leaves of its face's queue, latch and slots, and what waits for it. -/

namespace Sys2Proof.Machine.UpdateTransactions

open Sys2Proof Sys2Proof.Machine

/-! ### The stages of an end, on the segment's face -/

/-- The context that ST leaves at the end of a segment (R146, R147). -/
def reportedContext (c : FaceContext) (g : Segment) (faulted : Bool) : FaceContext :=
  { c with
    cards := match g.card with
      | some slot => c.cards.set slot (cardEnd (if faulted then .broken else .current) c.cards[slot])
      | none => c.cards
    route := if g.routed = true then routeEnd faulted c.route else c.route }

theorem reportEnd_face (s : State) (g : Segment) (faulted : Bool) :
    (s.reportEnd g faulted).face g.face = reportedContext (s.face g.face) g faulted := by
  unfold State.reportEnd
  rw [modFace_face_same]
  obtain ⟨_, _, _, _, _, card, routed, _⟩ := g
  cases card <;> cases routed <;> rfl

/-- A latch after an event raised where a condition holds; `on` tells whether the face is enabled (R158). -/
def latchedIf (latch : EventSet) (on b : Bool) (e : Event) : EventSet := if (on && b) = true then latch ||| e.bit else latch

theorem raise_face_latch (s : State) (f : Face) (e : Event) :
    (s.raise f e).face f = { s.face f with latch := latchedIf (s.face f).latch (s.enabled f) true e } := by
  rw [raise_eq, modFace_face_same]
  simp only [latchedIf, Bool.and_true]

theorem raiseIf_face (s : State) (b : Bool) (f : Face) (e : Event) :
    (s.raiseIf b f e).face f = { s.face f with latch := latchedIf (s.face f).latch (s.enabled f) b e } := by
  cases b with
  | true => exact raise_face_latch s f e
  | false => simp [State.raiseIf, latchedIf]

theorem modQueue_face (s : State) (f : Face) (u : Queue → Queue) :
    (s.modQueue f u).face f = { s.face f with queue := u (s.face f).queue } := modFace_face_same s f _

/-- The fault record of a queue after the end of its segment (R103, R104). -/
def recordAfter (q : Queue) (g : Segment) (fault : Option FaultReason) : Option FaultRecord :=
  match fault with
  | some why => some (faultRecord g.cell q.stack why)
  | none => q.fault

theorem recordFault_face (s : State) (g : Segment) (fault : Option FaultReason) :
    (s.recordFault g fault).face g.face = { s.face g.face with
      queue := { (s.face g.face).queue with fault := recordAfter (s.face g.face).queue g fault }
      latch := latchedIf (s.face g.face).latch (s.enabled g.face) fault.isSome .segmentFault } := by
  cases fault with
  | none => simp [State.recordFault, recordAfter, latchedIf]
  | some why =>
    simp only [State.recordFault]
    rw [raise_face_latch, modQueue_face]
    rfl

theorem queueEnd_face (s : State) (f : Face) (i : Fin 16) (e : SegmentEnd) :
    (s.queueEnd f i e).face f = { s.face f with
      queue := (s.face f).queue.afterEnd e
      latch := latchedIf (latchedIf (s.face f).latch (s.enabled f) ((s.face f).queue.notifies i e) .segmentDone) (s.enabled f)
        (decide (((s.face f).queue.afterEnd e).state = .idle)) .queueIdle } := by
  have enabled : (s.raiseIf ((s.face f).queue.notifies i e) f .segmentDone).enabled f = s.enabled f := by
    rw [raiseIf_outside s _ f _]; rfl
  simp only [State.queueEnd]
  rw [raiseIf_face, modQueue_face, raiseIf_face]
  simp only [State.modQueue, modFace_enabled, enabled]

theorem takeoverEnd_face (s : State) (f : Face) : (s.takeoverEnd f).face f = { s.face f with
    queue := if s.evac.state = .takeover then (s.face f).queue.haltedAtEnd .evac else (s.face f).queue } := by
  unfold State.takeoverEnd
  split
  · rw [modQueue_face]
  · rfl

/-- What QC is given as a segment ends (R90). -/
def endOf (g : Segment) (fault : Option FaultReason) : SegmentEnd := ⟨fault, g.pulsed, decide (g.kind = some .waitFrame)⟩

/-- The queue record as QC takes a segment's end: the stack emptied, the fault recorded (R103, R114). -/
def endingQueue (q : Queue) (g : Segment) (fault : Option FaultReason) : Queue := { q with stack := [], fault := recordAfter q g fault }

/-- The context of the segment's face after the end is taken; `takeover` tells whether EC is in TAKEOVER. -/
def endedContext (c : FaceContext) (g : Segment) (fault : Option FaultReason) (on takeover : Bool) : FaceContext :=
  { reportedContext c g fault.isSome with
    queue := if takeover = true then ((endingQueue c.queue g fault).afterEnd (endOf g fault)).haltedAtEnd .evac
      else (endingQueue c.queue g fault).afterEnd (endOf g fault)
    snapshot := none
    latch := latchedIf
      (latchedIf (latchedIf c.latch on fault.isSome .segmentFault) on ((endingQueue c.queue g fault).notifies g.cell (endOf g fault))
        .segmentDone)
      on (decide (((endingQueue c.queue g fault).afterEnd (endOf g fault)).state = .idle)) .queueIdle }

theorem emptyStack_enabled (s : State) (f g : Face) : (s.emptyStack f).enabled g = s.enabled g := by
  unfold State.emptyStack
  rw [returnUses_outside]
  rfl

theorem emptyStack_evac (s : State) (f : Face) : (s.emptyStack f).evac = s.evac := by
  unfold State.emptyStack
  rw [returnUses_outside]
  rfl

/-- The engine freed of its segment, and released (R110, R114). -/
def freed (t : State) : State := ({ t with engine := Engine.idle } : State).release

theorem freed_face (t : State) (f : Face) : (freed t).face f = t.face f := rfl
theorem freed_enabled (t : State) (f : Face) : (freed t).enabled f = t.enabled f := rfl
theorem freed_evac (t : State) : (freed t).evac = t.evac := rfl

theorem endTaken_face (s : State) (g : Segment) (fault : Option FaultReason) :
    (s.endTaken g fault).face g.face = endedContext (s.face g.face) g fault (s.enabled g.face) (decide (s.evac.state = .takeover)) := by
  obtain ⟨a, ha⟩ : ∃ a, a = (s.reportEnd g fault.isSome).recordFault g fault := ⟨_, rfl⟩
  obtain ⟨b, hb⟩ : ∃ b, b = freed (a.emptyStack g.face) := ⟨_, rfl⟩
  have taken : s.endTaken g fault = (b.queueEnd g.face g.cell (endOf g fault)).takeoverEnd g.face := by rw [hb, ha]; rfl
  have outside : s.SameOutsideFaces a := ha ▸ (modFace_outside s _ _).trans (recordFault_sameEnd _ g fault).1
  have enabled : b.enabled g.face = s.enabled g.face := by
    rw [hb, freed_enabled, emptyStack_enabled, outside]
    rfl
  have evac : (b.queueEnd g.face g.cell (endOf g fault)).evac = s.evac := by
    rw [queueEnd_outside b, hb, freed_evac, emptyStack_evac, outside]
  have context : b.face g.face = { a.face g.face with queue := { (a.face g.face).queue with stack := [] }, snapshot := none } := by
    rw [hb, freed_face, emptyStack_faces, if_pos rfl]
  rw [taken, takeoverEnd_face, queueEnd_face, evac, enabled, context, ha, recordFault_face, reportEnd_face]
  simp only [endedContext, endingQueue, decide_eq_true_eq]
  rfl

/-! ### The table of R90 -/

/-- The queue that the end of a segment leaves, the halt of a takeover apart: the first row of R90's table that holds. -/
theorem afterEnd_eq {q : Queue} {r : ActiveRange} (range : q.range = some r) (fault : Option FaultReason) (pulsed : Bool) :
    q.afterEnd ⟨fault, pulsed, false⟩ =
      match fault with
      | some why => q.halted (if why = .cut then .evac else .fault)
      | none =>
        if pulsed = true then q.halted .withdrawn
        else if q.stop = true ∨ r.next = r.last then q.idled
        else { q with state := .pending, range := some ⟨r.next + 1, r.last⟩ } := by
  cases fault with
  | some why => cases why <;> rfl
  | none =>
    cases pulsed with
    | true => rfl
    | false =>
      by_cases stop : q.stop = true
      · simp [Queue.afterEnd, stop]
      · by_cases last : r.next = r.last <;> simp [Queue.afterEnd, Queue.completed, ActiveRange.moved, stop, range, last]

/-- A queue becomes IDLE at a completion alone, with no PULSE entered, by a stop request or at its last cell (R90). -/
theorem afterEnd_idle_iff {q : Queue} {r : ActiveRange} (range : q.range = some r) (fault : Option FaultReason) (pulsed : Bool) :
    (q.afterEnd ⟨fault, pulsed, false⟩).state = .idle ↔ fault = none ∧ pulsed = false ∧ (q.stop = true ∨ r.next = r.last) := by
  rw [afterEnd_eq range]
  cases fault with
  | some why => simp [Queue.halted]
  | none =>
    cases pulsed with
    | true => simp [Queue.halted]
    | false =>
      by_cases done : q.stop = true ∨ r.next = r.last <;> simp [done, Queue.idled]

/-- The table of R90 with the halt of a takeover (R92, R174). -/
theorem afterEnd_takeover {q : Queue} {r : ActiveRange} (range : q.range = some r) (fault : Option FaultReason) (pulsed takeover : Bool) :
    (if takeover = true then (q.afterEnd ⟨fault, pulsed, false⟩).haltedAtEnd .evac else q.afterEnd ⟨fault, pulsed, false⟩) =
      if fault = some .cut then q.halted .evac
      else if fault ≠ none then q.halted (if takeover = true then .evac else .fault)
      else if pulsed = true then q.halted (if takeover = true then .evac else .withdrawn)
      else if q.stop = true ∨ r.next = r.last then q.idled
      else if takeover = true then q.halted .evac
      else { q with state := .pending, range := some ⟨r.next + 1, r.last⟩ } := by
  have halted (v : HaltReason) : (q.halted v).haltedAtEnd .evac = q.halted .evac := rfl
  rw [afterEnd_eq range]
  cases fault with
  | some why => by_cases cut : why = .cut <;> cases takeover <;> simp [cut, halted]
  | none =>
    cases pulsed with
    | true => cases takeover <;> simp [halted]
    | false =>
      by_cases done : q.stop = true ∨ r.next = r.last <;> cases takeover <;> simp [done] <;> rfl

/-! ### The slots and the latch at an end -/

theorem cardEnd_eq (next : CardState) (v : Option Card) :
    cardEnd next v = v.map (fun card => if card.state = .drawing then { card with state := next } else card) := by
  cases v with
  | none => rfl
  | some card => exact (apply_ite some _ _ _).symm

theorem routeEnd_eq (faulted : Bool) (v : Option RouteRecord) :
    routeEnd faulted v = v.bind (fun r =>
      if r.state = .drawing then (if faulted = true then none else some { r with state := .drawn }) else some r) := by
  cases v <;> rfl

/-- The CARD segment's slot, if still DRAWING, is CURRENT or BROKEN, and every other slot is left (R146). -/
theorem reportedContext_cards (c : FaceContext) (g : Segment) (fault : Option FaultReason) (i : Fin 12) :
    (reportedContext c g fault.isSome).cards[i] = c.cards[i].map (fun card =>
      if g.card = some i ∧ card.state = .drawing then { card with state := if fault = none then .current else .broken } else card) := by
  have next : (if fault.isSome = true then CardState.broken else .current) = if fault = none then .current else .broken := by
    cases fault <;> rfl
  unfold reportedContext
  cases card : g.card with
  | none => simp
  | some slot =>
    by_cases this : slot = i
    · subst this
      simp [cardEnd_eq, next]
    · have apart : slot.val ≠ i.val := fun e => this (Fin.ext e)
      simp [this, apart]

/-- The ROUTE segment's slot, if still DRAWING, is DRAWN or NONE (R147). -/
theorem reportedContext_route (c : FaceContext) (g : Segment) (fault : Option FaultReason) :
    (reportedContext c g fault.isSome).route = c.route.bind (fun v =>
      if g.routed = true ∧ v.state = .drawing then (if fault = none then some { v with state := .drawn } else none) else some v) := by
  unfold reportedContext
  cases g.routed with
  | false => simp
  | true =>
    simp only [if_true, true_and, routeEnd_eq]
    cases fault <;> rfl

theorem latchedIf_on (latch : EventSet) (b : Bool) (e : Event) : latchedIf latch true b e = latch ||| (if b = true then e.bit else 0) := by
  cases b with
  | true => rfl
  | false => exact (BitVec.or_zero ..).symm

/-- The end of a segment that is not a WAIT_FRAME (R90, R114). -/
theorem segmentEnded_arbitrate {s : State} {g : Segment} {r : ActiveRange} (fault : Option FaultReason)
    (range : (s.face g.face).queue.range = some r) (kind : g.kind ≠ some .waitFrame) :
    s.SegmentEnded (s.endTaken g fault).arbitrate g r fault := by
  obtain ⟨outside, templates, -, others⟩ := endTaken_changes s g fault
  have face := endTaken_face s g fault
  have ends : endOf g fault = ⟨fault, g.pulsed, false⟩ := by simp [endOf, kind]
  obtain ⟨u, hu⟩ : ∃ u, u = s.endTaken g fault := ⟨_, rfl⟩
  rw [← hu] at outside templates others face ⊢
  have free : u.arbiter = ⟨none, s.arbiter.lastServed, none⟩ := by rw [outside]
  rw [arbitrate_of_undecided (by rw [free]) (by rw [free])]
  constructor
  case released =>
    rw [grantDecision_setDecision]
    exact ⟨by rw [outside]; rfl, congrArg (fun v : Arbiter => { v with decision := u.grantDecision }) free⟩
  case outside =>
    obtain ⟨faces, table, rfl⟩ : ∃ faces table, u = { s with
        faces := faces, arbiter := ⟨none, s.arbiter.lastServed, none⟩, engine := ⟨none, [], false⟩
        templates := ⟨table, s.templates.copying, []⟩ } := ⟨_, _, outside⟩
    rfl
  case others => exact fun f other => others f (Ne.symm other)
  case context =>
    rw [setDecision_face, face]
    rfl
  case uses =>
    refine ⟨?_, ?_, fun k => ?_⟩
    · show u.templates.entered = []
      rw [outside]
    · show u.templates.copying = s.templates.copying
      rw [outside]
    · show (u.template k).cells = _ ∧ (u.template k).use = _
      rw [templates]
      exact ⟨rfl, rfl⟩
  case queue =>
    intro q hq
    have ending : endingQueue (s.face g.face).queue g fault = q := by
      rw [hq]
      cases fault <;> rfl
    have still : q.range = some r := by rw [hq]; exact range
    rw [setDecision_face, face]
    show (if decide (s.evac.state = .takeover) = true then _ else _) = _
    rw [ending, ends, afterEnd_takeover still]
    simp only [decide_eq_true_eq]
    rfl
  case latch =>
    rw [setDecision_face, face]
    show latchedIf (latchedIf (latchedIf _ _ _ _) _ _ _) _ _ _ = _
    cases on : s.enabled g.face with
    | false => rfl
    | true =>
      have idle := afterEnd_idle_iff (q := endingQueue (s.face g.face).queue g fault) range fault g.pulsed
      have notifies : (endingQueue (s.face g.face).queue g fault).notifies g.cell ⟨fault, g.pulsed, false⟩ = true ↔
          fault = none ∧ cellNotify (cellOf (s.face g.face).queue.ring g.cell) = true := by
        simp [Queue.notifies, Queue.cell, endingQueue]
      simp only [latchedIf_on, if_true, notifies, ends, decide_eq_true_eq, idle, Option.isSome_iff_ne_none]
      rfl
  case cards =>
    intro i
    rw [setDecision_face, face]
    exact reportedContext_cards _ g fault i
  case route =>
    rw [setDecision_face, face]
    exact reportedContext_route _ g fault

/-! ### What waits for an end -/

theorem releaseDeferred_of_not_deferred {s : State} (h : s.update.state ≠ .deferred) : s.releaseDeferred = s := by
  unfold State.releaseDeferred
  split
  · contradiction
  · rfl

/-- A deferred template commit is released at an end that leaves its template unused (R41). -/
theorem releaseDeferred_of_unused {s : State} {x : Txn} (deferred : s.update.state = .deferred) (txn : s.update.txn = some x)
    (unused : (s.template x.number).use = 0) : s.releaseDeferred = s.templateCommit x := by
  simp only [State.releaseDeferred, deferred, txn, unused, if_true]

theorem commitDone_face (s : State) (f : Face) : s.commitDone.face f = s.face f := by
  unfold State.commitDone
  split <;> rfl

theorem commitDone_settings (s : State) : s.commitDone.settings = s.settings := by
  unfold State.commitDone
  split <;> rfl

theorem templateCommit_of_not_load {s : State} {x : Txn} (op : x.op ≠ .load) :
    s.templateCommit x =
      ((s.setTemplate x.number ⟨none, (s.template x.number).use⟩).commitDone).raiseAll .templateChanged := by
  unfold State.templateCommit
  split
  · contradiction
  · rfl

/-- A template commit leaves the settings, and of a face at most an event in its latch (R37). -/
theorem templateCommit_keeps (s : State) (x : Txn) :
    (s.templateCommit x).settings = s.settings ∧
    ∀ f : Face, (s.templateCommit x).face f = { s.face f with latch := ((s.templateCommit x).face f).latch } := by
  by_cases op : x.op = .load
  · rw [templateCommit_load op]
    exact ⟨rfl, fun f => rfl⟩
  · rw [templateCommit_of_not_load op]
    refine ⟨commitDone_settings _, fun f => ?_⟩
    rw [raiseAll_face, commitDone_face]
    rfl

theorem releaseDeferred_keeps (s : State) :
    s.releaseDeferred.settings = s.settings ∧
    ∀ f : Face, s.releaseDeferred.face f = { s.face f with latch := (s.releaseDeferred.face f).latch } := by
  unfold State.releaseDeferred
  split
  · split
    · exact templateCommit_keeps s _
    · exact ⟨rfl, fun f => rfl⟩
  · exact ⟨rfl, fun f => rfl⟩

theorem applyHeldReset_of_held {s : State} {f : Face} (h : (s.face f).port.inProgress = some .resetFace) :
    s.applyHeldReset f = s.applyReset f := if_pos h

theorem applyHeldReset_of_not_held {s : State} {f : Face} (h : (s.face f).port.inProgress ≠ some .resetFace) :
    s.applyHeldReset f = s := if_neg h

theorem applyHeldReset_face_ne (s : State) {f g : Face} (other : f ≠ g) : (s.applyHeldReset f).face g = s.face g := by
  unfold State.applyHeldReset
  split
  · exact applyReset_face_ne s other
  · rfl

/-- The end taken leaves the port of its face, so a RESET_FACE held before it is held after it. -/
theorem endTaken_port (s : State) (g : Segment) (fault : Option FaultReason) :
    ((s.endTaken g fault).face g.face).port = (s.face g.face).port := by
  rw [endTaken_face]
  rfl

theorem released_port (s : State) (g : Segment) (fault : Option FaultReason) :
    ((s.endTaken g fault).releaseDeferred.face g.face).port = (s.face g.face).port := by
  rw [(releaseDeferred_keeps _).2, endTaken_port]

/-- The end of a segment with no deferred commit and no held RESET_FACE. -/
theorem segmentEnd_plain {s : State} {g : Segment} (fault : Option FaultReason) (undeferred : s.update.state ≠ .deferred)
    (unheld : (s.face g.face).port.inProgress ≠ some .resetFace) : s.segmentEnd g fault = (s.endTaken g fault).arbitrate := by
  have update : (s.endTaken g fault).update = s.update := by rw [(endTaken_changes s g fault).1]
  have release : (s.endTaken g fault).releaseDeferred = s.endTaken g fault :=
    releaseDeferred_of_not_deferred (by rw [update]; exact undeferred)
  have reset : (s.endTaken g fault).applyHeldReset g.face = s.endTaken g fault :=
    applyHeldReset_of_not_held (by rw [endTaken_port]; exact unheld)
  rw [State.segmentEnd, release, reset]

/-- The end of a segment that is not a WAIT_FRAME, with nothing waiting for it, is that of R90's table. -/
theorem segmentEnd_ended {s : State} {g : Segment} {r : ActiveRange} (fault : Option FaultReason)
    (range : (s.face g.face).queue.range = some r) (kind : g.kind ≠ some .waitFrame) (undeferred : s.update.state ≠ .deferred)
    (unheld : (s.face g.face).port.inProgress ≠ some .resetFace) : s.SegmentEnded (s.segmentEnd g fault) g r fault := by
  rw [segmentEnd_plain fault undeferred unheld]
  exact segmentEnded_arbitrate fault range kind

/-- The release of a deferred commit stands after the reset and EA's decision, which touch the segment's face and the arbiter. -/
theorem segmentEnd_released (s : State) (g : Segment) (fault : Option FaultReason) (v : State)
    (h : v = (s.endTaken g fault).releaseDeferred) :
    (s.segmentEnd g fault).update = v.update ∧ (s.segmentEnd g fault).templates = v.templates ∧
    (∀ f, g.face ≠ f → (s.segmentEnd g fault).face f = v.face f) ∧
    ((s.face g.face).port.inProgress ≠ some .resetFace → (s.segmentEnd g fault).face g.face = v.face g.face) := by
  have ends : s.segmentEnd g fault = (v.applyHeldReset g.face).arbitrate := by rw [h]; rfl
  have outside := applyHeldReset_outside v g.face
  rw [ends]
  refine ⟨?_, ?_, fun f other => ?_, fun unheld => ?_⟩
  · rw [arbitrate_update, outside]
  · rw [arbitrate_eq, outside]
    rfl
  · rw [arbitrate_face, applyHeldReset_face_ne v other]
  · rw [arbitrate_face, applyHeldReset_of_not_held (by rw [h, released_port]; exact unheld)]

/-- A RESET_FACE held at an end applies to the segment's face, after what the end does to it (R81, R82). -/
theorem segmentEnd_reset {s : State} {g : Segment} (fault : Option FaultReason)
    (held : (s.face g.face).port.inProgress = some .resetFace) :
    (s.segmentEnd g fault).face g.face = { s.face g.face with
      language := 0, window := ⟨540, 960, 2048, 2048, 0, 4⟩, image := []
      port := ⟨none, some ⟨.ok, 0x50, []⟩, (s.face g.face).port.dataOut⟩
      palette := { (s.face g.face).palette with own := defaultPalette, pending := Vector.replicate 16 none }
      queue := ⟨[], .idle, none, none, false, [], none⟩, snapshot := none
      cards := Vector.replicate 12 none, route := none
      latch := if s.enabled g.face = true then 1 else 0, mask := 0, waitCount := 0 } := by
  obtain ⟨v, hv⟩ : ∃ v, v = (s.endTaken g fault).releaseDeferred := ⟨_, rfl⟩
  have enabled : v.enabled g.face = s.enabled g.face := by
    have settings : v.settings = s.settings := by rw [hv, (releaseDeferred_keeps _).1, (endTaken_changes s g fault).1]
    rw [State.enabled, settings]
    rfl
  have context : (v.face g.face).resetFace = (s.face g.face).resetFace := by
    rw [hv, (releaseDeferred_keeps _).2, endTaken_face]
    rfl
  have ends : s.segmentEnd g fault = (v.applyHeldReset g.face).arbitrate := by rw [hv]; rfl
  rw [ends, arbitrate_face, applyHeldReset_of_held (by rw [hv, released_port]; exact held), applyReset_face, context, enabled,
    ← answered_reset_latch (s.face g.face) _ ⟨.ok, 0x50, []⟩]
  rfl

/-! ### The commands that end a segment -/

theorem exec_segmentCompletion {s : State} {g : Segment} (segment : s.engine.segment = some g) (stage : g.stage = .finished) :
    exec .segmentCompletion s = .next (s.segmentEnd g none) := by
  show execSegmentCompletion s = _
  simp only [execSegmentCompletion, segment, stage, if_true]

theorem exec_segmentFault {s : State} {g : Segment} {why : FaultReason} (segment : s.engine.segment = some g)
    (stage : g.stage = .failed why) : exec .segmentFault s = .next (s.segmentEnd g (some why)) := by
  show execSegmentFault s = _
  simp only [execSegmentFault, segment, stage]

theorem exec_cutoffExpiry {s : State} {g : Segment} {ms : Nat} (segment : s.engine.segment = some g) (timer : s.evac.cutoff = .running ms) :
    exec .cutoffExpiry s = .next (State.segmentEnd { s with evac := { s.evac with cutoff := .stopped } } g (some .cut)) := by
  show execCutoffExpiry s = _
  simp only [execCutoffExpiry, timer, Timer.isRunning, if_true, segment]
  rfl

theorem exec_cutoffExpiry_idle {s : State} {ms : Nat} (segment : s.engine.segment = none) (timer : s.evac.cutoff = .running ms) :
    exec .cutoffExpiry s = .next { s with evac := { s.evac with cutoff := .stopped } } := by
  show execCutoffExpiry s = _
  simp only [execCutoffExpiry, timer, Timer.isRunning, if_true, segment]
  rfl

theorem template_of_templates {s t : State} (h : t.templates = s.templates) (k : Nat) : t.template k = s.template k := by
  rw [State.template, h]
  rfl

theorem templateCommit_load_template {s : State} {x : Txn} (op : x.op = .load) :
    (s.templateCommit x).template x.number = ⟨some ((s.template x.number).cells.getD []), (s.template x.number).use⟩ := by
  have table := setTemplate_template s x.number x.number ⟨some ((s.template x.number).cells.getD []), (s.template x.number).use⟩
  rw [if_pos rfl] at table
  rw [templateCommit_load op]
  exact table

theorem templateCommit_clear_template {s : State} {x : Txn} (txn : s.update.txn = some x) (op : x.op = .clear) :
    (s.templateCommit x).template x.number = ⟨none, (s.template x.number).use⟩ := by
  have table := setTemplate_template s x.number x.number ⟨none, (s.template x.number).use⟩
  rw [if_pos rfl] at table
  rw [templateCommit_clear txn op]
  exact table

/-- Each of the three ends is `segmentEnd`, a cut with the cut-off timer stopped first. -/
theorem exec_ends {s : State} {g : Segment} {c : Instr} (segment : s.engine.segment = some g)
    (ends : (c = .segmentCompletion ∧ g.stage = .finished) ∨ (c = .segmentFault ∧ ∃ why, g.stage = .failed why) ∨
      (c = .cutoffExpiry ∧ ∃ ms, s.evac.cutoff = .running ms)) :
    ∃ (evac : Evac) (fault : Option FaultReason), exec c s = .next (State.segmentEnd { s with evac := evac } g fault) := by
  rcases ends with ⟨rfl, stage⟩ | ⟨rfl, why, stage⟩ | ⟨rfl, ms, timer⟩
  · exact ⟨s.evac, _, exec_segmentCompletion segment stage⟩
  · exact ⟨s.evac, _, exec_segmentFault segment stage⟩
  · exact ⟨_, _, exec_cutoffExpiry segment timer⟩

/-- The deferred commit of a template that the end leaves unused is released at that end (R41). -/
theorem endTaken_releases {s : State} {g : Segment} {x : Txn} (fault : Option FaultReason) (deferred : s.update.state = .deferred)
    (txn : s.update.txn = some x)
    (uses : (s.template x.number).use = (s.face g.face).queue.stack.countP (fun l => l.template == x.number)) :
    (s.endTaken g fault).releaseDeferred = (s.endTaken g fault).templateCommit x ∧
    ((s.endTaken g fault).template x.number).use = 0 := by
  obtain ⟨outside, templates, -, -⟩ := endTaken_changes s g fault
  have update : (s.endTaken g fault).update = s.update := by rw [outside]
  have unused : ((s.endTaken g fault).template x.number).use = 0 := by
    rw [templates, uses]
    exact Nat.sub_self _
  exact ⟨releaseDeferred_of_unused (by rw [update]; exact deferred) (by rw [update]; exact txn) unused, unused⟩

/-- A deferred LOAD begins its copy at the end that leaves its template unused (R37, R41). -/
theorem segmentEnd_releases_load {s : State} {g : Segment} {x : Txn} (fault : Option FaultReason) (deferred : s.update.state = .deferred)
    (txn : s.update.txn = some x)
    (uses : (s.template x.number).use = (s.face g.face).queue.stack.countP (fun l => l.template == x.number)) (op : x.op = .load) :
    (s.segmentEnd g fault).update = { s.update with state := .committing } ∧
    (s.segmentEnd g fault).templates.copying = some x.number ∧
    ((s.segmentEnd g fault).template x.number).cells.isSome = true ∧ ((s.segmentEnd g fault).template x.number).use = 0 := by
  obtain ⟨released, unused⟩ := endTaken_releases fault deferred txn uses
  obtain ⟨update, templates, -, -⟩ := segmentEnd_released s g fault _ released.symm
  have defined := (template_of_templates templates x.number).trans (templateCommit_load_template op)
  rw [templateCommit_load op] at update templates
  refine ⟨?_, by rw [templates], by rw [defined]; rfl, by rw [defined]; exact unused⟩
  rw [update, (endTaken_changes s g fault).1]

/-- A deferred CLEAR empties its template, ends its commit and raises its event at the end that leaves its template unused (R37, R41). -/
theorem segmentEnd_releases_clear {s : State} {g : Segment} {x : Txn} (fault : Option FaultReason) (deferred : s.update.state = .deferred)
    (txn : s.update.txn = some x)
    (uses : (s.template x.number).use = (s.face g.face).queue.stack.countP (fun l => l.template == x.number)) (op : x.op = .clear) :
    (s.segmentEnd g fault).update = s.update.done x.tag ∧
    (s.segmentEnd g fault).template x.number = ⟨none, 0⟩ ∧ (s.segmentEnd g fault).templates.copying = s.templates.copying ∧
    (∀ f : Face, f ≠ g.face → (s.segmentEnd g fault).face f = { s.face f with
      latch := if s.enabled f = true then (s.face f).latch ||| 0x100 else (s.face f).latch }) ∧
    (s.enabled g.face = true → (s.face g.face).port.inProgress ≠ some .resetFace →
      ((s.segmentEnd g fault).face g.face).latch.getLsbD 8 = true) := by
  obtain ⟨outside, -, -, others⟩ := endTaken_changes s g fault
  obtain ⟨released, unused⟩ := endTaken_releases fault deferred txn uses
  obtain ⟨update, templates, faces, own⟩ := segmentEnd_released s g fault _ released.symm
  have before : (s.endTaken g fault).update = s.update := by rw [outside]
  have txn : (s.endTaken g fault).update.txn = some x := by rw [before]; exact txn
  have enabled (f : Face) : (s.endTaken g fault).enabled f = s.enabled f := by rw [outside]; rfl
  have latched (f : Face) : ((s.endTaken g fault).templateCommit x).face f = { (s.endTaken g fault).face f with
      latch := if s.enabled f = true then ((s.endTaken g fault).face f).latch ||| 0x100 else ((s.endTaken g fault).face f).latch } := by
    rw [templateCommit_clear txn op, raiseAll_face, ← enabled]
    rfl
  refine ⟨?_, ?_, ?_, fun f other => ?_, fun on unheld => ?_⟩
  · rw [update, templateCommit_clear txn op, ← before]
    rfl
  · rw [template_of_templates templates, templateCommit_clear_template txn op, unused]
  · rw [templates, templateCommit_clear txn op, outside]
    rfl
  · rw [faces f (Ne.symm other), latched, others f (Ne.symm other)]
  · rw [own unheld, latched, if_pos on, BitVec.getLsbD_or]
    exact Bool.or_true _

/-- Settles O44: the three commands are one `segmentEnd`, whose parts are R90's table, the deferred commit and the held reset. -/
theorem segmentsEndAsTheTableGives : Obligations.SegmentsEndAsTheTableGives := by
  refine ⟨fun s g r segment range kind undeferred unheld => ⟨fun stage => ?_, fun why stage _ => ?_, fun ms timer => ?_⟩,
    fun s ms segment timer => exec_cutoffExpiry_idle segment timer, fun s g c segment ends => ?_⟩
  · exact ⟨_, exec_segmentCompletion segment stage, segmentEnd_ended none range kind undeferred unheld⟩
  · exact ⟨_, exec_segmentFault segment stage, segmentEnd_ended _ range kind undeferred unheld⟩
  · exact ⟨_, exec_cutoffExpiry segment timer, segmentEnd_ended _ range kind undeferred unheld⟩
  · obtain ⟨evac, fault, runs⟩ := exec_ends segment ends
    refine ⟨_, runs, fun x deferred txn uses => ⟨fun op => ?_, fun op => ?_⟩, fun held => ?_⟩
    · exact segmentEnd_releases_load (s := { s with evac := evac }) fault deferred txn uses op
    · exact segmentEnd_releases_clear (s := { s with evac := evac }) fault deferred txn uses op
    · exact segmentEnd_reset (s := { s with evac := evac }) fault held

end Sys2Proof.Machine.UpdateTransactions
end

section
/-! PROOFS. The order of names: keys code by code, places by key and entry number (R50). -/

namespace Sys2Proof.Machine.NameOrder

open Sys2Proof Sys2Proof.Machine Sys2Proof.Machine.UpdateTransactions

/-! ### Keys -/

/-- The order of keys is the lexicographic order of lists of codes. -/
theorem keyLess_iff_lt (a b : List Nat) : keyLess a b = true ↔ a < b := by
  induction a generalizing b with
  | nil => cases b <;> simp [keyLess]
  | cons m as ih =>
    cases b with
    | nil => simp [keyLess]
    | cons n bs =>
      rw [keyLess, List.cons_lt_cons_iff]
      by_cases same : m = n
      · simp [same, ih]
      · simp [same]

/-- At the first difference the smaller code decides; with none, the key that runs out is the smaller (R50). -/
theorem keyLess_iff_first_difference (a b : List Nat) : keyLess a b = true ↔
    (∃ (pre as bs : List Nat) (m n : Nat), a = pre ++ m :: as ∧ b = pre ++ n :: bs ∧ m < n) ∨ (∃ m bs, b = a ++ m :: bs) := by
  constructor
  · intro less
    induction a generalizing b with
    | nil =>
      cases b with
      | nil => cases less
      | cons n bs => exact .inr ⟨n, bs, rfl⟩
    | cons m as ih =>
      cases b with
      | nil => cases less
      | cons n bs =>
        rw [keyLess] at less
        split at less
        · next same =>
          subst same
          obtain ⟨pre, as', bs', i, j, rfl, rfl, smaller⟩ | ⟨i, bs', rfl⟩ := ih bs less
          · exact .inl ⟨m :: pre, as', bs', i, j, rfl, rfl, smaller⟩
          · exact .inr ⟨i, bs', rfl⟩
        · exact .inl ⟨[], as, bs, m, n, rfl, rfl, by simpa using less⟩
  · have under (pre : List Nat) {c d : List Nat} (less : keyLess c d = true) : keyLess (pre ++ c) (pre ++ d) = true := by
      induction pre with
      | nil => exact less
      | cons i pre ih => simpa [keyLess] using ih
    rintro (⟨pre, as, bs, m, n, rfl, rfl, smaller⟩ | ⟨m, bs, rfl⟩)
    · exact under pre (by simp [keyLess, smaller, smaller.ne])
    · simpa using under a (c := []) (d := m :: bs) rfl

/-! ### Places -/

/-- The place of an entry in a list: its key, then its number. -/
def place (s : State) (l : Fin 4) (n : Nat) : List Nat ×ₗ Nat := toLex (s.key l n, n)

theorem place_inj {s : State} {l : Fin 4} {m n : Nat} : place s l m = place s l n ↔ m = n :=
  ⟨fun same => congrArg (fun p => (ofLex p).2) same, fun same => same ▸ rfl⟩

/-- An entry stands before another exactly when its place is the smaller (R48, R50). -/
theorem before_iff {s : State} {l : Fin 4} {m n : Nat} : s.before l m n = true ↔ place s l m < place s l n := by
  simp [State.before, place, Prod.Lex.toLex_lt_toLex, keyLess_iff_lt]

/-- Of two entries exactly one stands before the other. -/
theorem before_total {s : State} {l : Fin 4} {m n : Nat} (other : m ≠ n) : s.before l m n = true ↔ s.before l n m = false := by
  have apart : place s l m ≠ place s l n := fun same => other (place_inj.mp same)
  rw [← Bool.not_eq_true, before_iff, before_iff, not_lt]
  exact ⟨le_of_lt, fun le => lt_of_le_of_ne le apart⟩

theorem before_trans {s : State} {l : Fin 4} {m n k : Nat} (first : s.before l m n = true) (second : s.before l n k = true) :
    s.before l m k = true :=
  before_iff.mpr ((before_iff.mp first).trans (before_iff.mp second))

/-- Settles O45: keys stand in the lexicographic order of their codes, and places in that of key and number. -/
theorem keysAreComparedCodeByCode : Obligations.KeysAreComparedCodeByCode := by
  refine ⟨keyLess_iff_first_difference, fun a b => ?_, fun a b less => ?_, fun s l m n => ⟨?_, before_total⟩⟩
  · rw [keyLess_iff_lt, keyLess_iff_lt]
    exact ne_iff_lt_or_gt
  · rw [← Bool.not_eq_true, keyLess_iff_lt]
    exact lt_asymm ((keyLess_iff_lt a b).mp less)
  · simp [State.before]

end Sys2Proof.Machine.NameOrder
end

section
/-! PROOFS. What the soundness of the engine, of the commit in flight and of the lists reads of a state, and the operations that leave
it alone. -/

namespace Sys2Proof.Machine.NameOrder

open Sys2Proof Sys2Proof.Machine Sys2Proof.Machine.UpdateTransactions

/-! ### The two views of a state -/

/-- What the soundness of the engine reads of a state (R86, R105 to R107, R111, R180). -/
structure Control where
  queue : Face → QueueState
  holder : Option Claimant
  segment : Option Face
  decision : Option Claimant
  evac : EvacState
  purging : Bool

def control (s : State) : Control where
  queue := fun f => (s.face f).queue.state
  holder := s.arbiter.holder
  segment := s.engine.segment.map Segment.face
  decision := s.arbiter.decision.map Decision.chosen
  evac := s.evac.state
  purging := s.update.purging

/-- What the soundness of the commit in flight and of the lists reads of a state (R23, R40, R43, R48, R52). -/
structure Ledger where
  directory : Sparse Entry
  orders : Orders
  glyphCopy : Option Nat
  templateCopy : Option Nat
  state : UcState
  purging : Bool
  purgeHolds : Bool

def ledger (s : State) : Ledger where
  directory := s.directory
  orders := s.orders
  glyphCopy := s.glyphs.copying
  templateCopy := s.templates.copying
  state := s.update.state
  purging := s.update.purging
  purgeHolds := s.purgeHolds

/-! ### Changes of faces alone -/

theorem ledger_of_outside {s t : State} (outside : s.SameOutsideFaces t) : ledger t = ledger s := by
  rw [outside]; rfl

theorem control_of_faces {s t : State} (outside : s.SameOutsideFaces t)
    (queues : ∀ f, (t.face f).queue.state = (s.face f).queue.state) : control t = control s := by
  have queue : (control t).queue = (control s).queue := funext queues
  calc control t = { control s with queue := (control t).queue } := by rw [outside]; rfl
    _ = control s := by rw [queue]

@[simp] theorem modFace_ledger (s : State) (f : Face) (g) : ledger (s.modFace f g) = ledger s := rfl

@[simp] theorem mapFaces_ledger (s : State) (g) : ledger (s.mapFaces g) = ledger s := rfl

@[simp] theorem modQueue_ledger (s : State) (f : Face) (g) : ledger (s.modQueue f g) = ledger s := rfl

/-- A change of one face shows in its queue state alone. -/
theorem modFace_control (s : State) (f : Face) (g : FaceContext → FaceContext) :
    control (s.modFace f g) =
      { control s with queue := Function.update (control s).queue f (g (s.face f)).queue.state } := by
  have queue : (control (s.modFace f g)).queue = Function.update (control s).queue f (g (s.face f)).queue.state := by
    funext h
    rw [Function.update_apply]
    show ((s.modFace f g).face h).queue.state = _
    rw [modFace_face]
    by_cases own : f = h
    · subst own; simp
    · simp [own, Ne.symm own, control]
  calc control (s.modFace f g) = { control s with queue := (control (s.modFace f g)).queue } := rfl
    _ = _ := by rw [queue]

theorem modQueue_control (s : State) (f : Face) (u : Queue → Queue) :
    control (s.modQueue f u) = { control s with queue := Function.update (control s).queue f (u (s.face f).queue).state } :=
  modFace_control s f _

@[simp] theorem modFace_control_of_queue (s : State) (f : Face) (g : FaceContext → FaceContext)
    (same : (g (s.face f)).queue.state = (s.face f).queue.state) : control (s.modFace f g) = control s := by
  rw [modFace_control, same]
  exact congrArg (fun q => { control s with queue := q }) (Function.update_eq_self f (control s).queue)

@[simp] theorem modQueue_control_of_state (s : State) (f : Face) (u : Queue → Queue)
    (same : (u (s.face f).queue).state = (s.face f).queue.state) : control (s.modQueue f u) = control s :=
  modFace_control_of_queue s f _ same

@[simp] theorem mapFaces_control_of_queue (s : State) (g : Face → FaceContext → FaceContext)
    (same : ∀ f, (g f (s.face f)).queue.state = (s.face f).queue.state) : control (s.mapFaces g) = control s :=
  control_of_faces (mapFaces_outside s g) (fun f => by rw [mapFaces_face]; exact same f)

@[simp] theorem raise_keeps (s : State) (f : Face) (e : Event) :
    control (s.raise f e) = control s ∧ ledger (s.raise f e) = ledger s := by
  refine ⟨?_, ledger_of_outside (raise_outside s f e)⟩
  rw [raise_eq]
  exact modFace_control_of_queue s f _ rfl

@[simp] theorem raiseIf_keeps (s : State) (b : Bool) (f : Face) (e : Event) :
    control (s.raiseIf b f e) = control s ∧ ledger (s.raiseIf b f e) = ledger s := by
  cases b with
  | true => exact raise_keeps s f e
  | false => exact ⟨rfl, rfl⟩

@[simp] theorem raiseAll_keeps (s : State) (e : Event) :
    control (s.raiseAll e) = control s ∧ ledger (s.raiseAll e) = ledger s :=
  ⟨control_of_faces (raiseAll_outside s e) (fun f => by rw [raiseAll_face]), rfl⟩

/-! ### Ports -/

@[simp] theorem fillReply_keeps (s : State) (f : Face) (code : ReplyCode) (request : Byte) (results : Bytes) :
    control (s.fillReply f code request results) = control s ∧ ledger (s.fillReply f code request results) = ledger s := by
  simp [State.fillReply]

@[simp] theorem answer_keeps (s : State) (f : Face) (code : ReplyCode) (request : Byte) (results : Bytes) :
    control (s.answer f code request results) = control s ∧ ledger (s.answer f code request results) = ledger s := by
  simp [State.answer]

@[simp] theorem hold_keeps (s : State) (f : Face) (h : HeldRequest) :
    control (s.hold f h) = control s ∧ ledger (s.hold f h) = ledger s := by
  simp [State.hold]

@[simp] theorem shiftOut_keeps (s : State) (f : Face) (bs : Bytes) :
    control (s.shiftOut f bs) = control s ∧ ledger (s.shiftOut f bs) = ledger s := by
  simp [State.shiftOut]

@[simp] theorem takeRequest_keeps (s : State) (f : Face) :
    control (s.takeRequest f) = control s ∧ ledger (s.takeRequest f) = ledger s := by
  simp [State.takeRequest]

@[simp] theorem requestShift_keeps (s : State) (f : Face) (x : Transfer) :
    control (s.requestShift f x) = control s ∧ ledger (s.requestShift f x) = ledger s :=
  shiftOut_keeps s f _

/-- What holds of a state's two views holds after a request whose owner keeps it. -/
theorem request_keeps {P : Control → Ledger → Prop} {s : State} {own : State → State} (f : Face) (code : Byte) (known : Bool)
    (x : Transfer) (holds : P (control s) (ledger s))
    (owner : ∀ t, control t = control s → ledger t = ledger s → P (control (own t)) (ledger (own t))) :
    P (control (s.request f code known x own)) (ledger (s.request f code known x own)) := by
  obtain ⟨-, h⟩ | ⟨-, -, h⟩ | ⟨-, -, ⟨r, -, h⟩ | ⟨-, h⟩⟩ := request_cases s f code known x own <;> rw [h]
  · simpa using holds
  · simpa using holds
  · simpa using holds
  · exact owner _ (by simp) (by simp)

/-- A request whose owner leaves both views leaves them. -/
theorem request_quiet {s : State} {own : State → State} (f : Face) (code : Byte) (known : Bool) (x : Transfer)
    (owner : ∀ t, control (own t) = control t ∧ ledger (own t) = ledger t) :
    control (s.request f code known x own) = control s ∧ ledger (s.request f code known x own) = ledger s :=
  request_keeps (P := fun c l => c = control s ∧ l = ledger s) f code known x ⟨rfl, rfl⟩
    (fun t sameC sameL => ⟨(owner t).1.trans sameC, (owner t).2.trans sameL⟩)

/-! ### Directory queries and reads of the slots -/

theorem applyReset_ledger (s : State) (f : Face) : ledger (s.applyReset f) = ledger s := ledger_of_outside (applyReset_outside s f)

theorem applyReset_control (s : State) (f : Face) :
    control (s.applyReset f) = { control s with queue := Function.update (control s).queue f .idle } := by
  unfold State.applyReset
  rw [(answer_keeps _ _ _ _ _).1, modFace_control]
  rfl

theorem answerRequest_keeps (s : State) (f : Face) {h : HeldRequest} (read : h ≠ .resetFace) :
    control (s.answerRequest f h) = control s ∧ ledger (s.answerRequest f h) = ledger s := by
  cases h with
  | resetFace => contradiction
  | _ => exact answer_keeps s f _ _ _

theorem takeQuery_keeps (s : State) (f : Face) {h : HeldRequest} (read : h ≠ .resetFace) :
    control (s.takeQuery f h) = control s ∧ ledger (s.takeQuery f h) = ledger s := by
  unfold State.takeQuery
  split
  · exact hold_keeps s f h
  · exact answerRequest_keeps s f read

theorem takeSlotRead_keeps (s : State) (f : Face) {h : HeldRequest} (read : h ≠ .resetFace) :
    control (s.takeSlotRead f h) = control s ∧ ledger (s.takeSlotRead f h) = ledger s := by
  unfold State.takeSlotRead
  split
  · exact hold_keeps s f h
  · exact answerRequest_keeps s f read

theorem query_keeps (s : State) (f : Face) (code : Byte) {q : Option HeldRequest} (read : q ≠ some .resetFace) :
    control (s.query f code q) = control s ∧ ledger (s.query f code q) = ledger s := by
  cases q with
  | none => exact answer_keeps s f _ _ _
  | some h => exact takeQuery_keeps s f (fun same => read (same ▸ rfl))

theorem readEntryQuery_ne (bs : Bytes) : readEntryQuery bs ≠ some .resetFace := by
  unfold readEntryQuery
  split <;> simp

theorem listWindowQuery_ne (bs : Bytes) : listWindowQuery bs ≠ some .resetFace := by
  unfold listWindowQuery
  split <;> simp

theorem findPrefixQuery_ne (bs : Bytes) : findPrefixQuery bs ≠ some .resetFace := by
  unfold findPrefixQuery
  split
  · dsimp only
    split <;> simp
  · simp

theorem answerAllHeld_ledger (s : State) (which : HeldRequest → Bool) : ledger (s.answerAllHeld which) = ledger s :=
  ledger_of_outside (answerAllHeld_outside s which)

/-- The answers to held requests leave a queue, or make it IDLE where a RESET_FACE is among them. -/
theorem answerAllHeld_queue (s : State) (which : HeldRequest → Bool) (f : Face) :
    ((s.answerAllHeld which).face f).queue.state = (s.face f).queue.state ∨
    which .resetFace = true ∧ ((s.answerAllHeld which).face f).queue.state = .idle := by
  rw [answerAllHeld_face]
  cases held : (s.face f).port.inProgress with
  | none => rw [answerHeld_of_none which held]; exact .inl rfl
  | some h =>
    rw [answerHeld_of_some which held]
    by_cases asked : which h = true
    · rw [if_pos asked, answerRequest_face]
      by_cases reset : h = .resetFace
      · subst reset; exact .inr ⟨asked, rfl⟩
      · rw [if_neg reset]; exact .inl rfl
    · rw [if_neg asked]; exact .inl rfl

theorem answerQueries_keeps (s : State) :
    control (s.answerAllHeld HeldRequest.isQuery) = control s ∧ ledger (s.answerAllHeld HeldRequest.isQuery) = ledger s :=
  ⟨control_of_faces (answerAllHeld_outside s _) (fun f => (answerAllHeld_queue s _ f).resolve_right (fun h => by cases h.1)),
   answerAllHeld_ledger s _⟩

end Sys2Proof.Machine.NameOrder
end

section
/-! PROOFS. The operations of the blocks and what each leaves of the two views. -/

namespace Sys2Proof.Machine.NameOrder

open Sys2Proof Sys2Proof.Machine Sys2Proof.Machine.UpdateTransactions

/-! ### Changes of one block -/

@[simp] theorem modTrunk_keeps (s : State) (g : Trunk → Trunk) :
    control (s.modTrunk g) = control s ∧ ledger (s.modTrunk g) = ledger s := ⟨rfl, rfl⟩

@[simp] theorem modEvac_ledger (s : State) (g : Evac → Evac) : ledger (s.modEvac g) = ledger s := rfl

@[simp] theorem modEvac_control (s : State) (g : Evac → Evac) :
    control (s.modEvac g) = { control s with evac := (g s.evac).state } := rfl

@[simp] theorem setJobs_keeps (s : State) (jobs : List Job) :
    control (s.setJobs jobs) = control s ∧ ledger (s.setJobs jobs) = ledger s := ⟨rfl, rfl⟩

@[simp] theorem modUpdate_control_of_purging (s : State) (g : Update → Update) (same : (g s.update).purging = s.update.purging) :
    control (s.modUpdate g) = control s :=
  congrArg (fun p => { control s with purging := p }) same

@[simp] theorem modUpdate_ledger (s : State) (g : Update → Update) :
    ledger (s.modUpdate g) = { ledger s with state := (g s.update).state, purging := (g s.update).purging } := rfl

/-- A change of the segment that leaves it its face. -/
@[simp] theorem modSegment_keeps (s : State) (g : Segment → Segment) (face : ∀ x, (g x).face = x.face) :
    control (s.modSegment g) = control s ∧ ledger (s.modSegment g) = ledger s := by
  have same : (s.engine.segment.map g).map Segment.face = s.engine.segment.map Segment.face := by
    cases s.engine.segment with
    | none => rfl
    | some x => exact congrArg some (face x)
  exact ⟨congrArg (fun v => { control s with segment := v }) same, rfl⟩

@[simp] theorem setTemplate_keeps (s : State) (t : Nat) (v : Template) :
    control (s.setTemplate t v) = control s ∧ ledger (s.setTemplate t v) = ledger s := ⟨rfl, rfl⟩

@[simp] theorem useTemplate_keeps (s : State) (t : Nat) (g : Nat → Nat) :
    control (s.useTemplate t g) = control s ∧ ledger (s.useTemplate t g) = ledger s := ⟨rfl, rfl⟩

@[simp] theorem setGlyphPage_keeps (s : State) (p : Nat) (v : Option Mem) :
    control (s.setGlyphPage p v) = control s ∧ ledger (s.setGlyphPage p v) = ledger s := ⟨rfl, rfl⟩

/-- The note of a PULSE leaves the segment its face. -/
@[simp] theorem notePulse_keeps (s : State) (f : Face) :
    control (s.notePulse f) = control s ∧ ledger (s.notePulse f) = ledger s := by
  refine modSegment_keeps s (fun g => if g.face = f then { g with pulsed := true } else g) (fun g => ?_)
  split <;> rfl

@[simp] theorem modSupervisor_keeps (s : State) (f : Face) (g : Supervisor → Supervisor) :
    control (s.modSupervisor f g) = control s ∧ ledger (s.modSupervisor f g) = ledger s := by
  simp [State.modSupervisor]

@[simp] theorem arbitrate_ledger (s : State) : ledger s.arbitrate = ledger s := by
  rw [arbitrate_eq]; rfl

theorem arbitrate_control (s : State) : control s.arbitrate = { control s with decision := (control s.arbitrate).decision } := by
  rw [arbitrate_eq]; rfl

/-! ### Supervision, scan-out and start-up -/

theorem windowExpired_keeps (s : State) (f : Face) :
    control (s.windowExpired f) = control s ∧ ledger (s.windowExpired f) = ledger s := by
  unfold State.windowExpired
  dsimp only
  split <;> simp

theorem kicked_keeps (s : State) (f : Face) : control (s.kicked f).1 = control s ∧ ledger (s.kicked f).1 = ledger s := by
  unfold State.kicked
  split <;> simp [State.readmit]

theorem scanTick_keeps (s : State) : control s.scanTick = control s ∧ ledger s.scanTick = ledger s := by
  simp [State.scanTick]

/-- The end of the load leaves every queue as it was. -/
theorem loadEnd_keeps (s : State) : control s.loadEnd = control s ∧ ledger s.loadEnd = ledger s := by
  have queues (c : FaceContext) (settings : Settings) (on : Bool) : (c.intoService settings on).queue = c.queue := by
    cases on <;> rfl
  refine ⟨?_, rfl⟩
  exact mapFaces_control_of_queue s (fun f c => c.intoService s.loader.taken s.loader.taken.enabled[f]) (fun f => by rw [queues])

theorem tryLoadEnd_keeps (s : State) : control s.tryLoadEnd = control s ∧ ledger s.tryLoadEnd = ledger s := by
  unfold State.tryLoadEnd
  split
  · exact loadEnd_keeps s
  · exact ⟨rfl, rfl⟩

theorem readEnd_keeps (s : State) (st : LoaderState) (taken : Settings) :
    control (s.readEnd st taken) = control s ∧ ledger (s.readEnd st taken) = ledger s := by
  unfold State.readEnd
  split
  · exact tryLoadEnd_keeps _
  · exact ⟨rfl, rfl⟩

/-! ### The evacuation view -/

@[simp] theorem givePalette_keeps (s : State) (p : Vector Rgb 16) :
    control (s.givePalette p) = control s ∧ ledger (s.givePalette p) = ledger s := by
  refine ⟨mapFaces_control_of_queue s _ (fun f => ?_), rfl⟩
  split <;> rfl

@[simp] theorem startView_keeps (s : State) : control s.startView = control s ∧ ledger s.startView = ledger s := by
  refine ⟨?_, by simp [State.startView]⟩
  exact (givePalette_keeps s _).1

theorem startRelease_control (s : State) : control s.startRelease = { control s with evac := .releasing } := rfl

theorem shownCommit_keeps (s : State) : control s.shownCommit = control s ∧ ledger s.shownCommit = ledger s := by
  unfold State.shownCommit State.redrawCause
  split
  · split <;> exact ⟨rfl, rfl⟩
  · split
    · exact startView_keeps s
    · exact ⟨rfl, rfl⟩
  all_goals exact ⟨rfl, rfl⟩

@[simp] theorem noticeEntry_keeps (s : State) (n : Nat) :
    control (s.noticeEntry n) = control s ∧ ledger (s.noticeEntry n) = ledger s := by
  unfold State.noticeEntry
  split
  · split
    · exact shownCommit_keeps s
    · exact ⟨rfl, rfl⟩
  · exact ⟨rfl, rfl⟩

@[simp] theorem noticePlan_keeps (s : State) (z : Nat) :
    control (s.noticePlan z) = control s ∧ ledger (s.noticePlan z) = ledger s := by
  unfold State.noticePlan
  split
  · exact shownCommit_keeps s
  · exact ⟨rfl, rfl⟩

theorem cycleExpiry_keeps (s : State) : control s.cycleExpiry = control s ∧ ledger s.cycleExpiry = ledger s := by
  unfold State.cycleExpiry
  split <;> exact ⟨rfl, rfl⟩

/-! ### The trunk's receiver -/

/-- What holds of a state's two views holds after a trunk command whose action keeps it. -/
theorem trunkFrame_keeps {P : Control → Ledger → Prop} {s : State} (feed : Feed) (mine : Byte → Bool)
    {act : State → Bytes → State × TrunkReply} (holds : P (control s) (ledger s))
    (action : ∀ (tr : Trunk) (data : Bytes),
      P (control (act { s with trunk := tr } data).1) (ledger (act { s with trunk := tr } data).1)) :
    P (control (s.trunkFrame feed mine act)) (ledger (s.trunkFrame feed mine act)) := by
  unfold State.trunkFrame
  split
  · exact holds
  · split
    · unfold State.actOn
      split
      · exact action _ _
      · exact action _ _
    · exact holds

/-! ### Commits -/

/-- The end of a commit: UC enters IDLE if it holds the transaction (R40). -/
@[simp] theorem commitDone_keeps (s : State) : control s.commitDone = control s ∧
    ledger s.commitDone = { ledger s with state := if s.update.txn.isSome = true then .idle else s.update.state } := by
  unfold State.commitDone
  cases txn : s.update.txn with
  | none => exact ⟨rfl, rfl⟩
  | some x => exact ⟨rfl, rfl⟩

@[simp] theorem commitNotice_keeps (s : State) (n : Nat) (new : EntryState) :
    control (s.commitNotice n new) = control s ∧ ledger (s.commitNotice n new) = ledger s := by
  have latched (c : FaceContext) (b : Bool) (e : Event) : (c.latchIf b e).queue = c.queue := by cases b <;> rfl
  refine ⟨mapFaces_control_of_queue s _ (fun f => ?_), rfl⟩
  simp only [FaceContext.notice, latched]

/-- An entry commit writes the entry and gives OL its reposition (R35, R51). -/
theorem entryCommit_keeps (s : State) (x : Txn) : control (s.entryCommit x) = control s ∧
    ∃ e : Entry, ledger (s.entryCommit x) = { ledger s with
      directory := Sparse.write Entry.free s.directory x.number e
      orders := { s.orders with reposition := some ⟨x.number, (s.entry x.number).state, e.state⟩ } } := by
  unfold State.entryCommit
  simp only [noticeEntry_keeps, raiseAll_keeps, commitNotice_keeps]
  exact ⟨rfl, _, rfl⟩

/-- What UC does where no commit is in flight: it moves between the states out of COMMITTING, or begins the copy into a page or a
template. -/
inductive Starts (l : Ledger) : Ledger → Prop
  | moves (st : UcState) (out : st ≠ .committing) : Starts l { l with state := st }
  | glyph (p : Nat) : Starts l { l with state := .committing, glyphCopy := some p }
  | template (t : Nat) : Starts l { l with state := .committing, templateCopy := some t }
  | entry (n : Nat) (e : Entry) : Starts l { l with
      state := .committing, directory := Sparse.write Entry.free l.directory n e
      orders := { l.orders with reposition := some ⟨n, (Sparse.read Entry.free l.directory n).state, e.state⟩ } }

/-- Where UC starts from is not what it starts. -/
theorem Starts.of_state {l m : Ledger} {st : UcState} (h : Starts { l with state := st } m) : Starts l m := by
  cases h with
  | moves st out => exact .moves st out
  | glyph p => exact .glyph p
  | template t => exact .template t
  | entry n e => exact .entry n e

theorem templateCommit_control (s : State) (x : Txn) : control (s.templateCommit x) = control s := by
  by_cases op : x.op = .load
  · rw [templateCommit_load op]; rfl
  · rw [templateCommit_of_not_load op]; simp

theorem templateCommit_starts {s : State} {x y : Txn} (txn : s.update.txn = some y) :
    Starts (ledger s) (ledger (s.templateCommit x)) := by
  by_cases op : x.op = .load
  · rw [templateCommit_load op]
    exact .template x.number
  · rw [templateCommit_of_not_load op, (raiseAll_keeps _ _).2, (commitDone_keeps _).2]
    have held : (s.setTemplate x.number ⟨none, (s.template x.number).use⟩).update.txn.isSome = true := by
      rw [show (s.setTemplate x.number ⟨none, (s.template x.number).use⟩).update.txn = some y from txn]; rfl
    rw [if_pos held]
    exact .moves .idle (by decide)

end Sys2Proof.Machine.NameOrder
end

section
/-! PROOFS. What the frames of the Update Controller do to the two views. -/

namespace Sys2Proof.Machine.NameOrder

open Sys2Proof Sys2Proof.Machine Sys2Proof.Machine.UpdateTransactions

/-- What a frame of a transaction may do: nothing to either view, or, where no commit is in flight, what UC then starts. -/
def Attended (s : State) (c : Control) (l : Ledger) : Prop :=
  c = control s ∧ (l = ledger s ∨ s.update.state ≠ .committing ∧ Starts (ledger s) l)

theorem Attended.unmoved (s : State) : Attended s (control s) (ledger s) := ⟨rfl, .inl rfl⟩

/-- A step out of COMMITTING that changes no more than the UC state. -/
theorem Attended.of_state {s t : State} {st : UcState} (free : s.update.state ≠ .committing) (out : st ≠ .committing)
    (sameC : control t = control s) (moved : ledger t = { ledger s with state := st }) : Attended s (control t) (ledger t) := by
  rw [sameC, moved]
  exact ⟨rfl, .inr ⟨free, .moves st out⟩⟩

/-! ### The end of a transaction -/

@[simp] theorem record_keeps (s : State) (tag : Word16) (o : TxnOutcome) :
    control (s.record tag o) = control s ∧ ledger (s.record tag o) = ledger s := ⟨rfl, rfl⟩

/-- A transaction that ends without a commit leaves UC in IDLE (R22). -/
theorem endTxn_keeps (s : State) (o : TxnOutcome) : control (s.endTxn o) = control s ∧
    ledger (s.endTxn o) = { ledger s with state := if s.update.txn.isSome = true then .idle else s.update.state } := by
  cases txn : s.update.txn with
  | none => rw [endTxn_of_no_txn o txn]; exact ⟨rfl, rfl⟩
  | some x => rw [endTxn_of_txn o txn]; exact ⟨rfl, rfl⟩

theorem endTxn_state {s : State} {o : TxnOutcome} (free : s.update.state ≠ .committing) :
    (s.endTxn o).update.state ≠ .committing := by
  have state : (s.endTxn o).update.state = if s.update.txn.isSome = true then .idle else s.update.state :=
    congrArg Ledger.state (endTxn_keeps s o).2
  rw [state]
  split
  · decide
  · exact free

theorem endTxn_attended {s : State} (o : TxnOutcome) (free : s.update.state ≠ .committing) :
    Attended s (control (s.endTxn o)) (ledger (s.endTxn o)) :=
  .of_state free (endTxn_state free (o := o)) (endTxn_keeps s o).1
    ((endTxn_keeps s o).2.trans (congrArg (fun st => { ledger s with state := st })
      (congrArg Ledger.state (endTxn_keeps s o).2).symm))

/-- A frame that UC does not take in its state changes nothing (R31). -/
theorem nakState_state (s : State) : s.nakState.1 = s := by
  unfold State.nakState
  split <;> rfl

/-! ### OPEN, CHUNK and WAYPOINTS -/

/-- The checks of an OPEN begin a transaction in STAGING or leave UC as it was (R25). -/
theorem openChecked_keeps (s : State) (data : Bytes) : control (s.openChecked data).1 = control s ∧
    (ledger (s.openChecked data).1 = ledger s ∨ ledger (s.openChecked data).1 = { ledger s with state := .staging }) := by
  unfold State.openChecked
  dsimp only
  split
  · split
    · exact ⟨rfl, .inl rfl⟩
    · split
      · exact ⟨rfl, .inl rfl⟩
      · split
        · exact ⟨rfl, .inl rfl⟩
        · exact ⟨rfl, .inr rfl⟩
  · exact ⟨rfl, .inl rfl⟩

theorem openTxn_attended (s : State) (data : Bytes) :
    Attended s (control (s.openTxn data).1) (ledger (s.openTxn data).1) := by
  have checked {t : State} (free : s.update.state ≠ .committing) (out : t.update.state ≠ .committing)
      (sameC : control t = control s) (sameL : ledger t = { ledger s with state := t.update.state }) :
      Attended s (control (t.openChecked data).1) (ledger (t.openChecked data).1) := by
    obtain ⟨keepsC, keepsL | begins⟩ := openChecked_keeps t data
    · exact .of_state free out (keepsC.trans sameC) (keepsL.trans sameL)
    · exact .of_state free (st := .staging) (by decide) (keepsC.trans sameC) (begins.trans (by rw [sameL]))
  unfold State.openTxn
  by_cases staging : s.update.state = .staging
  · have free : s.update.state ≠ .committing := by rw [staging]; decide
    obtain ⟨t, ht⟩ : ∃ t, t = s.endTxn .displaced := ⟨_, rfl⟩
    have ended : Attended s (control t) (ledger t) := ht ▸ endTxn_attended _ free
    have out : t.update.state ≠ .committing := ht ▸ endTxn_state free
    have moved : ledger t = { ledger s with state := t.update.state } := by
      rw [ht, (endTxn_keeps s _).2]
      exact congrArg (fun st => { ledger s with state := st }) (congrArg Ledger.state (endTxn_keeps s _).2).symm
    simp only [if_pos staging, ← ht]
    split
    · exact ended
    · split
      · exact ended
      · exact ended
      · exact checked free out ended.1 moved
      · exact checked free out ended.1 moved
  · simp only [if_neg staging]
    split
    · exact .unmoved s
    · split
      · exact .unmoved s
      · exact .unmoved s
      · next idle => exact checked (by rw [idle]; decide) (by rw [idle]; decide) rfl rfl
      · next contra => exact absurd contra staging

theorem chunk_keeps (s : State) (data : Bytes) : control (s.chunk data).1 = control s ∧ ledger (s.chunk data).1 = ledger s := by
  unfold State.chunk
  split
  · rw [nakState_state]; exact ⟨rfl, rfl⟩
  · split
    · exact ⟨rfl, rfl⟩
    · split
      · exact ⟨rfl, rfl⟩
      · split <;> exact ⟨rfl, rfl⟩

theorem stageFrame_attended (s : State) (data : Bytes) :
    Attended s (control (s.stageFrame data).1) (ledger (s.stageFrame data).1) := by
  unfold State.stageFrame
  split
  · rw [nakState_state]; exact .unmoved s
  · next staging =>
    have free : s.update.state ≠ .committing := by rw [not_not.mp staging]; decide
    split
    · exact .unmoved s
    · split
      · exact .unmoved s
      · split
        · exact .unmoved s
        · split
          · exact .unmoved s
          · exact endTxn_attended _ free

/-! ### CLOSE and ABANDON -/

/-- The commit of a closed transaction is what UC starts where none is in flight (R34 to R39). -/
theorem startCommit_starts {s : State} {x : Txn} (txn : s.update.txn = some x) :
    control (s.startCommit x) = control s ∧ Starts (ledger s) (ledger (s.startCommit x)) := by
  have held : s.committing.update.txn = some x := txn
  have done {t : State} (same : t.update = s.committing.update) (stores : ledger t = ledger s.committing) :
      Starts (ledger s) (ledger t.commitDone) := by
    rw [(commitDone_keeps t).2, stores, same, held]
    exact .moves .idle (by decide)
  cases kind : x.kind with
  | entry =>
    simp only [State.startCommit, kind]
    obtain ⟨sameC, e, moved⟩ := entryCommit_keeps s.committing x
    rw [sameC, moved]
    exact ⟨rfl, .entry x.number e⟩
  | template =>
    simp only [State.startCommit, kind]
    exact ⟨templateCommit_control s.committing x, .of_state (st := .committing) (templateCommit_starts held)⟩
  | glyphPage =>
    by_cases load : x.op = .load
    · rw [startCommit_glyph_load kind load]
      exact ⟨rfl, .glyph x.number⟩
    · have clears : s.startCommit x = ((s.committing.setGlyphPage x.number none).commitDone).raiseAll .glyphsChanged := by
        cases op : x.op with
        | load => exact absurd op load
        | _ => simp only [State.startCommit, kind, State.glyphCommit, op]
      rw [clears, (raiseAll_keeps _ _).1, (raiseAll_keeps _ _).2, (commitDone_keeps _).1]
      exact ⟨rfl, done rfl rfl⟩
  | language =>
    simp only [State.startCommit, kind, State.languageCommit, raiseAll_keeps]
    exact ⟨(commitDone_keeps _).1, done rfl rfl⟩
  | evacPlan =>
    simp only [State.startCommit, kind, State.planCommit, noticePlan_keeps]
    exact ⟨(commitDone_keeps _).1, done rfl rfl⟩

theorem close_attended (s : State) (data : Bytes) : Attended s (control (s.close data).1) (ledger (s.close data).1) := by
  unfold State.close
  split
  · next x staging txn =>
    have free : s.update.state ≠ .committing := by rw [staging]; decide
    split
    · exact .unmoved s
    · split
      · exact endTxn_attended _ free
      · split
        · exact endTxn_attended _ free
        · split
          · exact .of_state free (st := .deferred) (by decide) rfl rfl
          · exact ⟨(startCommit_starts txn).1, .inr ⟨free, (startCommit_starts txn).2⟩⟩
  · rw [nakState_state]; exact .unmoved s

theorem abandon_attended (s : State) : Attended s (control s.abandon.1) (ledger s.abandon.1) := by
  unfold State.abandon
  split
  · next staging => exact endTxn_attended _ (by rw [staging]; decide)
  · next deferred => exact endTxn_attended _ (by rw [deferred]; decide)
  · rw [nakState_state]; exact .unmoved s
  · rw [nakState_state]; exact .unmoved s

/-! ### POLL, and the frames without data -/

theorem poll_state (s : State) (data : Bytes) : (s.poll data).1 = s := by
  unfold State.poll
  split <;> rfl

/-- The check of a frame's length leaves the state, or goes on to the action (R189). -/
theorem withLength_state (n : Nat) (act : State → Bytes → State × TrunkReply) (s : State) (data : Bytes) :
    (withLength n act s data).1 = s ∨ (withLength n act s data).1 = (act s data).1 := by
  unfold withLength
  split
  · exact .inr rfl
  · exact .inl rfl

end Sys2Proof.Machine.NameOrder
end

section
/-! PROOFS. The work of a segment leaves the two views: its cells, its include stack and its pixel groups. -/

namespace Sys2Proof.Machine.NameOrder

open Sys2Proof Sys2Proof.Machine Sys2Proof.Machine.UpdateTransactions

/-! ### The include stack -/

@[simp] theorem setStage_keeps (s : State) (st : Stage) :
    control (s.setStage st) = control s ∧ ledger (s.setStage st) = ledger s := modSegment_keeps s _ (fun _ => rfl)

@[simp] theorem failSegment_keeps (s : State) (r : FaultReason) :
    control (s.failSegment r) = control s ∧ ledger (s.failSegment r) = ledger s := setStage_keeps s _

@[simp] theorem setStack_keeps (s : State) (f : Face) (stack : List Level) :
    control (s.setStack f stack) = control s ∧ ledger (s.setStack f stack) = ledger s := by
  simp [State.setStack]

@[simp] theorem pushLevel_keeps (s : State) (f : Face) (t x y : Nat) (ret : Option (Fin 16)) :
    control (s.pushLevel f t x y ret) = control s ∧ ledger (s.pushLevel f t x y ret) = ledger s := by
  unfold State.pushLevel
  simp only [setStage_keeps]
  exact setStack_keeps s f _

@[simp] theorem enterTemplate_keeps (s : State) (f : Face) (t x y : Nat) (ret : Option (Fin 16)) :
    control (s.enterTemplate f t x y ret) = control s ∧ ledger (s.enterTemplate f t x y ret) = ledger s := by
  unfold State.enterTemplate
  split_ifs <;> simp

theorem resumePush_keeps (s : State) : control s.resumePush = control s ∧ ledger s.resumePush = ledger s := by
  unfold State.resumePush
  split
  · split
    · split <;> simp
    · exact ⟨rfl, rfl⟩
  · exact ⟨rfl, rfl⟩

@[simp] theorem gotoCell_keeps (s : State) (f : Face) (cell : Fin 16) :
    control (s.gotoCell f cell) = control s ∧ ledger (s.gotoCell f cell) = ledger s := by
  unfold State.gotoCell
  split <;> simp

@[simp] theorem nextCell_keeps (s : State) (f : Face) :
    control (s.nextCell f) = control s ∧ ledger (s.nextCell f) = ledger s := by
  unfold State.nextCell
  split <;> simp

@[simp] theorem popLevel_keeps (s : State) (f : Face) :
    control (s.popLevel f) = control s ∧ ledger (s.popLevel f) = ledger s := by
  unfold State.popLevel
  split <;> simp

/-! ### Drawing -/

@[simp] theorem drawShape_keeps (s : State) (f : Face) (l : Layer) (m : Combine) (shape : Shape) (r : Rect) :
    control (s.drawShape f l m shape r) = control s ∧ ledger (s.drawShape f l m shape r) = ledger s := by
  unfold State.drawShape
  by_cases map : l = .map <;> simp [map]

/-- A FILL, FRAME or IMAGE that passes its checks draws its shape (R116 to R119); no other segment draws. -/
theorem plainDraw_keeps {s t : State} {f : Face} {x y : Nat} {seg : Seg} (draws : s.plainDraw f x y seg = some (.ok t)) :
    control t = control s ∧ ledger t = ledger s := by
  have shown {l : Layer} {m : Combine} {shape : Shape} {r : Rect} {fits : Bool} (plain : seg.plain = some (l, m, shape, r, fits)) :
      control t = control s ∧ ledger t = ledger s := by
    rw [plainDraw_plain s f x y seg l m shape r fits plain] at draws
    split at draws
    · split at draws
      · cases draws
        exact drawShape_keeps s f _ _ _ _
      · cases draws
    · cases draws
  cases seg with
  | fill | frame | image => exact shown rfl
  | _ => cases draws

@[simp] theorem routeSnapshot_keeps (s : State) (f : Face) (n : Nat) (colour : Colour) (width : Nat) :
    control (s.routeSnapshot f n colour width) = control s ∧ ledger (s.routeSnapshot f n colour width) = ledger s := by
  unfold State.routeSnapshot
  dsimp only
  split_ifs <;> simp

/-! ### Queue-level cells -/

@[simp] theorem cardSnapshot_keeps (s : State) (f : Face) (n : Nat) (slot : Fin 12) (t : Nat) (r : Rect) :
    control (s.cardSnapshot f n slot t r) = control s ∧ ledger (s.cardSnapshot f n slot t r) = ledger s := by
  unfold State.cardSnapshot
  dsimp only
  split_ifs
  · simp
  · simp [FaceContext.setCard]

@[simp] theorem clearSlotWork_keeps (s : State) (f : Face) (slot : Fin 12) (colour : Colour) :
    control (s.clearSlotWork f slot colour) = control s ∧ ledger (s.clearSlotWork f slot colour) = ledger s := by
  unfold State.clearSlotWork
  split <;> simp

@[simp] theorem routeWork_keeps (s : State) (f : Face) (n : Nat) (colour : Colour) (width : Nat) :
    control (s.routeWork f n colour width) = control s ∧ ledger (s.routeWork f n colour width) = ledger s := by
  unfold State.routeWork
  split_ifs <;> simp

@[simp] theorem clearRouteWork_keeps (s : State) (f : Face) :
    control (s.clearRouteWork f) = control s ∧ ledger (s.clearRouteWork f) = ledger s := by
  unfold State.clearRouteWork
  split_ifs <;> simp

theorem queueWork_keeps (s : State) (f : Face) (seg : Seg) :
    control (s.queueWork f seg) = control s ∧ ledger (s.queueWork f seg) = ledger s := by
  cases seg with
  | fill | frame | image =>
    unfold State.queueWork
    dsimp only
    split
    · next draws => simp [plainDraw_keeps draws]
    · simp
    · simp
  | card n slot t r => unfold State.queueWork; dsimp only; split_ifs <;> simp
  | _ => simp [State.queueWork]

theorem startCell_keeps (s : State) (f : Face) (cell : Bytes) :
    control (s.startCell f cell) = control s ∧ ledger (s.startCell f cell) = ledger s := by
  unfold State.startCell
  split
  · simp
  · split
    · simp
    · split
      · simp
      · exact queueWork_keeps s f _

/-! ### Template cells -/

@[simp] theorem textWork_keeps (s : State) (f : Face) (l : Fin 4) (n : Snapshot) (field : TextSource) (m : Combine) (col : Colour)
    (scale x y width : Nat) : control (s.textWork f l n field m col scale x y width) = control s ∧
      ledger (s.textWork f l n field m col scale x y width) = ledger s := by
  unfold State.textWork
  split
  · simp
  · split <;> simp

theorem templateWork_keeps (s : State) (f : Face) (language : Fin 4) (top : Level) (seg : Seg) :
    control (s.templateWork f language top seg) = control s ∧ ledger (s.templateWork f language top seg) = ledger s := by
  cases seg with
  | fill | frame | image =>
    unfold State.templateWork
    dsimp only
    split
    · next draws => exact plainDraw_keeps draws
    · simp
    · simp
  | textField | select => unfold State.templateWork; dsimp only; split <;> simp
  | _ => simp [State.templateWork]

theorem templateStep_keeps (s : State) (g : Segment) (top : Level) (below : List Level) :
    control (s.templateStep g top below) = control s ∧ ledger (s.templateStep g top below) = ledger s := by
  unfold State.templateStep
  dsimp only
  split
  · simp
  · split
    · simp
    · split
      · simp
      · split
        · simp
        · rw [(templateWork_keeps _ _ _ _ _).1, (templateWork_keeps _ _ _ _ _).2]
          exact setStack_keeps s _ _

/-! ### Pixel groups, and the ends of an erase and of a copy -/

theorem writeGroup_keeps (s : State) (count : Nat) :
    control (s.writeGroup count) = control s ∧ ledger (s.writeGroup count) = ledger s := by
  unfold State.writeGroup
  split <;> exact ⟨rfl, rfl⟩

theorem workDone_keeps (s : State) (g : Segment) :
    control (s.workDone g) = control s ∧ ledger (s.workDone g) = ledger s := by
  unfold State.workDone
  split <;> simp [FaceContext.setCard]

theorem pixelGroup_keeps (s : State) (count : Nat) :
    control (s.pixelGroup count) = control s ∧ ledger (s.pixelGroup count) = ledger s := by
  unfold State.pixelGroup
  dsimp only
  split
  · split
    · rw [(workDone_keeps _ _).1, (workDone_keeps _ _).2]
      exact writeGroup_keeps s count
    · exact writeGroup_keeps s count
  · exact writeGroup_keeps s count

theorem eraseDone_keeps (s : State) (g : Segment) : control (s.eraseDone g) = control s ∧ ledger (s.eraseDone g) = ledger s := by
  unfold State.eraseDone
  dsimp only
  split
  · split <;> simp
  · simp

theorem answerGlyph_keeps (s : State) : control s.answerGlyph = control s ∧ ledger s.answerGlyph = ledger s := by
  unfold State.answerGlyph
  split
  · split <;> exact ⟨rfl, rfl⟩
  · exact ⟨rfl, rfl⟩

/-- The copy into a glyph page ends: the page is no longer copied into, and UC leaves the commit if it holds the transaction. -/
theorem glyphCopied_keeps (s : State) (p : Nat) : control (s.glyphCopied p) = control s ∧
    ∃ st, ledger (s.glyphCopied p) = { ledger s with glyphCopy := none, state := st } := by
  unfold State.glyphCopied
  dsimp only
  rw [(answerGlyph_keeps _).1, (answerGlyph_keeps _).2]
  simp only [raiseAll_keeps, commitDone_keeps]
  exact ⟨rfl, _, rfl⟩

theorem templateCopied_keeps (s : State) (t : Nat) : control (s.templateCopied t).resumePush = control s ∧
    ∃ st, ledger (s.templateCopied t).resumePush = { ledger s with templateCopy := none, state := st } := by
  rw [(resumePush_keeps _).1, (resumePush_keeps _).2]
  simp only [State.templateCopied, raiseAll_keeps, commitDone_keeps]
  exact ⟨rfl, _, rfl⟩

/-- A reposition is done: the lists take their new content, and UC leaves the commit if it holds the transaction (R52). -/
theorem repositionDone_keeps (s : State) (r : Reposition) :
    control (((s.listsMoved r).commitDone).answerAllHeld HeldRequest.isQuery) = control s ∧
    ∃ st, ledger (((s.listsMoved r).commitDone).answerAllHeld HeldRequest.isQuery) =
      { ledger s with orders := ⟨Vector.ofFn (fun l : Fin 4 => s.repositioned r l), none⟩, state := st } := by
  rw [(answerQueries_keeps _).1, (answerQueries_keeps _).2, (commitDone_keeps _).1, (commitDone_keeps _).2]
  exact ⟨rfl, _, rfl⟩

end Sys2Proof.Machine.NameOrder
end

section
/-! PROOFS. The soundness of the engine as the engine's view shows it, and the operations that keep it. -/

namespace Sys2Proof.Machine.NameOrder

open Sys2Proof Sys2Proof.Machine Sys2Proof.Machine.UpdateTransactions

/-! ### Soundness on the view -/

/-- A claimant claims the engine (R106). -/
def Control.Claims (c : Control) : Claimant → Prop
  | .face f => c.queue f = .pending
  | .purge => c.purging = true ∧ c.holder ≠ some .purge
  | .ec => c.evac = .takeover ∧ c.holder ≠ some .ec

/-- The holder, the queues, the segment and EC agree: the soundness of the engine, the recorded decision apart. -/
structure Control.Agrees (c : Control) : Prop where
  running : ∀ f : Face, c.queue f = .running ↔ c.holder = some (.face f)
  segment : ∀ f : Face, c.holder = some (.face f) ↔ c.segment = some f
  evacHolds : (c.holder = some .ec → c.evac ≠ .normal) ∧ (c.evac = .showing ∨ c.evac = .releasing → c.holder = some .ec)
  halted : c.evac ≠ .normal → ∀ f : Face, c.queue f ≠ .pending ∧ c.queue f ≠ .waiting

/-- A recorded decision stands on a claim to a free engine, and a free engine with a claim has one (R107). -/
structure Control.Decided (c : Control) : Prop where
  stands : ∀ k, c.decision = some k → c.holder = none ∧ c.Claims k
  made : c.holder = none → c.decision = none → ∀ k, ¬c.Claims k

theorem stillClaims_iff (s : State) (d : Decision) : s.stillClaims d = true ↔ (control s).Claims d.chosen := by
  unfold State.stillClaims
  cases d.chosen <;>
    simp [Control.Claims, control, State.queueClaims, State.purgeClaims, State.purgeHolds, State.ecClaims]

theorem mem_claims {s : State} {f : Face} : f ∈ s.claims ↔ (control s).Claims (.face f) := by
  simp [State.claims, State.queueClaims, Control.Claims, control]

/-- Among faces that claim, one is chosen: of those of the lowest level, the first in rotation (R108). -/
theorem chooseFace_isSome {s : State} {claims : List Face} {f : Face} (claimed : f ∈ claims) :
    (s.chooseFace claims).isSome = true := by
  obtain ⟨best, mem, least⟩ := claims.toFinset.exists_min_image s.effectiveLevel ⟨f, by simpa using claimed⟩
  have rotates : ∀ (last : Option Face) (g : Face), g ∈ rotation last := by decide
  rw [State.chooseFace, List.find?_isSome]
  exact ⟨best, rotates _ best, by simpa using ⟨by simpa using mem, fun g hg => least g (by simpa using hg)⟩⟩

/-- No decision is made exactly where nobody claims that could be granted: a queue claims in NORMAL alone (R107). -/
theorem grantDecision_eq_none {s : State} (halted : s.evac.state ≠ .normal → ∀ f : Face, (s.face f).queue.state ≠ .pending) :
    s.grantDecision = none ↔ ∀ k, ¬(control s).Claims k := by
  have purge : s.purgeClaims = true ↔ (control s).Claims .purge := stillClaims_iff s ⟨.purge, []⟩
  have ec : s.ecClaims = true ↔ (control s).Claims .ec := stillClaims_iff s ⟨.ec, []⟩
  constructor
  · intro none k
    unfold State.grantDecision at none
    split at none
    · cases none
    · next noPurge =>
      split at none
      · cases none
      · next noEc =>
        cases k with
        | purge => exact fun claims => noPurge (purge.mpr claims)
        | ec => exact fun claims => noEc (ec.mpr claims)
        | face f =>
          intro claims
          split at none
          · next out => exact halted out f claims
          · obtain ⟨g, chosen⟩ := Option.isSome_iff_exists.mp (chooseFace_isSome (mem_claims.mpr claims))
            rw [chosen] at none
            cases none
  · intro nobody
    cases decision : s.grantDecision with
    | none => rfl
    | some d => exact absurd ((stillClaims_iff s d).mp (grantDecision_claims s d decision)) (nobody _)

theorem engineSound_iff {s : State} : s.EngineSound ↔ (control s).Agrees ∧ (control s).Decided := by
  have recorded {d : Decision} (h : s.arbiter.decision = some d) : (control s).decision = some d.chosen :=
    congrArg (Option.map Decision.chosen) h
  constructor
  · intro h
    refine ⟨⟨h.running, h.segment, h.evacHolds, h.halted⟩, fun k stands => ?_, fun free none => ?_⟩
    · obtain ⟨d, hd, rfl⟩ := Option.map_eq_some_iff.mp stands
      exact ⟨(h.decision d hd).1, (stillClaims_iff s d).mp (h.decision d hd).2⟩
    · exact (grantDecision_eq_none (fun out f => (h.halted out f).1)).mp (h.decided free (Option.map_eq_none_iff.mp none))
  · rintro ⟨a, d⟩
    refine ⟨a.running, a.segment, fun k hk => ?_, a.evacHolds, a.halted, fun free none => ?_⟩
    · obtain ⟨free, claims⟩ := d.stands k.chosen (recorded hk)
      exact ⟨free, (stillClaims_iff s k).mpr claims⟩
    · exact (grantDecision_eq_none (fun out f => (a.halted out f).1)).mpr (d.made free (Option.map_eq_none_iff.mpr none))

theorem engineSound_of_control {s t : State} (h : s.EngineSound) (same : control t = control s) : t.EngineSound := by
  rw [engineSound_iff, same]
  exact engineSound_iff.mp h

theorem agrees_of_sound {s : State} (h : s.EngineSound) : (control s).Agrees := (engineSound_iff.mp h).1

/-- A held engine needs no decision. -/
theorem decided_of_held {c : Control} {k : Claimant} (held : c.holder = some k) (none : c.decision = none) : c.Decided :=
  ⟨fun _ stands => (by rw [none] at stands; cases stands), fun free => (by rw [held] at free; cases free)⟩

/-- A sound engine that is held has no decision recorded. -/
theorem decision_of_held {s : State} (h : s.EngineSound) {k : Claimant} (held : s.arbiter.holder = some k) :
    (control s).decision = none := by
  cases decision : (control s).decision with
  | none => rfl
  | some d => cases held.symm.trans ((engineSound_iff.mp h).2.stands d decision).1

/-! ### EA's look -/

/-- After EA's look at agreeing parts the engine is sound, whatever the decision was (R107). -/
theorem arbitrate_sound {s : State} (h : (control s).Agrees) : s.arbitrate.EngineSound := by
  have claims (k : Claimant) : (control s.arbitrate).Claims k ↔ (control s).Claims k := by
    rw [arbitrate_control]; cases k <;> rfl
  have undecided : s.grantDecision = none → ∀ k, ¬(control s).Claims k :=
    (grantDecision_eq_none (fun out f => (h.halted out f).1)).mp
  rw [engineSound_iff]
  refine ⟨?_, fun k stands => ?_, fun free none k => ?_⟩
  · rw [arbitrate_control]
    exact ⟨h.running, h.segment, h.evacHolds, h.halted⟩
  · obtain ⟨d, hd, rfl⟩ := Option.map_eq_some_iff.mp stands
    obtain ⟨free, still⟩ := arbitrate_decision s d hd
    exact ⟨(arbitrate_holder s).trans free, (claims _).mpr ((stillClaims_iff s d).mp still)⟩
  · have free : s.arbiter.holder = Option.none := (arbitrate_holder s).symm.trans free
    have none : s.arbitrate.arbiter.decision = Option.none := Option.map_eq_none_iff.mp none
    rw [claims]
    refine undecided ?_ k
    cases decision : s.arbiter.decision with
    | none =>
      rw [arbitrate_of_undecided free decision] at none
      exact none
    | some d =>
      rw [arbitrate_of_decided free decision] at none
      split at none
      · cases decision.symm.trans none
      · exact none

/-! ### Queues that move -/

/-- Queues may move as long as none begins or ends RUNNING, and none claims or waits out of NORMAL. -/
theorem Control.Agrees.requeue {c : Control} (h : c.Agrees) {q : Face → QueueState}
    (running : ∀ f, q f = .running ↔ c.queue f = .running)
    (out : c.evac ≠ .normal → ∀ f, q f ≠ .pending ∧ q f ≠ .waiting) : ({ c with queue := q } : Control).Agrees :=
  ⟨fun f => (running f).trans (h.running f), h.segment, h.evacHolds, out⟩

/-- One queue that moves. -/
theorem Control.Agrees.requeueOne {c : Control} (h : c.Agrees) {f : Face} {st : QueueState}
    (running : st = .running ↔ c.queue f = .running) (out : c.evac ≠ .normal → st ≠ .pending ∧ st ≠ .waiting) :
    ({ c with queue := Function.update c.queue f st } : Control).Agrees := by
  refine h.requeue (fun g => ?_) (fun normal g => ?_) <;> rw [Function.update_apply]
  · split
    · next own => rw [own]; exact running
    · rfl
  · split
    · exact out normal
    · exact h.halted normal g

/-- A queue that is not RUNNING made IDLE. -/
theorem Control.Agrees.idleOne {c : Control} (h : c.Agrees) {f : Face} (still : c.queue f ≠ .running) :
    ({ c with queue := Function.update c.queue f .idle } : Control).Agrees :=
  h.requeueOne ⟨nofun, fun contra => absurd contra still⟩ (fun _ => ⟨by decide, by decide⟩)

/-- A halt from outside takes a queue out of PENDING and WAITING, and leaves it IDLE or RUNNING (R92). -/
theorem haltedBy_state (q : Queue) (r : HaltReason) : ((q.haltedBy r).state = .running ↔ q.state = .running) ∧
    (q.haltedBy r).state ≠ .pending ∧ (q.haltedBy r).state ≠ .waiting := by
  cases state : q.state <;> simp [Queue.haltedBy, state, Queue.halted]

theorem haltQueues_control (s : State) (r : HaltReason) :
    control (s.haltQueues r) = { control s with queue := fun f => ((s.face f).queue.haltedBy r).state } := by
  have queue : (control (s.haltQueues r)).queue = fun f => ((s.face f).queue.haltedBy r).state := by
    funext f
    exact congrArg (fun c => c.queue.state) (mapFaces_face s _ f)
  calc control (s.haltQueues r) = { control s with queue := (control (s.haltQueues r)).queue } := rfl
    _ = _ := by rw [queue]

/-- The queues halted by a cause: none claims or waits any more. -/
theorem haltQueues_agrees {s : State} (h : (control s).Agrees) (r : HaltReason) : (control (s.haltQueues r)).Agrees := by
  rw [haltQueues_control]
  exact h.requeue (fun f => (haltedBy_state _ r).1) (fun _ f => (haltedBy_state _ r).2)

/-! ### The requests that move a queue -/

theorem applyReset_agrees {s : State} {f : Face} (h : (control s).Agrees) (still : (s.face f).queue.state ≠ .running) :
    (control (s.applyReset f)).Agrees := by
  rw [applyReset_control]
  exact h.idleOne still

theorem atRest_not_running {q : Queue} (rest : q.atRest = true) : q.state ≠ .running := by
  intro running
  simp [Queue.atRest, running] at rest

/-- STOP takes a queue that is not RUNNING to IDLE (R89). -/
theorem stopQueue_agrees {s : State} {f : Face} (h : (control s).Agrees) : (control (s.stopQueue f)).Agrees := by
  have idles (still : (s.face f).queue.state ≠ .running) : (control ((s.modQueue f Queue.idled).raise f .queueIdle)).Agrees := by
    rw [(raise_keeps _ _ _).1, modQueue_control]
    exact h.idleOne still
  unfold State.stopQueue
  split
  · exact h
  · next pending => exact idles (by rw [pending]; decide)
  · next waiting => exact idles (by rw [waiting]; decide)
  · next halted => exact idles (by rw [halted]; decide)
  · rw [modQueue_control_of_state _ _ _ rfl]
    exact h

/-- What holds of the view after a request whose owner keeps the engine sound. -/
theorem request_sound {s : State} {own : State → State} (f : Face) (code : Byte) (known : Bool) (x : Transfer) (h : s.EngineSound)
    (owner : ∀ t : State, t.EngineSound → (own t).EngineSound) : (s.request f code known x own).EngineSound := by
  rw [engineSound_iff]
  refine request_keeps (P := fun c _ => c.Agrees ∧ c.Decided) f code known x (engineSound_iff.mp h) (fun t same _ => ?_)
  exact engineSound_iff.mp (owner t (engineSound_of_control h same))

theorem execStart_sound {s t : State} {f : Face} {x : Transfer} (h : s.EngineSound) (next : execStart f x s = .next t) :
    t.EngineSound := by
  cases next
  refine request_sound f _ _ x h (fun u h => ?_)
  have answered (code : ReplyCode) : (u.answer f code 0x21 []).EngineSound := engineSound_of_control h (answer_keeps _ _ _ _ _).1
  split
  · split
    · exact answered _
    · next normal =>
      split
      · exact answered _
      · next rest =>
        refine arbitrate_sound ?_
        rw [(answer_keeps _ _ _ _ _).1, modQueue_control]
        have still := atRest_not_running (by simpa using rest)
        exact (agrees_of_sound h).requeueOne ⟨nofun, fun contra => absurd contra still⟩
          (fun out => absurd out normal)
  · exact answered _

theorem execStop_sound {s t : State} {f : Face} {x : Transfer} (h : s.EngineSound) (next : execStop f x s = .next t) :
    t.EngineSound := by
  cases next
  refine request_sound f _ _ x h (fun u h => arbitrate_sound ?_)
  rw [(answer_keeps _ _ _ _ _).1]
  exact stopQueue_agrees (agrees_of_sound h)

theorem execResetFace_sound {s t : State} {f : Face} {x : Transfer} (h : s.EngineSound) (next : execResetFace f x s = .next t) :
    t.EngineSound := by
  cases next
  refine request_sound f _ _ x h (fun u h => ?_)
  split
  · exact engineSound_of_control h (hold_keeps _ _ _).1
  · next free =>
    refine arbitrate_sound (applyReset_agrees (agrees_of_sound h) (fun running => free ?_))
    simp [State.faceHolds, (h.running f).mp running]

/-! ### Frame starts and withdrawals -/

/-- A frame start makes a WAITING queue PENDING or IDLE, which it can be in NORMAL alone (R91). -/
theorem waitFrameDone_agrees {s : State} {f : Face} (h : (control s).Agrees) : (control (s.waitFrameDone f)).Agrees := by
  have completed (q : Queue) : q.completed.state ≠ .running := by
    unfold Queue.completed
    split <;> simp [Queue.idled]
  unfold State.waitFrameDone
  dsimp only
  split
  · next r waiting range =>
    have queue : ((s.raiseIf (cellNotify ((s.face f).queue.cell r.next)) f .segmentDone).face f).queue = (s.face f).queue := by
      rw [raiseIf_face]
    rw [(raiseIf_keeps _ _ _ _).1, modQueue_control, (raiseIf_keeps _ _ _ _).1, queue]
    refine h.requeueOne ⟨fun contra => absurd contra (completed _), fun running => ?_⟩ (fun out => ?_)
    · cases waiting.symm.trans running
    · exact absurd waiting (h.halted out f).2
  · exact h

theorem frameStart_sound {s : State} {f : Face} (h : s.EngineSound) : (s.frameStart f).EngineSound := by
  refine arbitrate_sound (waitFrameDone_agrees ?_)
  rw [modFace_control_of_queue s f _ rfl]
  exact agrees_of_sound h

theorem withdraw_sound {s : State} {f : Face} (h : s.EngineSound) : (s.withdraw f).EngineSound := by
  refine arbitrate_sound ?_
  rw [(notePulse_keeps _ _).1, modFace_control]
  exact (agrees_of_sound h).requeueOne (haltedBy_state _ _).1 (fun _ => (haltedBy_state _ _).2)

/-! ### Evacuation -/

/-- TAKEOVER halts the queues and begins with EC's claim (R174). -/
theorem takeover_sound {s : State} (h : (control s).Agrees) : s.takeover.EngineSound := by
  obtain ⟨running, segment, evacHolds, -⟩ := haltQueues_agrees h .evac
  refine arbitrate_sound ⟨running, segment, ⟨fun _ => nofun, fun shows => ?_⟩, fun _ f => ?_⟩
  · rcases shows with shows | shows <;> cases shows
  · show (control (s.haltQueues .evac)).queue f ≠ _ ∧ (control (s.haltQueues .evac)).queue f ≠ _
    rw [haltQueues_control]
    exact (haltedBy_state _ _).2

/-- While EC holds the engine it moves among its states out of NORMAL. -/
theorem evac_moves_sound {s t : State} {e : EvacState} (h : s.EngineSound) (holds : s.arbiter.holder = some .ec) (out : e ≠ .normal)
    (moved : control t = { control s with evac := e }) : t.EngineSound := by
  obtain ⟨running, segment, evacHolds, halted⟩ := agrees_of_sound h
  rw [engineSound_iff, moved]
  exact ⟨⟨running, segment, ⟨fun _ => out, fun _ => holds⟩, fun _ => halted (evacHolds.1 holds)⟩,
    decided_of_held holds (decision_of_held h holds)⟩

theorem startRelease_sound {s : State} (h : s.EngineSound) (holds : s.arbiter.holder = some .ec) : s.startRelease.EngineSound :=
  evac_moves_sound h holds (by decide) (startRelease_control s)

/-- EC's look at the sources keeps the engine sound (R174, R180, R181, R183). -/
theorem lookSources_sound {s : State} (h : s.EngineSound) : s.lookSources.EngineSound := by
  unfold State.lookSources
  split
  · split
    · exact takeover_sound (agrees_of_sound h)
    · exact h
  · split
    · exact engineSound_of_control h rfl
    · exact h
  · next showing =>
    split
    · split
      · unfold State.redrawCause
        split
        · exact engineSound_of_control h (startView_keeps s).1
        · exact engineSound_of_control h rfl
      · exact h
    · split
      · exact startRelease_sound h (h.evacHolds.2 (.inl showing))
      · exact h
  · exact h

theorem afterDrawing_sound {s : State} (h : s.EngineSound) (holds : s.arbiter.holder = some .ec) : s.afterDrawing.EngineSound := by
  unfold State.afterDrawing
  split
  · exact startRelease_sound h holds
  · split
    · exact engineSound_of_control h (startView_keeps s).1
    · exact engineSound_of_control h rfl

theorem drawingDone_holds {s : State} {d : Drawing} (done : s.drawingDone d = true) : s.arbiter.holder = some .ec := by
  simp only [State.drawingDone, Bool.and_eq_true, decide_eq_true_eq] at done
  exact done.1.1

theorem viewEnd_sound {s : State} (h : s.EngineSound) (holds : s.arbiter.holder = some .ec) : s.viewEnd.EngineSound := by
  unfold State.viewEnd
  dsimp only
  split
  · refine afterDrawing_sound (evac_moves_sound h holds (e := .showing) (by decide) ?_) holds
    rw [(raiseAll_keeps _ _).1]
    rfl
  · exact afterDrawing_sound (engineSound_of_control h rfl) holds

/-- The end of the BLANK drawing frees the engine, for TAKEOVER again if a source wants it (R183). -/
theorem blankEnd_sound {s : State} (h : s.EngineSound) (holds : s.arbiter.holder = some .ec) : s.blankEnd.EngineSound := by
  obtain ⟨running, segment, evacHolds, halted⟩ := agrees_of_sound h
  unfold State.blankEnd
  dsimp only
  obtain ⟨u, hu⟩ : ∃ u, u = (((s.mapFaces (fun f c =>
      if s.enabled f then { c with palette := { c.palette with source := .face } } else c)).release).raiseAll .evacOff).modEvac
      (fun e => { e with state := .normal, drawnZone := none, language := none, drawing := none }) := ⟨_, rfl⟩
  have view : control u = { control s with holder := none, decision := none, evac := .normal } := by
    have palette := mapFaces_control_of_queue s
      (fun f c => if s.enabled f then { c with palette := { c.palette with source := .face } } else c)
      (fun f => by split <;> rfl)
    rw [hu, modEvac_control, (raiseAll_keeps _ _).1]
    exact congrArg (fun c : Control => { c with holder := none, decision := none, evac := .normal }) palette
  have free (f : Face) : s.arbiter.holder ≠ some (.face f) := by rw [holds]; simp
  have agrees : (control u).Agrees := by
    rw [view]
    refine ⟨fun f => ⟨fun runs => absurd ((running f).mp runs) (free f), nofun⟩,
      fun f => ⟨nofun, fun runs => absurd ((segment f).mpr runs) (free f)⟩,
      ⟨nofun, fun shows => ?_⟩, fun out => absurd rfl out⟩
    rcases shows with shows | shows <;> cases shows
  rw [← hu]
  split
  · exact takeover_sound agrees
  · exact arbitrate_sound agrees

/-! ### The grants -/

/-- A recorded decision stands on its claim. -/
theorem claims_of_decision {s : State} {k : Claimant} (h : s.EngineSound) (chosen : s.arbiter.decision.map Decision.chosen = some k) :
    (control s).Claims k := ((engineSound_iff.mp h).2.stands k chosen).2

/-- With the engine free no queue runs and no segment is held. -/
theorem free_engine {c : Control} (h : c.Agrees) (free : c.holder = none) :
    (∀ f, c.queue f ≠ .running) ∧ ∀ f, c.segment ≠ some f := by
  constructor
  · intro f runs; cases free.symm.trans ((h.running f).mp runs)
  · intro f held; cases free.symm.trans ((h.segment f).mpr held)

/-- A grant to the purge or to EC out of a free engine. -/
theorem granted_agrees {c : Control} {k : Claimant} (h : c.Agrees) (free : c.holder = none) (face : ∀ f, k ≠ .face f)
    (ec : k = .ec → c.evac ≠ .normal) : ({ c with holder := some k, decision := none } : Control).Agrees := by
  obtain ⟨still, none⟩ := free_engine h free
  refine ⟨fun f => ⟨fun runs => absurd runs (still f), fun held => absurd (Option.some.inj held) (face f)⟩,
    fun f => ⟨fun held => absurd (Option.some.inj held) (face f), fun held => absurd held (none f)⟩,
    ⟨fun held => ec (Option.some.inj held), fun shows => ?_⟩, h.halted⟩
  cases free.symm.trans (h.evacHolds.2 shows)

theorem purgeGrant_sound {s : State} (h : s.EngineSound) (free : s.arbiter.holder = none) : s.purgeGrant.EngineSound := by
  have agrees : (control s.purgeGrant).Agrees :=
    haltQueues_agrees (granted_agrees (agrees_of_sound h) free (fun _ => by simp) (fun contra => by cases contra)) .purged
  exact engineSound_iff.mpr ⟨agrees, decided_of_held (k := .purge) rfl rfl⟩

theorem ecGrant_control (s : State) : control s.ecGrant = { control s with holder := some .ec, decision := none } := by
  unfold State.ecGrant
  simp only [startView_keeps, modEvac_control]
  exact congrArg (fun c : Control => { c with holder := some .ec, decision := none })
    (mapFaces_control_of_queue s (fun _ c => c.clearSlots) (fun _ => rfl))

theorem ecGrant_sound {s : State} (h : s.EngineSound) (free : s.arbiter.holder = none) (takeover : s.evac.state = .takeover) :
    s.ecGrant.EngineSound := by
  have out : (control s).evac ≠ .normal := by
    rw [show (control s).evac = .takeover from takeover]
    decide
  rw [engineSound_iff, ecGrant_control]
  exact ⟨granted_agrees (agrees_of_sound h) free (fun _ => by simp) (fun _ => out), decided_of_held rfl rfl⟩

end Sys2Proof.Machine.NameOrder
end

section
/-! PROOFS. The ends of segments, the grants to faces and the purge; every step keeps the engine sound. -/

namespace Sys2Proof.Machine.NameOrder

open Sys2Proof Sys2Proof.Machine Sys2Proof.Machine.UpdateTransactions

/-! ### The end of a segment -/

/-- No segment's end leaves its queue RUNNING (R90). -/
theorem afterEnd_not_running (q : Queue) (e : SegmentEnd) : (q.afterEnd e).state ≠ .running := by
  have completed : q.completed.state ≠ .running := by
    unfold Queue.completed
    split <;> simp [Queue.idled]
  unfold Queue.afterEnd
  split
  · simp [Queue.halted]
  · simp [Queue.halted]
  · split_ifs
    · simp [Queue.halted]
    · simp [Queue.idled]
    · simp
    · exact completed

/-- The halt of a takeover leaves a queue IDLE or HALTED (R92, R174). -/
theorem haltedAtEnd_state (q : Queue) (r : HaltReason) : (q.haltedAtEnd r).state = .idle ∨ (q.haltedAtEnd r).state = .halted := by
  unfold Queue.haltedAtEnd
  split
  · next idle => exact .inl idle
  · exact .inr rfl

/-- The queue state that the end of a segment leaves: not RUNNING, and in TAKEOVER neither PENDING nor WAITING. -/
theorem endedContext_state (c : FaceContext) (g : Segment) (fault : Option FaultReason) (on takeover : Bool) :
    (endedContext c g fault on takeover).queue.state ≠ .running ∧
    (takeover = true → (endedContext c g fault on takeover).queue.state ≠ .pending ∧
      (endedContext c g fault on takeover).queue.state ≠ .waiting) := by
  cases takeover with
  | false => exact ⟨afterEnd_not_running _ _, nofun⟩
  | true =>
    obtain idle | halted := haltedAtEnd_state ((endingQueue c.queue g fault).afterEnd (endOf g fault)) .evac
    · have state : (endedContext c g fault on true).queue.state = .idle := idle
      simp [state]
    · have state : (endedContext c g fault on true).queue.state = .halted := halted
      simp [state]

/-- The end taken frees the engine and moves the queue of the segment's face. -/
theorem endTaken_control (s : State) (g : Segment) (fault : Option FaultReason) :
    control (s.endTaken g fault) = { control s with
      holder := none, segment := none, decision := none
      queue := Function.update (control s).queue g.face ((s.endTaken g fault).face g.face).queue.state } := by
  obtain ⟨outside, -, -, others⟩ := endTaken_changes s g fault
  have queue : (control (s.endTaken g fault)).queue =
      Function.update (control s).queue g.face ((s.endTaken g fault).face g.face).queue.state := by
    funext h
    rw [Function.update_apply]
    split
    · next own => rw [own]; rfl
    · next other => exact congrArg (fun c => c.queue.state) (others h (Ne.symm other))
  calc control (s.endTaken g fault)
      = { control s with holder := none, segment := none, decision := none, queue := (control (s.endTaken g fault)).queue } := by
        rw [outside]; rfl
    _ = _ := by rw [queue]

theorem endTaken_ledger {s : State} (g : Segment) (fault : Option FaultReason) (free : s.arbiter.holder ≠ some .purge) :
    ledger (s.endTaken g fault) = ledger s := by
  have holds : s.purgeHolds = false := by simp [State.purgeHolds, free]
  rw [(endTaken_changes s g fault).1]
  exact congrArg (fun b => { ledger s with purgeHolds := b }) holds.symm

theorem endTaken_agrees {s : State} {g : Segment} (fault : Option FaultReason) (h : (control s).Agrees)
    (segment : s.engine.segment = some g) : (control (s.endTaken g fault)).Agrees := by
  have holds : s.arbiter.holder = some (.face g.face) := (h.segment g.face).mpr (congrArg (Option.map Segment.face) segment)
  obtain ⟨stopped, settled⟩ := endedContext_state (s.face g.face) g fault (s.enabled g.face) (decide (s.evac.state = .takeover))
  rw [endTaken_control, endTaken_face]
  refine ⟨fun f => ⟨fun runs => ?_, nofun⟩, fun f => ⟨nofun, nofun⟩,
    ⟨nofun, fun shows => ?_⟩, fun out f => ?_⟩
  · simp only [Function.update_apply] at runs
    split at runs
    · exact absurd runs stopped
    · next other =>
      have held := holds.symm.trans ((h.running f).mp runs)
      exact absurd (Claimant.face.inj (Option.some.inj held)).symm other
  · cases holds.symm.trans (h.evacHolds.2 shows)
  · simp only [Function.update_apply]
    split
    · refine settled (decide_eq_true ?_)
      cases state : s.evac.state with
      | normal => exact absurd state out
      | takeover => rfl
      | showing => cases holds.symm.trans (h.evacHolds.2 (.inl state))
      | releasing => cases holds.symm.trans (h.evacHolds.2 (.inr state))
    · exact h.halted out f

/-- The deferred commit that an end releases begins or ends at once (R41). -/
theorem releaseDeferred_keeps_views (s : State) : control s.releaseDeferred = control s ∧
    (ledger s.releaseDeferred = ledger s ∨ s.update.state ≠ .committing ∧ Starts (ledger s) (ledger s.releaseDeferred)) := by
  unfold State.releaseDeferred
  split
  · next x deferred txn =>
    split
    · exact ⟨templateCommit_control s x, .inr ⟨by rw [deferred]; decide, templateCommit_starts txn⟩⟩
    · exact ⟨rfl, .inl rfl⟩
  · exact ⟨rfl, .inl rfl⟩

theorem applyHeldReset_ledger (s : State) (f : Face) : ledger (s.applyHeldReset f) = ledger s :=
  ledger_of_outside (applyHeldReset_outside s f)

theorem segmentEnd_sound {s : State} {g : Segment} (fault : Option FaultReason) (h : (control s).Agrees)
    (segment : s.engine.segment = some g) : (s.segmentEnd g fault).EngineSound := by
  have released : (control (s.endTaken g fault).releaseDeferred).Agrees := by
    rw [(releaseDeferred_keeps_views _).1]
    exact endTaken_agrees fault h segment
  refine arbitrate_sound ?_
  unfold State.applyHeldReset
  split
  · refine applyReset_agrees released (fun runs => ?_)
    have held := (released.running g.face).mp runs
    rw [(releaseDeferred_keeps_views _).1, endTaken_control] at held
    cases held
  · exact released

/-- The end of a segment changes no more of the ledger than a deferred commit that it releases. -/
theorem segmentEnd_ledger {s : State} {g : Segment} (fault : Option FaultReason) (free : s.arbiter.holder ≠ some .purge) :
    ledger (s.segmentEnd g fault) = ledger s ∨
    s.update.state ≠ .committing ∧ Starts (ledger s) (ledger (s.segmentEnd g fault)) := by
  have taken := endTaken_ledger g fault free
  have state : (s.endTaken g fault).update.state = s.update.state := congrArg Ledger.state taken
  rw [State.segmentEnd, arbitrate_ledger, applyHeldReset_ledger, ← taken, ← state]
  exact (releaseDeferred_keeps_views _).2

theorem holder_of_segment {s : State} {g : Segment} (h : s.EngineSound) (segment : s.engine.segment = some g) :
    s.arbiter.holder = some (.face g.face) := (h.segment g.face).mpr (congrArg (Option.map Segment.face) segment)

/-! ### The grant to a face -/

/-- The state in which a granted face's segment begins (R107, R111). -/
def granted (s : State) (f : Face) (claims : List Face) (g : Segment) : State :=
  { s.grantFace f claims with engine := ⟨some g, [], false⟩ }

theorem granted_control (s : State) (claims : List Face) (g : Segment) : control (granted s g.face claims g) =
    { control s with
      holder := some (.face g.face), segment := some g.face, decision := none
      queue := Function.update (control s).queue g.face .running } := by
  have counts := mapFaces_control_of_queue s (fun h c => { c with waitCount := waitCountAfter g.face claims h c.waitCount })
    (fun _ => rfl)
  have queue := modFace_control (s.mapFaces (fun h c => { c with waitCount := waitCountAfter g.face claims h c.waitCount })) g.face
    (fun c => { c with queue := { c.queue with state := .running } })
  rw [counts] at queue
  exact congrArg (fun c : Control => { c with holder := some (.face g.face), segment := some g.face, decision := none }) queue

theorem granted_ledger {s : State} (f : Face) (claims : List Face) (g : Segment) (free : s.arbiter.holder = none) :
    ledger (granted s f claims g) = ledger s := by
  have holds : s.purgeHolds = false := by simp [State.purgeHolds, free]
  exact congrArg (fun b => { ledger s with purgeHolds := b }) holds.symm

theorem granted_sound {s : State} {claims : List Face} {g : Segment} (h : s.EngineSound) (free : s.arbiter.holder = none)
    (pending : (s.face g.face).queue.state = .pending) : (granted s g.face claims g).EngineSound := by
  obtain ⟨still, -⟩ := free_engine (agrees_of_sound h) free
  have normal : s.evac.state = .normal := by
    by_contra out
    exact (h.halted out g.face).1 pending
  rw [engineSound_iff, granted_control]
  refine ⟨⟨fun f => ?_, fun f => ?_, ⟨nofun, fun shows => ?_⟩, fun out => absurd normal out⟩,
    decided_of_held rfl rfl⟩
  · simp only [Function.update_apply]
    split
    · next own => simp [own]
    · next other =>
      exact ⟨fun runs => absurd runs (still f), fun held => absurd (Claimant.face.inj (Option.some.inj held)).symm other⟩
  · simp
  · have shows : s.evac.state = .showing ∨ s.evac.state = .releasing := shows
    simp [normal] at shows

/-- A grant to a face: its segment begins, or ends at once as a WAIT_FRAME does (R91, R111). -/
theorem faceGrant_cases (s : State) (f : Face) (claims : List Face) :
    s.faceGrant f claims = s ∨
    ∃ g : Segment, g.face = f ∧ (s.faceGrant f claims = (granted s f claims g).segmentEnd g none ∨
      ∃ cell, s.faceGrant f claims = (granted s f claims g).startCell f cell) := by
  unfold State.faceGrant
  cases s.face f |>.queue.range with
  | none => exact .inl rfl
  | some r =>
    refine .inr ⟨⟨f, r.next, cellKind (((s.grantFace f claims).face f).queue.cell r.next),
      ((s.grantFace f claims).face f).language, .finished, none, false, false⟩, rfl, ?_⟩
    simp only [State.beginSegment]
    split
    · exact .inl rfl
    · exact .inr ⟨_, rfl⟩

theorem faceGrant_sound {s : State} {f : Face} (claims : List Face) (h : s.EngineSound) (free : s.arbiter.holder = none)
    (pending : (s.face f).queue.state = .pending) : (s.faceGrant f claims).EngineSound := by
  obtain same | ⟨g, rfl, ends | ⟨cell, begins⟩⟩ := faceGrant_cases s f claims
  · rw [same]; exact h
  · rw [ends]
    exact segmentEnd_sound none (agrees_of_sound (granted_sound h free pending)) rfl
  · rw [begins]
    exact engineSound_of_control (granted_sound h free pending) (startCell_keeps _ _ _).1

theorem faceGrant_ledger {s : State} {f : Face} (claims : List Face) (free : s.arbiter.holder = none) :
    ledger (s.faceGrant f claims) = ledger s ∨
    s.update.state ≠ .committing ∧ Starts (ledger s) (ledger (s.faceGrant f claims)) := by
  obtain same | ⟨g, own, ends | ⟨cell, begins⟩⟩ := faceGrant_cases s f claims
  · rw [same]; exact .inl rfl
  · have before := granted_ledger f claims g free
    have state : (granted s f claims g).update.state = s.update.state := rfl
    rw [ends, ← before, ← state]
    exact segmentEnd_ledger none (by simp [granted, State.grantFace])
  · rw [begins, (startCell_keeps _ _ _).2]
    exact .inl (granted_ledger f claims g free)

/-! ### The purge -/

theorem acceptPurge_ledger (s : State) : ledger s.acceptPurge = { ledger s with purging := true, state := .committing } := by
  have ended := (endTxn_keeps s .purged).2
  unfold State.acceptPurge
  rw [arbitrate_ledger, modUpdate_ledger, ended]

theorem acceptPurge_sound {s : State} (h : s.EngineSound) : s.acceptPurge.EngineSound := by
  have before : control ((s.endTxn .purged).modUpdate (fun u => { u with purging := true, state := .committing })) =
      { control s with purging := true } :=
    congrArg (fun c : Control => { c with purging := true }) (endTxn_keeps s .purged).1
  obtain ⟨running, segment, evacHolds, halted⟩ := agrees_of_sound h
  refine arbitrate_sound ?_
  rw [before]
  exact ⟨running, segment, evacHolds, halted⟩

/-- A PURGE frame is refused, or accepted with no commit in flight (R43). -/
theorem purge_cases (s : State) : s.purge.1 = s ∨
    s.evac.state = .normal ∧ s.update.state ≠ .committing ∧ s.update.purging = false ∧ s.purge.1 = s.acceptPurge := by
  unfold State.purge
  split
  · exact .inl rfl
  · next normal =>
    split
    · exact .inl rfl
    · next free =>
      rw [not_or, Bool.not_eq_true] at free
      exact .inr ⟨not_not.mp normal, free.1, free.2, rfl⟩

/-- The ledger of a part whose stores are empty, with no commit in flight. -/
def emptyLedger : Ledger := ⟨[], ⟨Vector.replicate 4 [], none⟩, none, none, .idle, false, false⟩

theorem purgedState_ledger (s : State) : ledger (purgedState s) = emptyLedger := rfl

theorem purgedState_control (s : State) :
    control (purgedState s) = { control s with holder := none, decision := none, purging := false } := by
  have queue : (control (purgedState s)).queue = (control s).queue := by
    funext f
    show ((purgedState s).face f).queue.state = _
    rw [purgedState_face]
    rfl
  calc control (purgedState s)
      = { control s with holder := none, decision := none, purging := false, queue := (control (purgedState s)).queue } := rfl
    _ = _ := by rw [queue]

theorem purgeEnd_eq (s : State) : s.purgeEnd = ((purgedState s).answerAllHeld (fun _ => true)).arbitrate := rfl

theorem purgeEnd_ledger (s : State) : ledger s.purgeEnd = emptyLedger := by
  rw [purgeEnd_eq, arbitrate_ledger, answerAllHeld_ledger, purgedState_ledger]

/-- The end of a purge frees the engine, and the resets held behind it make their queues IDLE (R45, R81). -/
theorem purgeEnd_sound {s : State} (h : s.EngineSound) (holds : s.arbiter.holder = some .purge) : s.purgeEnd.EngineSound := by
  obtain ⟨running, segment, evacHolds, halted⟩ := agrees_of_sound h
  have other (f : Face) : s.arbiter.holder ≠ some (.face f) := by rw [holds]; simp
  have agrees : (control (purgedState s)).Agrees := by
    rw [purgedState_control]
    refine ⟨fun f => ⟨fun runs => absurd ((running f).mp runs) (other f), nofun⟩,
      fun f => ⟨nofun, fun held => absurd ((segment f).mpr held) (other f)⟩,
      ⟨nofun, fun shows => ?_⟩, halted⟩
    cases holds.symm.trans (evacHolds.2 shows)
  have answered : control ((purgedState s).answerAllHeld (fun _ => true)) = { control (purgedState s) with
      queue := fun f => (((purgedState s).answerAllHeld (fun _ => true)).face f).queue.state } := by
    calc control ((purgedState s).answerAllHeld (fun _ => true)) = { control (purgedState s) with
          queue := (control ((purgedState s).answerAllHeld (fun _ => true))).queue } := by
          rw [answerAllHeld_outside (purgedState s)]; rfl
      _ = _ := rfl
  rw [purgeEnd_eq]
  refine arbitrate_sound ?_
  rw [answered]
  refine agrees.requeue (fun f => ?_) (fun out f => ?_)
  · obtain same | ⟨-, idle⟩ := answerAllHeld_queue (purgedState s) (fun _ => true) f
    · rw [same]; rfl
    · rw [idle]
      refine ⟨nofun, fun runs => ?_⟩
      cases (agrees.running f).mp runs
  · obtain same | ⟨-, idle⟩ := answerAllHeld_queue (purgedState s) (fun _ => true) f
    · rw [same]; exact agrees.halted out f
    · rw [idle]; exact ⟨by decide, by decide⟩

/-! ### The full reset -/

theorem fullReset_ledger (pending : List Instr) (lineLow : Bool) : ledger (State.fullReset pending lineLow) = emptyLedger := rfl

theorem fullReset_sound (pending : List Instr) (lineLow : Bool) : (State.fullReset pending lineLow).EngineSound := by
  have view : control (State.fullReset pending lineLow) = ⟨fun _ => .idle, none, none, none, .normal, false⟩ := by
    have queue : (control (State.fullReset pending lineLow)).queue = fun _ => .idle := by
      funext f
      simp [control, State.fullReset, State.face, FaceContext.reset, Queue.reset]
    calc control (State.fullReset pending lineLow)
        = ⟨(control (State.fullReset pending lineLow)).queue, none, none, none, .normal, false⟩ := rfl
      _ = _ := by rw [queue]
  rw [engineSound_iff, view]
  refine ⟨⟨fun f => by simp, fun f => by simp, by simp, fun out => absurd rfl out⟩, nofun, fun _ _ k => ?_⟩
  cases k <;> simp [Control.Claims]

end Sys2Proof.Machine.NameOrder
end

section
/-! PROOFS. What every step does: the engine stays sound, and the ledger changes in one of a few ways. -/

namespace Sys2Proof.Machine.NameOrder

open Sys2Proof Sys2Proof.Machine Sys2Proof.Machine.UpdateTransactions

/-! ### The commands that leave both views -/

/-- The commands that move no queue, no holder, no EC state and nothing of the ledger, whatever the state. -/
def quiet : Instr → Bool
  | .fullReset | .openFrame _ | .waypointsFrame _ | .closeFrame _ | .abandonFrame _ | .purgeFrame _ | .alarmFrame _
  | .allClearFrame _ | .start _ _ | .stop _ _ | .resetFace _ _ | .faceGrant | .segmentCompletion | .segmentFault
  | .repositionDone | .glyphCopyDone | .templateCopyDone | .purgeGrant | .purgeEnd | .frameStart _ | .waitTimeExpiry _
  | .lineDebounceExpiry | .cutoffExpiry | .ecGrant | .viewDrawingEnd | .bandDrawingEnd | .blankDrawingEnd => false
  | _ => true

theorem ite_keeps {s t : State} {p : Prop} [Decidable p] (keeps : control t = control s ∧ ledger t = ledger s) :
    control (if p then t else s) = control s ∧ ledger (if p then t else s) = ledger s := by
  split
  · exact keeps
  · exact ⟨rfl, rfl⟩

/-- A trunk command whose action leaves both views leaves them. -/
theorem trunkFrame_quiet {s : State} (feed : Feed) (mine : Byte → Bool) {act : State → Bytes → State × TrunkReply}
    (action : ∀ t data, control (act t data).1 = control t ∧ ledger (act t data).1 = ledger t) :
    control (s.trunkFrame feed mine act) = control s ∧ ledger (s.trunkFrame feed mine act) = ledger s :=
  trunkFrame_keeps (P := fun c l => c = control s ∧ l = ledger s) feed mine ⟨rfl, rfl⟩ (fun _ _ => action _ _)

theorem execFetch_quiet {s t : State} {f : Face} {clocked : Nat} (next : execFetch f clocked s = .next t) :
    control t = control s ∧ ledger t = ledger s := by
  cases next
  split <;> simp

theorem execConfigReadComplete_quiet {s t : State} {bytes : Vector Byte 32} (next : execConfigReadComplete bytes s = .next t) :
    control t = control s ∧ ledger t = ledger s := by
  cases next
  split <;> exact readEnd_keeps s _ _

theorem execTrunkFrameDropped_quiet {s t : State} {feed : Feed} (next : execTrunkFrameDropped feed s = .next t) :
    control t = control s ∧ ledger t = ledger s := by
  cases next
  split <;> exact ⟨rfl, rfl⟩

theorem execTrunkFrameTimeout_quiet {s t : State} {feed : Feed} (next : execTrunkFrameTimeout feed s = .next t) :
    control t = control s ∧ ledger t = ledger s := by
  cases next
  split <;> exact ⟨rfl, rfl⟩

theorem execTemplateCellStep_quiet {s t : State} (next : execTemplateCellStep s = .next t) :
    control t = control s ∧ ledger t = ledger s := by
  cases next
  split
  · split
    · split
      · exact templateStep_keeps s _ _ _
      · exact ⟨rfl, rfl⟩
    · exact ⟨rfl, rfl⟩
  · exact ⟨rfl, rfl⟩

theorem execPixelGroupWrite_quiet {s t : State} {count : Nat} (next : execPixelGroupWrite count s = .next t) :
    control t = control s ∧ ledger t = ledger s := by
  cases next
  split
  · exact ⟨rfl, rfl⟩
  · exact pixelGroup_keeps s count

theorem execRouteEraseDone_quiet {s t : State} (next : execRouteEraseDone s = .next t) :
    control t = control s ∧ ledger t = ledger s := by
  cases next
  split
  · exact ite_keeps (eraseDone_keeps s _)
  · exact ⟨rfl, rfl⟩

/-- The requests that only answer, or change their face outside its queue's state. -/
theorem ownRequest_quiet {s t : State} {c : Instr}
    (own : c matches .status .. | .kick .. | .readEvents .. | .setMask .. | .writeCells .. | .append .. | .readFault ..
      | .writeImage .. | .setMap .. | .setLanguage .. | .setPalette .. | .unknownRequestCode ..) (next : exec c s = .next t) :
    control t = control s ∧ ledger t = ledger s := by
  cases c with
  | status f x => cases next; exact request_quiet f _ _ x (fun u => by simp)
  | kick f x => cases next; exact request_quiet f _ _ x (fun u => by simp [kicked_keeps])
  | readEvents f x => cases next; exact request_quiet f _ _ x (fun u => ⟨modFace_control_of_queue u f _ rfl, rfl⟩)
  | setMask f x => cases next; exact request_quiet f _ _ x (fun u => by simp)
  | writeCells f x =>
    cases next
    refine request_quiet f _ _ x (fun u => ?_)
    split
    · simp
    · split <;> simp
  | append f x =>
    cases next
    refine request_quiet f _ _ x (fun u => ?_)
    split
    · simp
    · split
      · simp
      · split
        · simp
        · split <;> simp
  | readFault f x => cases next; exact request_quiet f _ _ x (fun u => by simp)
  | writeImage f x => cases next; exact request_quiet f _ _ x (fun u => by split_ifs <;> simp)
  | setMap f x => cases next; exact request_quiet f _ _ x (fun u => by split_ifs <;> simp)
  | setLanguage f x => cases next; exact request_quiet f _ _ x (fun u => by split <;> simp)
  | setPalette f x => cases next; exact request_quiet f _ _ x (fun u => by split_ifs <;> simp)
  | unknownRequestCode f code x => cases next; exact request_quiet f _ _ x (fun u => ⟨rfl, rfl⟩)
  | _ => cases own

/-- The directory queries and the reads of the slots. -/
theorem readRequest_quiet {s t : State} {c : Instr}
    (read : c matches .readEntry .. | .listWindow .. | .findPrefix .. | .readSlots .. | .hitTest ..) (next : exec c s = .next t) :
    control t = control s ∧ ledger t = ledger s := by
  cases c with
  | readEntry f x => cases next; exact request_quiet f _ _ x (fun u => query_keeps u f _ (readEntryQuery_ne _))
  | listWindow f x => cases next; exact request_quiet f _ _ x (fun u => query_keeps u f _ (listWindowQuery_ne _))
  | findPrefix f x => cases next; exact request_quiet f _ _ x (fun u => query_keeps u f _ (findPrefixQuery_ne _))
  | readSlots f x => cases next; exact request_quiet f _ _ x (fun u => takeSlotRead_keeps u f (by simp))
  | hitTest f x =>
    cases next
    refine request_quiet f _ _ x (fun u => ?_)
    split
    · simp
    · exact takeSlotRead_keeps u f (by simp)
  | _ => cases read

theorem exec_quiet {s t : State} {c : Instr} (still : quiet c = true) (next : exec c s = .next t) :
    control t = control s ∧ ledger t = ledger s := by
  cases c with
  | resetRelease => cases next; exact ite_keeps ⟨rfl, rfl⟩
  | configReadComplete bytes => exact execConfigReadComplete_quiet next
  | configNoAcknowledge => cases next; exact readEnd_keeps s _ _
  | configLimitExpiry => cases next; exact readEnd_keeps s _ _
  | planeClearDone => cases next; exact ite_keeps (tryLoadEnd_keeps _)
  | chunkFrame feed => cases next; exact trunkFrame_quiet feed _ (fun u data => chunk_keeps u data)
  | pollFrame feed =>
    cases next
    refine trunkFrame_quiet feed _ (fun u data => ?_)
    obtain h | h := withLength_state 1 State.poll u data
    · rw [h]; exact ⟨rfl, rfl⟩
    · rw [h, poll_state]; exact ⟨rfl, rfl⟩
  | unknownFrameKind feed => cases next; exact trunkFrame_quiet feed _ (fun _ _ => ⟨rfl, rfl⟩)
  | trunkFrameDropped feed => exact execTrunkFrameDropped_quiet next
  | trunkFrameTimeout feed => exact execTrunkFrameTimeout_quiet next
  | turnaroundEnd => cases next; exact ite_keeps ⟨rfl, rfl⟩
  | replyEnd => cases next; exact ite_keeps ⟨rfl, rfl⟩
  | readEntry | listWindow | findPrefix | readSlots | hitTest => exact readRequest_quiet rfl next
  | status | kick | readEvents | setMask | writeCells | append | readFault | writeImage | setMap | setLanguage | setPalette
  | unknownRequestCode => exact ownRequest_quiet rfl next
  | fetch f clocked => exact execFetch_quiet next
  | templateCellStep => exact execTemplateCellStep_quiet next
  | pixelGroupWrite count => exact execPixelGroupWrite_quiet next
  | routeEraseDone => exact execRouteEraseDone_quiet next
  | pulseTimeExpiry f => cases next; exact ite_keeps (modSupervisor_keeps s f _)
  | recoveryWindowExpiry f => cases next; exact ite_keeps (windowExpired_keeps s f)
  | evacLineChange => cases next; exact ⟨rfl, rfl⟩
  | cycleTimerExpiry => cases next; exact ite_keeps (cycleExpiry_keeps s)
  | _ => cases still

/-! ### The engine -/

theorem ite_sound {s t : State} {p : Prop} [Decidable p] (h : s.EngineSound) (sound : p → t.EngineSound) :
    (if p then t else s).EngineSound := by
  split
  · next holds => exact sound holds
  · exact h

/-- A trunk command whose action keeps the engine sound keeps it sound. -/
theorem trunkFrame_sound {s : State} (feed : Feed) (mine : Byte → Bool) {act : State → Bytes → State × TrunkReply}
    (h : s.EngineSound) (action : ∀ (t : State) data, t.EngineSound → (act t data).1.EngineSound) :
    (s.trunkFrame feed mine act).EngineSound := by
  refine engineSound_iff.mpr (trunkFrame_keeps (P := fun c _ => c.Agrees ∧ c.Decided) feed mine (engineSound_iff.mp h) ?_)
  exact fun tr data => engineSound_iff.mp (action _ data (engineSound_of_control h rfl))

/-- A frame of a transaction leaves the engine's view. -/
theorem attended_sound {s : State} (feed : Feed) (mine : Byte → Bool) {act : State → Bytes → State × TrunkReply}
    (h : s.EngineSound) (attended : ∀ t data, Attended t (control (act t data).1) (ledger (act t data).1)) :
    (s.trunkFrame feed mine act).EngineSound :=
  trunkFrame_sound feed mine h (fun t data sound => engineSound_of_control sound (attended t data).1)

theorem alarm_sound {s : State} (data : Bytes) (h : s.EngineSound) : (s.alarm data).1.EngineSound := by
  unfold State.alarm
  split
  · exact h
  · split
    · exact h
    · exact lookSources_sound (engineSound_of_control h rfl)

theorem allClear_sound {s : State} (h : s.EngineSound) : s.allClear.1.EngineSound := by
  unfold State.allClear
  split
  · exact h
  · exact lookSources_sound (engineSound_of_control h rfl)

/-- An action on a frame of the right length, and none on any other. -/
theorem withLength_sound {s : State} {n : Nat} {act : State → Bytes → State × TrunkReply} {data : Bytes} (h : s.EngineSound)
    (action : (act s data).1.EngineSound) : (withLength n act s data).1.EngineSound := by
  obtain same | acts := withLength_state n act s data
  · rw [same]; exact h
  · rw [acts]; exact action

theorem withLength_attended {n : Nat} {act : State → Bytes → State × TrunkReply} (s : State) (data : Bytes)
    (action : Attended s (control (act s data).1) (ledger (act s data).1)) :
    Attended s (control (withLength n act s data).1) (ledger (withLength n act s data).1) := by
  obtain same | acts := withLength_state n act s data
  · rw [same]; exact .unmoved s
  · rw [acts]; exact action

theorem execFaceGrant_sound {s t : State} (h : s.EngineSound) (next : execFaceGrant s = .next t) : t.EngineSound := by
  cases next
  split
  · next f claims free decision =>
    exact faceGrant_sound claims h free (claims_of_decision (k := .face f) h (by rw [decision]; rfl))
  · exact h

theorem execSegmentCompletion_sound {s t : State} (h : s.EngineSound) (next : execSegmentCompletion s = .next t) : t.EngineSound := by
  cases next
  split
  · next g segment => exact ite_sound h (fun _ => segmentEnd_sound none (agrees_of_sound h) segment)
  · exact h

theorem execSegmentFault_sound {s t : State} (h : s.EngineSound) (next : execSegmentFault s = .next t) : t.EngineSound := by
  cases next
  split
  · next g segment =>
    split
    · exact segmentEnd_sound _ (agrees_of_sound h) segment
    · exact h
  · exact h

theorem execCutoffExpiry_sound {s t : State} (h : s.EngineSound) (next : execCutoffExpiry s = .next t) : t.EngineSound := by
  cases next
  have agrees := agrees_of_sound h
  split
  · dsimp only
    split
    · next g segment => exact segmentEnd_sound _ agrees segment
    · exact engineSound_of_control h rfl
  · exact h

theorem execLineDebounceExpiry_sound {s t : State} (h : s.EngineSound) (next : execLineDebounceExpiry s = .next t) :
    t.EngineSound := by
  cases next
  have looked : (s.modEvac (fun e => { e with debounce := .stopped, asserted := e.lineLow })).EngineSound :=
    engineSound_of_control h rfl
  refine ite_sound h (fun _ => ?_)
  dsimp only
  split
  · exact looked
  · exact lookSources_sound looked

theorem purge_sound {s : State} (h : s.EngineSound) : s.purge.1.EngineSound := by
  obtain same | ⟨-, -, -, accepts⟩ := purge_cases s
  · rw [same]; exact h
  · rw [accepts]; exact acceptPurge_sound h

/-- Every command keeps the engine sound. -/
theorem exec_engineSound {s t : State} {c : Instr} (h : s.EngineSound) (next : exec c s = .next t) : t.EngineSound := by
  cases c with
  | fullReset => cases next; exact fullReset_sound _ _
  | openFrame feed => cases next; exact attended_sound feed _ h openTxn_attended
  | waypointsFrame feed => cases next; exact attended_sound feed _ h stageFrame_attended
  | closeFrame feed => cases next; exact attended_sound feed _ h close_attended
  | abandonFrame feed =>
    cases next; exact attended_sound feed _ h (fun u data => withLength_attended u data (abandon_attended u))
  | purgeFrame feed => cases next; exact trunkFrame_sound feed _ h (fun u data h => withLength_sound h (purge_sound h))
  | alarmFrame feed => cases next; exact trunkFrame_sound feed _ h (fun u data h => withLength_sound h (alarm_sound data h))
  | allClearFrame feed => cases next; exact trunkFrame_sound feed _ h (fun u data h => withLength_sound h (allClear_sound h))
  | start f x => exact execStart_sound h next
  | stop f x => exact execStop_sound h next
  | resetFace f x => exact execResetFace_sound h next
  | faceGrant => exact execFaceGrant_sound h next
  | segmentCompletion => exact execSegmentCompletion_sound h next
  | segmentFault => exact execSegmentFault_sound h next
  | repositionDone =>
    cases next
    split
    · exact engineSound_of_control h (repositionDone_keeps s _).1
    · exact h
  | glyphCopyDone =>
    cases next
    split
    · exact engineSound_of_control h (glyphCopied_keeps s _).1
    · exact h
  | templateCopyDone =>
    cases next
    split
    · exact engineSound_of_control h (templateCopied_keeps s _).1
    · exact h
  | purgeGrant => cases next; exact ite_sound h (fun granted => purgeGrant_sound h granted.1)
  | purgeEnd => cases next; exact ite_sound h (fun holds => purgeEnd_sound h (by simpa [State.purgeHolds] using holds))
  | frameStart f => cases next; exact ite_sound h (fun _ => frameStart_sound h)
  | waitTimeExpiry f => cases next; exact ite_sound h (fun _ => withdraw_sound h)
  | lineDebounceExpiry => exact execLineDebounceExpiry_sound h next
  | cutoffExpiry => exact execCutoffExpiry_sound h next
  | ecGrant =>
    cases next; exact ite_sound h (fun granted => ecGrant_sound h granted.1 (claims_of_decision h granted.2).1)
  | viewDrawingEnd => cases next; exact ite_sound h (fun done => viewEnd_sound h (drawingDone_holds done))
  | bandDrawingEnd =>
    cases next
    refine ite_sound h (fun done => ?_)
    have holds := drawingDone_holds done
    exact afterDrawing_sound (engineSound_of_control h rfl) holds
  | blankDrawingEnd => cases next; exact ite_sound h (fun done => blankEnd_sound h (drawingDone_holds done))
  | _ => exact engineSound_of_control h (exec_quiet rfl next).1

/-- What reads the two views alone, and what every command keeps, every step keeps: the waiting commands are in neither view, and a
pixel of the scan-out leaves both. -/
theorem step_keeps {P : State → Prop} {s t : State} (h : P s)
    (views : ∀ {u v : State}, P u → control v = control u → ledger v = ledger u → P v)
    (command : ∀ {u v : State} {c : Instr}, P u → exec c u = .next v → P v) (next : step s = .next t) : P t := by
  unfold step at next
  split at next
  · cases next
    exact views h (scanTick_keeps s).1 (scanTick_keeps s).2
  · next rest _ => exact command (u := { s with pending := rest }) (views h rfl rfl) next

/-- Every step keeps the engine sound (R86, R105 to R107, R111, R180). -/
theorem step_engineSound {s t : State} (h : s.EngineSound) (next : step s = .next t) : t.EngineSound :=
  step_keeps h (fun sound sameC _ => engineSound_of_control sound sameC) exec_engineSound next

/-! ### The ledger -/

/-- Everything a step can do to the ledger: nothing, what UC starts with no commit in flight, the end of a copy or of a reposition, the
course of a purge, or every store emptied. -/
inductive LedgerStep (s t : State) : Prop
  | kept (same : ledger t = ledger s)
  | started (free : s.update.state ≠ .committing) (starts : Starts (ledger s) (ledger t))
  | glyphCopied (st : UcState) (inFlight : s.glyphs.copying.isSome = true)
      (done : ledger t = { ledger s with glyphCopy := none, state := st })
  | templateCopied (st : UcState) (inFlight : s.templates.copying.isSome = true)
      (done : ledger t = { ledger s with templateCopy := none, state := st })
  | repositioned (r : Reposition) (st : UcState) (inFlight : s.orders.reposition = some r)
      (done : ledger t = { ledger s with orders := ⟨Vector.ofFn (fun l : Fin 4 => s.repositioned r l), none⟩, state := st })
  | purgeAccepted (free : s.update.state ≠ .committing)
      (accepted : ledger t = { ledger s with purging := true, state := .committing })
  | purgeGranted (accepted : s.update.purging = true) (granted : ledger t = { ledger s with purgeHolds := true })
  | emptied (empty : ledger t = emptyLedger)

theorem LedgerStep.of_or {s t : State}
    (h : ledger t = ledger s ∨ s.update.state ≠ .committing ∧ Starts (ledger s) (ledger t)) : LedgerStep s t := by
  obtain same | ⟨free, starts⟩ := h
  · exact .kept same
  · exact .started free starts

theorem ite_ledgerStep {s t : State} {p : Prop} [Decidable p] (step : p → LedgerStep s t) : LedgerStep s (if p then t else s) := by
  split
  · next holds => exact step holds
  · exact .kept rfl

theorem request_ledger {s : State} {own : State → State} (f : Face) (code : Byte) (known : Bool) (x : Transfer)
    (owner : ∀ t, ledger (own t) = ledger t) : ledger (s.request f code known x own) = ledger s :=
  request_keeps (P := fun _ l => l = ledger s) f code known x rfl (fun t _ same => (owner t).trans same)

/-- A frame of a transaction does to the ledger what its action does. -/
theorem attended_ledgerStep {s : State} (feed : Feed) (mine : Byte → Bool) {act : State → Bytes → State × TrunkReply}
    (attended : ∀ t data, Attended t (control (act t data).1) (ledger (act t data).1)) : LedgerStep s (s.trunkFrame feed mine act) :=
  .of_or (trunkFrame_keeps (P := Attended s) feed mine (.unmoved s) (fun tr data => attended { s with trunk := tr } data)).2

theorem takeover_ledger (s : State) : ledger s.takeover = ledger s := by
  unfold State.takeover
  rw [arbitrate_ledger]
  rfl

theorem lookSources_ledger (s : State) : ledger s.lookSources = ledger s := by
  unfold State.lookSources State.redrawCause
  split
  · split
    · exact takeover_ledger s
    · rfl
  · split <;> rfl
  · split
    · split
      · split
        · exact (startView_keeps s).2
        · rfl
      · rfl
    · split <;> rfl
  · rfl

theorem alarm_ledger (s : State) (data : Bytes) : ledger (s.alarm data).1 = ledger s := by
  unfold State.alarm
  split
  · rfl
  · split
    · rfl
    · exact lookSources_ledger _

theorem allClear_ledger (s : State) : ledger s.allClear.1 = ledger s := by
  unfold State.allClear
  split
  · rfl
  · exact lookSources_ledger _

theorem withLength_ledger {n : Nat} {act : State → Bytes → State × TrunkReply} {s : State} {data : Bytes}
    (action : ledger (act s data).1 = ledger s) : ledger (withLength n act s data).1 = ledger s := by
  obtain same | acts := withLength_state n act s data
  · rw [same]
  · rw [acts]; exact action

/-- A trunk command whose action leaves the ledger leaves it. -/
theorem trunkFrame_ledger {s : State} (feed : Feed) (mine : Byte → Bool) {act : State → Bytes → State × TrunkReply}
    (action : ∀ t data, ledger (act t data).1 = ledger t) : ledger (s.trunkFrame feed mine act) = ledger s :=
  trunkFrame_keeps (P := fun _ l => l = ledger s) feed mine rfl (fun _ _ => action _ _)

theorem execPurgeFrame_ledgerStep {s t : State} {feed : Feed} (next : execPurgeFrame feed s = .next t) : LedgerStep s t := by
  cases next
  have purges : ledger (s.trunkFrame feed (· == 0x09) (withLength 0 (fun t _ => t.purge))) = ledger s ∨
      s.update.state ≠ .committing ∧ ledger (s.trunkFrame feed (· == 0x09) (withLength 0 (fun t _ => t.purge))) =
        { ledger s with purging := true, state := .committing } := by
    refine trunkFrame_keeps (P := fun _ l => l = ledger s ∨
      s.update.state ≠ .committing ∧ l = { ledger s with purging := true, state := .committing }) feed _ (.inl rfl) (fun tr data => ?_)
    obtain same | acts := withLength_state 0 (fun t _ => t.purge) { s with trunk := tr } data
    · rw [same]; exact .inl rfl
    · rw [acts]
      obtain same | ⟨-, free, -, accepts⟩ := purge_cases { s with trunk := tr }
      · rw [same]; exact .inl rfl
      · rw [accepts, acceptPurge_ledger]
        exact .inr ⟨free, rfl⟩
  obtain same | ⟨free, accepted⟩ := purges
  · exact .kept same
  · exact .purgeAccepted free accepted

theorem stopQueue_ledger (s : State) (f : Face) : ledger (s.stopQueue f) = ledger s := by
  unfold State.stopQueue
  split <;> simp

theorem execStart_ledger {s t : State} {f : Face} {x : Transfer} (next : execStart f x s = .next t) : ledger t = ledger s := by
  cases next
  refine request_ledger f _ _ x (fun u => ?_)
  split
  · split_ifs <;> simp
  · simp

theorem execStop_ledger {s t : State} {f : Face} {x : Transfer} (next : execStop f x s = .next t) : ledger t = ledger s := by
  cases next
  exact request_ledger f _ _ x (fun u => by simp [stopQueue_ledger])

theorem execResetFace_ledger {s t : State} {f : Face} {x : Transfer} (next : execResetFace f x s = .next t) : ledger t = ledger s := by
  cases next
  refine request_ledger f _ _ x (fun u => ?_)
  split <;> simp [applyReset_ledger]

theorem execFaceGrant_ledgerStep {s t : State} (next : execFaceGrant s = .next t) : LedgerStep s t := by
  cases next
  split
  · next f claims free _ => exact .of_or (faceGrant_ledger claims free)
  · exact .kept rfl

/-- An end of the segment in hand: a face holds the engine. -/
theorem segmentEnd_ledgerStep {s : State} {g : Segment} (fault : Option FaultReason) (h : s.EngineSound)
    (segment : s.engine.segment = some g) : LedgerStep s (s.segmentEnd g fault) :=
  .of_or (segmentEnd_ledger fault (by rw [holder_of_segment h segment]; simp))

theorem execSegmentCompletion_ledgerStep {s t : State} (h : s.EngineSound) (next : execSegmentCompletion s = .next t) :
    LedgerStep s t := by
  cases next
  split
  · next g segment => exact ite_ledgerStep (fun _ => segmentEnd_ledgerStep none h segment)
  · exact .kept rfl

theorem execSegmentFault_ledgerStep {s t : State} (h : s.EngineSound) (next : execSegmentFault s = .next t) : LedgerStep s t := by
  cases next
  split
  · next g segment =>
    split
    · exact segmentEnd_ledgerStep _ h segment
    · exact .kept rfl
  · exact .kept rfl

theorem execCutoffExpiry_ledgerStep {s t : State} (h : s.EngineSound) (next : execCutoffExpiry s = .next t) : LedgerStep s t := by
  cases next
  split
  · dsimp only
    split
    · next g segment =>
      exact .of_or (segmentEnd_ledger (s := s.modEvac (fun e => { e with cutoff := .stopped })) (some .cut)
        (by rw [modEvac_arbiter, holder_of_segment h segment]; simp))
    · exact .kept rfl
  · exact .kept rfl

theorem frameStart_ledger (s : State) (f : Face) : ledger (s.frameStart f) = ledger s := by
  unfold State.frameStart
  rw [arbitrate_ledger, ledger_of_outside (waitFrameDone_outside _ f)]
  rfl

theorem withdraw_ledger (s : State) (f : Face) : ledger (s.withdraw f) = ledger s := by
  simp [State.withdraw]

theorem execLineDebounceExpiry_ledger {s t : State} (next : execLineDebounceExpiry s = .next t) : ledger t = ledger s := by
  cases next
  split
  · dsimp only
    split
    · rfl
    · exact lookSources_ledger _
  · rfl

theorem ecGrant_ledger {s : State} (free : s.arbiter.holder = none) : ledger s.ecGrant = ledger s := by
  have holds : s.purgeHolds = false := by simp [State.purgeHolds, free]
  unfold State.ecGrant
  simp only [startView_keeps]
  exact congrArg (fun b => { ledger s with purgeHolds := b }) holds.symm

theorem afterDrawing_ledger (s : State) : ledger s.afterDrawing = ledger s := by
  unfold State.afterDrawing
  split
  · rfl
  · split
    · exact (startView_keeps s).2
    · rfl

theorem viewEnd_ledger (s : State) : ledger s.viewEnd = ledger s := by
  unfold State.viewEnd
  dsimp only
  split
  · rw [afterDrawing_ledger, (raiseAll_keeps _ _).2]
    rfl
  · rw [afterDrawing_ledger]
    rfl

theorem blankEnd_ledger {s : State} (holds : s.arbiter.holder = some .ec) : ledger s.blankEnd = ledger s := by
  have unpurged : s.purgeHolds = false := by simp [State.purgeHolds, holds]
  unfold State.blankEnd
  dsimp only
  split
  · rw [takeover_ledger]
    exact congrArg (fun b => { ledger s with purgeHolds := b }) unpurged.symm
  · rw [arbitrate_ledger]
    exact congrArg (fun b => { ledger s with purgeHolds := b }) unpurged.symm

/-- Every command does to the ledger one of the things of `LedgerStep`. -/
theorem exec_ledgerStep {s t : State} {c : Instr} (h : s.EngineSound) (next : exec c s = .next t) : LedgerStep s t := by
  cases c with
  | fullReset => cases next; exact .emptied (fullReset_ledger _ _)
  | openFrame feed => cases next; exact attended_ledgerStep feed _ openTxn_attended
  | waypointsFrame feed => cases next; exact attended_ledgerStep feed _ stageFrame_attended
  | closeFrame feed => cases next; exact attended_ledgerStep feed _ close_attended
  | abandonFrame feed => cases next; exact attended_ledgerStep feed _ (fun u data => withLength_attended u data (abandon_attended u))
  | purgeFrame feed => exact execPurgeFrame_ledgerStep next
  | alarmFrame feed => cases next; exact .kept (trunkFrame_ledger feed _ (fun u data => withLength_ledger (alarm_ledger u data)))
  | allClearFrame feed => cases next; exact .kept (trunkFrame_ledger feed _ (fun u data => withLength_ledger (allClear_ledger u)))
  | start f x => exact .kept (execStart_ledger next)
  | stop f x => exact .kept (execStop_ledger next)
  | resetFace f x => exact .kept (execResetFace_ledger next)
  | faceGrant => exact execFaceGrant_ledgerStep next
  | segmentCompletion => exact execSegmentCompletion_ledgerStep h next
  | segmentFault => exact execSegmentFault_ledgerStep h next
  | repositionDone =>
    cases next
    split
    · next r inFlight =>
      obtain ⟨-, st, done⟩ := repositionDone_keeps s r
      exact .repositioned r st inFlight done
    · exact .kept rfl
  | glyphCopyDone =>
    cases next
    split
    · next p inFlight =>
      obtain ⟨-, st, done⟩ := glyphCopied_keeps s p
      exact .glyphCopied st (by rw [inFlight]; rfl) done
    · exact .kept rfl
  | templateCopyDone =>
    cases next
    split
    · next k inFlight =>
      obtain ⟨-, st, done⟩ := templateCopied_keeps s k
      exact .templateCopied st (by rw [inFlight]; rfl) done
    · exact .kept rfl
  | purgeGrant =>
    cases next
    exact ite_ledgerStep (fun granted => .purgeGranted (claims_of_decision h granted.2).1 rfl)
  | purgeEnd => cases next; exact ite_ledgerStep (fun _ => .emptied (purgeEnd_ledger s))
  | frameStart f => cases next; exact ite_ledgerStep (fun _ => .kept (frameStart_ledger s f))
  | waitTimeExpiry f => cases next; exact ite_ledgerStep (fun _ => .kept (withdraw_ledger s f))
  | lineDebounceExpiry => exact .kept (execLineDebounceExpiry_ledger next)
  | cutoffExpiry => exact execCutoffExpiry_ledgerStep h next
  | ecGrant => cases next; exact ite_ledgerStep (fun granted => .kept (ecGrant_ledger granted.1))
  | viewDrawingEnd => cases next; exact ite_ledgerStep (fun _ => .kept (viewEnd_ledger s))
  | bandDrawingEnd => cases next; exact ite_ledgerStep (fun _ => .kept (afterDrawing_ledger _))
  | blankDrawingEnd => cases next; exact ite_ledgerStep (fun done => .kept (blankEnd_ledger (drawingDone_holds done)))
  | _ => exact .kept (exec_quiet rfl next).2

end Sys2Proof.Machine.NameOrder
end

section
/-! PROOFS. The commit in flight and the lists: what every step does to the ledger keeps both (R48, R50 to R52). -/

namespace Sys2Proof.Machine.NameOrder

open Sys2Proof Sys2Proof.Machine Sys2Proof.Machine.UpdateTransactions

/-! ### The commit in flight -/

/-- The soundness of the commit in flight, the engine's apart. -/
structure Ledger.WorkSound (l : Ledger) : Prop where
  purge : (l.purging = true → l.state = .committing) ∧ (l.purgeHolds = true → l.purging = true)
  work : l.orders.reposition.isSome = true ∨ l.glyphCopy.isSome = true ∨ l.templateCopy.isSome = true →
    l.state = .committing ∧ l.purging = false
  single : ¬(l.orders.reposition.isSome = true ∧ l.glyphCopy.isSome = true) ∧
    ¬(l.orders.reposition.isSome = true ∧ l.templateCopy.isSome = true) ∧
    ¬(l.glyphCopy.isSome = true ∧ l.templateCopy.isSome = true)

theorem commitSound_iff {s : State} : s.CommitSound ↔ s.EngineSound ∧ (ledger s).WorkSound :=
  ⟨fun h => ⟨h.engine, h.purge, h.work, h.single⟩, fun ⟨engine, purge, work, single⟩ => ⟨engine, purge, work, single⟩⟩

/-- No work is in flight and no purge is in progress. -/
structure Ledger.Resting (l : Ledger) : Prop where
  purging : l.purging = false
  purgeHolds : l.purgeHolds = false
  reposition : l.orders.reposition = none
  glyphCopy : l.glyphCopy = none
  templateCopy : l.templateCopy = none

theorem Ledger.Resting.workSound {l : Ledger} (rest : l.Resting) : l.WorkSound := by
  obtain ⟨purging, purgeHolds, reposition, glyphCopy, templateCopy⟩ := rest
  constructor <;> simp [purging, purgeHolds, reposition, glyphCopy, templateCopy]

theorem Ledger.WorkSound.not_held {l : Ledger} (h : l.WorkSound) (unpurged : l.purging = false) : l.purgeHolds = false :=
  Bool.eq_false_iff.mpr (fun holds => by cases unpurged.symm.trans (h.purge.2 holds))

/-- Out of COMMITTING everything rests. -/
theorem Ledger.WorkSound.resting {l : Ledger} (h : l.WorkSound) (free : l.state ≠ .committing) : l.Resting := by
  have unpurged : l.purging = false := Bool.eq_false_iff.mpr (fun on => free (h.purge.1 on))
  exact ⟨unpurged, h.not_held unpurged,
    Option.not_isSome_iff_eq_none.mp (fun moves => free (h.work (.inl moves)).1),
    Option.not_isSome_iff_eq_none.mp (fun copies => free (h.work (.inr (.inl copies))).1),
    Option.not_isSome_iff_eq_none.mp (fun copies => free (h.work (.inr (.inr copies))).1)⟩

/-- What UC starts out of COMMITTING is at most one piece of work. -/
theorem Starts.workSound {l m : Ledger} (h : Starts l m) (rest : l.Resting) : m.WorkSound := by
  obtain ⟨purging, purgeHolds, reposition, glyphCopy, templateCopy⟩ := rest
  cases h with
  | moves | glyph | template | entry => constructor <;> simp [purging, purgeHolds, reposition, glyphCopy, templateCopy]

/-- A step keeps the commit in flight sound: where the one piece of work ends, everything rests. -/
theorem LedgerStep.workSound {s t : State} (step : LedgerStep s t) (h : (ledger s).WorkSound) : (ledger t).WorkSound := by
  cases step with
  | kept same => rw [same]; exact h
  | started free starts => exact starts.workSound (h.resting free)
  | glyphCopied st inFlight done =>
    have unpurged := (h.work (.inr (.inl inFlight))).2
    rw [done]
    exact Ledger.Resting.workSound ⟨unpurged, h.not_held unpurged,
      Option.not_isSome_iff_eq_none.mp (fun moves => h.single.1 ⟨moves, inFlight⟩), rfl,
      Option.not_isSome_iff_eq_none.mp (fun copies => h.single.2.2 ⟨inFlight, copies⟩)⟩
  | templateCopied st inFlight done =>
    have unpurged := (h.work (.inr (.inr inFlight))).2
    rw [done]
    exact Ledger.Resting.workSound ⟨unpurged, h.not_held unpurged,
      Option.not_isSome_iff_eq_none.mp (fun moves => h.single.2.1 ⟨moves, inFlight⟩),
      Option.not_isSome_iff_eq_none.mp (fun copies => h.single.2.2 ⟨copies, inFlight⟩), rfl⟩
  | repositioned r st inFlight done =>
    have inFlight : (ledger s).orders.reposition.isSome = true := Option.isSome_of_eq_some inFlight
    have unpurged := (h.work (.inl inFlight)).2
    rw [done]
    exact Ledger.Resting.workSound ⟨unpurged, h.not_held unpurged, rfl,
      Option.not_isSome_iff_eq_none.mp (fun copies => h.single.1 ⟨inFlight, copies⟩),
      Option.not_isSome_iff_eq_none.mp (fun copies => h.single.2.1 ⟨inFlight, copies⟩)⟩
  | purgeAccepted free accepted =>
    obtain ⟨-, purgeHolds, reposition, glyphCopy, templateCopy⟩ := h.resting free
    rw [accepted]
    constructor <;> simp [purgeHolds, reposition, glyphCopy, templateCopy]
  | purgeGranted accepted granted =>
    rw [granted]
    exact ⟨⟨h.purge.1, fun _ => accepted⟩, h.work, h.single⟩
  | emptied empty =>
    rw [empty]
    exact Ledger.Resting.workSound ⟨rfl, rfl, rfl, rfl, rfl⟩

theorem exec_commitSound {s t : State} {c : Instr} (h : s.CommitSound) (next : exec c s = .next t) : t.CommitSound := by
  obtain ⟨engine, work⟩ := commitSound_iff.mp h
  exact commitSound_iff.mpr ⟨exec_engineSound engine next, (exec_ledgerStep engine next).workSound work⟩

/-! ### The lists -/

/-- The soundness of the lists, the commit's apart. -/
structure InOrder (s : State) : Prop where
  live : ∀ (l : Fin 4) (n : Nat), n ∈ s.settled l ↔ (s.entry n).state = .live ∧ some n ≠ s.moving
  sorted : ∀ l : Fin 4, (s.settled l).Pairwise (fun m n => s.before l m n = true)
  mover : ∀ r, s.orders.reposition = some r →
    r.new = (s.entry r.entry).state ∧ ∀ l : Fin 4, r.entry ∈ s.orders.lists[l] → r.old = .live

theorem listsSound_iff {s : State} : s.ListsSound ↔ s.CommitSound ∧ InOrder s :=
  ⟨fun h => ⟨h.commit, h.live, h.sorted, h.mover⟩, fun ⟨commit, live, sorted, mover⟩ => ⟨commit, live, sorted, mover⟩⟩

/-- The lists are in order as long as the table and the lists stand. -/
theorem InOrder.of_same {s t : State} (h : InOrder s) (directory : t.directory = s.directory) (orders : t.orders = s.orders) :
    InOrder t := by
  cases s
  cases t
  cases directory
  cases orders
  exact ⟨h.live, h.sorted, h.mover⟩

theorem settled_of_still {s : State} (still : s.orders.reposition = none) (l : Fin 4) : s.settled l = s.orders.lists[l] := by
  simp [State.settled, State.moving, still]

theorem mem_settled {s : State} {r : Reposition} (moving : s.orders.reposition = some r) {l : Fin 4} {n : Nat} :
    n ∈ s.settled l ↔ n ∈ s.orders.lists[l] ∧ n ≠ r.entry := by
  simp [State.settled, State.moving, moving]

/-- The order of two entries depends on their content alone. -/
theorem before_congr {s t : State} {l : Fin 4} {m n : Nat} (first : t.entry m = s.entry m) (second : t.entry n = s.entry n) :
    t.before l m n = s.before l m n := by
  have left : t.key l m = s.key l m := congrArg (fun e : Entry => imgKey e.image l) first
  have right : t.key l n = s.key l n := congrArg (fun e : Entry => imgKey e.image l) second
  rw [State.before, State.before, left, right]

/-- A commit that gives one entry its new content leaves the others in their order, and notes how it was placed (R51). -/
theorem InOrder.entryWritten {s t : State} {n : Nat} {e : Entry} (h : InOrder s) (still : s.orders.reposition = none)
    (directory : t.directory = Sparse.write Entry.free s.directory n e)
    (orders : t.orders = { s.orders with reposition := some ⟨n, (s.entry n).state, e.state⟩ }) : InOrder t := by
  have entry (k : Nat) : t.entry k = if n = k then e else s.entry k := by
    rw [State.entry, directory]
    exact Sparse.read_write Entry.free s.directory n k e
  have other {k : Nat} (apart : k ≠ n) : t.entry k = s.entry k := (entry k).trans (if_neg (Ne.symm apart))
  have moving : t.orders.reposition = some ⟨n, (s.entry n).state, e.state⟩ := by rw [orders]
  have lists : t.orders.lists = s.orders.lists := by rw [orders]
  have before (l : Fin 4) : s.settled l = s.orders.lists[l] := settled_of_still still l
  have settled (l : Fin 4) : t.settled l = (s.settled l).filter (fun k => decide (some k ≠ t.moving)) := by
    rw [before, State.settled, lists]
  refine ⟨fun l k => ?_, fun l => ?_, fun r flight => ?_⟩
  · rw [mem_settled moving, lists, ← before, h.live]
    by_cases apart : k = n
    · simp [apart, State.moving, moving]
    · simp [apart, State.moving, moving, still, other apart]
  · rw [settled]
    refine ((h.sorted l).filter _).imp_of_mem (fun {i j} hi hj less => ?_)
    rw [← settled, mem_settled moving] at hi hj
    rw [before_congr (other hi.2) (other hj.2)]
    exact less
  · cases moving.symm.trans flight
    refine ⟨(congrArg Entry.state ((entry n).trans (if_pos rfl))).symm, fun l listed => ?_⟩
    rw [lists, ← before, h.live] at listed
    exact listed.1

/-! ### The reposition -/

theorem mem_insertEntry {s : State} {l : Fin 4} {n k : Nat} {list : List Nat} :
    k ∈ s.insertEntry l n list ↔ k = n ∨ k ∈ list := by
  induction list with
  | nil => simp [State.insertEntry]
  | cons m ms ih =>
    rw [State.insertEntry]
    split
    · simp
    · simp only [List.mem_cons, ih]
      tauto

/-- An entry inserted into a list in order stands at its place (R51). -/
theorem insertEntry_sorted {s : State} {l : Fin 4} {n : Nat} {list : List Nat}
    (sorted : list.Pairwise (fun i j => s.before l i j = true)) (absent : n ∉ list) :
    (s.insertEntry l n list).Pairwise (fun i j => s.before l i j = true) := by
  induction list with
  | nil => simp [State.insertEntry]
  | cons m ms ih =>
    obtain ⟨first, rest⟩ := List.pairwise_cons.mp sorted
    obtain ⟨other, absent⟩ := not_or.mp (List.mem_cons.not.mp absent)
    rw [State.insertEntry]
    split
    · next less =>
      refine List.pairwise_cons.mpr ⟨fun k mem => ?_, sorted⟩
      obtain rfl | mem := List.mem_cons.mp mem
      · exact less
      · exact before_trans less (first k mem)
    · next notLess =>
      refine List.pairwise_cons.mpr ⟨fun k mem => ?_, ih rest absent⟩
      obtain rfl | mem := mem_insertEntry.mp mem
      · exact (before_total (Ne.symm other)).mpr (Bool.not_eq_true _ ▸ notLess)
      · exact first k mem

/-- The new lists are the settled ones with the moving entry at its place if it is LIVE now (R51, R52). -/
theorem repositioned_eq {s : State} {r : Reposition} (h : InOrder s) (moving : s.orders.reposition = some r) (l : Fin 4) :
    s.repositioned r l = if r.new = .live then s.insertEntry l r.entry (s.settled l) else s.settled l := by
  have settled : s.settled l = s.orders.lists[l].filter (fun m => m != r.entry) :=
    List.filter_congr (fun m _ => by rw [Bool.eq_iff_iff]; simp [State.moving, moving])
  have removed : (if r.old = .live then s.orders.lists[l].filter (fun m => m != r.entry) else s.orders.lists[l]) = s.settled l := by
    rw [settled]
    split
    · rfl
    · next old =>
      refine (List.filter_eq_self.mpr (fun m mem => ?_)).symm
      rw [bne_iff_ne]
      rintro rfl
      exact old ((h.mover r moving).2 l mem)
  simp only [State.repositioned, removed]

/-- The lists that a reposition leaves are in order, with no entry apart (R52). -/
theorem InOrder.repositioned {s t : State} {r : Reposition} (h : InOrder s) (moving : s.orders.reposition = some r)
    (directory : t.directory = s.directory)
    (orders : t.orders = ⟨Vector.ofFn (fun l : Fin 4 => s.repositioned r l), none⟩) : InOrder t := by
  have entry (n : Nat) : t.entry n = s.entry n := by rw [State.entry, directory]; rfl
  have still : t.orders.reposition = none := by rw [orders]
  have lists (l : Fin 4) : t.settled l = s.repositioned r l := by
    rw [settled_of_still still, orders]
    simp
  have absent (l : Fin 4) : r.entry ∉ s.settled l := fun mem => ((mem_settled moving).mp mem).2 rfl
  have listed (l : Fin 4) (n : Nat) : n ∈ s.settled l ↔ (s.entry n).state = .live ∧ n ≠ r.entry := by
    rw [h.live]
    simp [State.moving, moving]
  have placed : r.new = (s.entry r.entry).state := (h.mover r moving).1
  refine ⟨fun l n => ?_, fun l => ?_, fun r flight => ?_⟩
  · rw [lists, repositioned_eq h moving, entry, State.moving, still]
    by_cases own : n = r.entry
    · subst own
      by_cases live : r.new = .live
      · simp [live, mem_insertEntry, ← placed]
      · simp [live, absent, ← placed]
    · split <;> simp [mem_insertEntry, listed, own]
  · rw [lists, repositioned_eq h moving]
    simp only [before_congr (entry _) (entry _)]
    split
    · exact insertEntry_sorted (h.sorted l) (absent l)
    · exact h.sorted l
  · cases still.symm.trans flight

/-- Empty lists over an empty table are in order. -/
theorem InOrder.of_empty {s : State} (empty : ledger s = emptyLedger) : InOrder s := by
  have directory : s.directory = [] := congrArg Ledger.directory empty
  have orders : s.orders = ⟨Vector.replicate 4 [], none⟩ := congrArg Ledger.orders empty
  have still : s.orders.reposition = none := by rw [orders]
  have none (l : Fin 4) : s.settled l = [] := by
    rw [settled_of_still still, orders]
    simp
  refine ⟨fun l n => ?_, fun l => by rw [none]; exact List.Pairwise.nil, fun r flight => by cases still.symm.trans flight⟩
  rw [none, State.entry, directory]
  simp [Entry.free]

/-! ### Every step -/

theorem LedgerStep.inOrder {s t : State} (step : LedgerStep s t) (work : (ledger s).WorkSound) (h : InOrder s) : InOrder t := by
  have stands {l : Ledger} (after : ledger t = l) (directory : l.directory = s.directory) (orders : l.orders = s.orders) : InOrder t :=
    h.of_same ((congrArg Ledger.directory after).trans directory) ((congrArg Ledger.orders after).trans orders)
  cases step with
  | kept same => exact stands same rfl rfl
  | started free starts =>
    generalize after : ledger t = l at starts
    cases starts with
    | moves | glyph | template => exact stands after rfl rfl
    | entry n e =>
      exact h.entryWritten (work.resting free).reposition (congrArg Ledger.directory after) (congrArg Ledger.orders after)
  | glyphCopied st inFlight done => exact stands done rfl rfl
  | templateCopied st inFlight done => exact stands done rfl rfl
  | repositioned r st inFlight done =>
    exact h.repositioned inFlight (congrArg Ledger.directory done) (congrArg Ledger.orders done)
  | purgeAccepted free accepted => exact stands accepted rfl rfl
  | purgeGranted accepted granted => exact stands granted rfl rfl
  | emptied empty => exact .of_empty empty

theorem exec_listsSound {s t : State} {c : Instr} (h : s.ListsSound) (next : exec c s = .next t) : t.ListsSound := by
  obtain ⟨commit, order⟩ := listsSound_iff.mp h
  obtain ⟨engine, work⟩ := commitSound_iff.mp commit
  exact listsSound_iff.mpr ⟨exec_commitSound commit next, (exec_ledgerStep engine next).inOrder work order⟩

/-- A state with the same two views is as sound. -/
theorem commitSound_of_views {s t : State} (h : s.CommitSound) (sameC : control t = control s) (sameL : ledger t = ledger s) :
    t.CommitSound := by
  obtain ⟨engine, work⟩ := commitSound_iff.mp h
  exact commitSound_iff.mpr ⟨engineSound_of_control engine sameC, sameL ▸ work⟩

theorem listsSound_of_views {s t : State} (h : s.ListsSound) (sameC : control t = control s) (sameL : ledger t = ledger s) :
    t.ListsSound := by
  obtain ⟨commit, order⟩ := listsSound_iff.mp h
  exact listsSound_iff.mpr ⟨commitSound_of_views commit sameC sameL,
    order.of_same (congrArg Ledger.directory sameL) (congrArg Ledger.orders sameL)⟩

/-- Every step keeps the commit in flight sound (R23, R40, R43, R52). -/
theorem step_commitSound {s t : State} (h : s.CommitSound) (next : step s = .next t) : t.CommitSound :=
  step_keeps h commitSound_of_views exec_commitSound next

/-- Settles O59: the lists keep their order through each thing that a step can do to the ledger (`LedgerStep`), while the engine and
the commit in flight stay sound. -/
theorem listsSoundKept : Obligations.ListsSoundKept :=
  fun _ _ h next => step_keeps h listsSound_of_views exec_listsSound next

end Sys2Proof.Machine.NameOrder
end

section
/-! PROOFS. What a command of a face's port changes (R64, R77): its face alone, and the arbiter's recorded decision. -/

namespace Sys2Proof.Machine.FacePorts

open Sys2Proof Sys2Proof.Machine Sys2Proof.Machine.UpdateTransactions

/-! ### Changes of one face -/

/-- Nothing but the context of one face, and the arbiter's recorded decision, differs (R64, R77). -/
structure AloneOn (f : Face) (s t : State) : Prop where
  outside : t = { s with faces := t.faces, arbiter := { s.arbiter with decision := t.arbiter.decision } }
  others : ∀ g : Face, g ≠ f → t.face g = s.face g

variable {f : Face} {s t u : State}

theorem AloneOn.refl (f : Face) (s : State) : AloneOn f s s := ⟨rfl, fun _ _ => rfl⟩

theorem AloneOn.trans (first : AloneOn f s t) (second : AloneOn f t u) : AloneOn f s u := by
  refine ⟨?_, fun g other => (second.others g other).trans (first.others g other)⟩
  rw [second.outside, first.outside]

theorem modFace_alone (s : State) (f : Face) (g : FaceContext → FaceContext) : AloneOn f s (s.modFace f g) :=
  ⟨rfl, fun _ other => modFace_face_ne s other.symm g⟩

theorem AloneOn.arbitrated (h : AloneOn f s t) : AloneOn f s t.arbitrate := by
  refine h.trans ⟨?_, fun g _ => arbitrate_face t g⟩
  conv_lhs => rw [arbitrate_eq]
  conv_rhs => rw [arbitrate_eq]
  rfl

theorem AloneOn.raised (h : AloneOn f s t) (e : Event) : AloneOn f s (t.raise f e) := by
  rw [raise_eq]
  exact h.trans (modFace_alone t f _)

theorem AloneOn.answered (h : AloneOn f s t) (code : ReplyCode) (request : Byte) (results : Bytes) :
    AloneOn f s (t.answer f code request results) := by
  rw [answer_eq]
  exact h.trans (modFace_alone t f _)

theorem AloneOn.ite {p : Prop} [Decidable p] (yes : AloneOn f s t) (no : AloneOn f s u) : AloneOn f s (if p then t else u) := by
  split
  · exact yes
  · exact no

theorem answer_alone (s : State) (f : Face) (code : ReplyCode) (request : Byte) (results : Bytes) :
    AloneOn f s (s.answer f code request results) := (AloneOn.refl f s).answered code request results

/-- An owner that changes something of its face and answers. -/
theorem set_alone (s : State) (f : Face) (g : FaceContext → FaceContext) (code : ReplyCode) (request : Byte) (results : Bytes) :
    AloneOn f s ((s.modFace f g).answer f code request results) := (modFace_alone s f g).answered code request results

theorem applyReset_alone (s : State) (f : Face) : AloneOn f s (s.applyReset f) := set_alone s f _ _ _ _

/-! ### The owners of requests -/

theorem answerRequest_alone (s : State) (f : Face) (h : HeldRequest) : AloneOn f s (s.answerRequest f h) := by
  cases h with
  | resetFace => exact applyReset_alone s f
  | _ => exact answer_alone s f _ _ _

theorem takeSlotRead_alone (s : State) (f : Face) (h : HeldRequest) : AloneOn f s (s.takeSlotRead f h) :=
  (modFace_alone s f _).ite (answerRequest_alone s f h)

theorem query_alone (s : State) (f : Face) (code : Byte) (q : Option HeldRequest) : AloneOn f s (s.query f code q) := by
  cases q with
  | none => exact answer_alone s f _ _ _
  | some h => exact (modFace_alone s f _).ite (answerRequest_alone s f h)

theorem modSupervisor_alone (s : State) (f : Face) (g : Supervisor → Supervisor) : AloneOn f s (s.modSupervisor f g) :=
  modFace_alone s f _

/-- KICK moves its face's supervisor alone (R163). -/
theorem kicked_alone (s : State) (f : Face) : AloneOn f s (s.kicked f).1 := by
  unfold State.kicked
  split <;> dsimp only
  · exact .refl f s
  · exact modSupervisor_alone s f _
  · exact .refl f s
  · exact (modSupervisor_alone s f _).raised _
  · exact (modSupervisor_alone s f _).raised _

theorem stopQueue_alone (s : State) (f : Face) : AloneOn f s (s.stopQueue f) := by
  unfold State.stopQueue
  split
  · exact .refl f s
  · exact (modFace_alone s f _).raised _
  · exact (modFace_alone s f _).raised _
  · exact (modFace_alone s f _).raised _
  · exact modFace_alone s f _

/-- A request command is a transaction of its port, with an owner that changes its face alone (R69, R74, R199). -/
theorem exec_request {c : Instr} {code : Byte} {x : Transfer} (asks : requestOf c = some (f, code, x)) :
    ∃ own : State → State, (∀ t, AloneOn f t (own t)) ∧ ∀ s, exec c s = .next (s.request f code true x own) := by
  cases c with
  | status f x => cases asks; exact ⟨_, fun t => answer_alone t f _ _ _, fun s => rfl⟩
  | kick f x => cases asks; exact ⟨_, fun t => (kicked_alone t f).answered _ _ _, fun s => rfl⟩
  | readEvents f x => cases asks; exact ⟨_, fun t => modFace_alone t f _, fun s => rfl⟩
  | setMask f x => cases asks; exact ⟨_, fun t => set_alone t f _ _ _ _, fun s => rfl⟩
  | readEntry f x => cases asks; exact ⟨_, fun t => query_alone t f _ _, fun s => rfl⟩
  | listWindow f x => cases asks; exact ⟨_, fun t => query_alone t f _ _, fun s => rfl⟩
  | findPrefix f x => cases asks; exact ⟨_, fun t => query_alone t f _ _, fun s => rfl⟩
  | readFault f x => cases asks; exact ⟨_, fun t => answer_alone t f _ _ _, fun s => rfl⟩
  | readSlots f x => cases asks; exact ⟨_, fun t => takeSlotRead_alone t f _, fun s => rfl⟩
  | hitTest f x => cases asks; exact ⟨_, fun t => (answer_alone t f _ _ _).ite (takeSlotRead_alone t f _), fun s => rfl⟩
  | stop f x => cases asks; exact ⟨_, fun t => ((stopQueue_alone t f).answered _ _ _).arbitrated, fun s => rfl⟩
  | resetFace f x =>
    cases asks
    exact ⟨_, fun t => (modFace_alone t f _).ite (applyReset_alone t f).arbitrated, fun s => rfl⟩
  | setPalette f x =>
    cases asks
    exact ⟨_, fun t => (answer_alone t f _ _ _).ite (set_alone t f _ _ _ _), fun s => rfl⟩
  | setMap f x =>
    cases asks
    exact ⟨_, fun t => (answer_alone t f _ _ _).ite ((answer_alone t f _ _ _).ite (set_alone t f _ _ _ _)), fun s => rfl⟩
  | writeImage f x =>
    cases asks
    exact ⟨_, fun t => (answer_alone t f _ _ _).ite ((answer_alone t f _ _ _).ite (set_alone t f _ _ _ _)), fun s => rfl⟩
  | setLanguage f x =>
    cases asks
    refine ⟨_, fun t => ?_, fun s => rfl⟩
    split
    · exact answer_alone t f _ _ _
    · exact set_alone t f _ _ _ _
  | writeCells f x =>
    cases asks
    refine ⟨_, fun t => ?_, fun s => rfl⟩
    split
    · exact answer_alone t f _ _ _
    · exact (answer_alone t f _ _ _).ite (set_alone t f _ _ _ _)
  | start f x =>
    cases asks
    refine ⟨_, fun t => ?_, fun s => rfl⟩
    split
    · exact (answer_alone t f _ _ _).ite ((answer_alone t f _ _ _).ite (set_alone t f _ _ _ _).arbitrated)
    · exact answer_alone t f _ _ _
  | append f x =>
    cases asks
    refine ⟨_, fun t => ?_, fun s => rfl⟩
    split
    · exact answer_alone t f _ _ _
    · refine (answer_alone t f _ _ _).ite ?_
      split
      · exact answer_alone t f _ _ _
      · exact (answer_alone t f _ _ _).ite (set_alone t f _ _ _ _)
  | _ => cases asks

/-! ### The port's own commands -/

theorem fillReply_alone (s : State) (f : Face) (code : ReplyCode) (request : Byte) (results : Bytes) :
    AloneOn f s (s.fillReply f code request results) := (modFace_alone s f _).raised _

theorem shiftOut_alone (s : State) (f : Face) (bs : Bytes) : AloneOn f s (s.shiftOut f bs) := modFace_alone s f _

/-- A transaction whose owner changes its face alone does so too (R74). -/
theorem request_alone (s : State) (code : Byte) (known : Bool) (x : Transfer) {own : State → State}
    (owner : ∀ t, AloneOn f t (own t)) : AloneOn f s (s.request f code known x own) := by
  have shift : AloneOn f s (s.requestShift f x) := shiftOut_alone s f _
  obtain ⟨-, h⟩ | ⟨-, -, h⟩ | ⟨-, -, ⟨r, -, h⟩ | ⟨-, h⟩⟩ := request_cases s f code known x own <;> rw [h]
  · exact shift.trans (fillReply_alone _ f _ _ _)
  · exact shift
  · exact shift.trans (fillReply_alone _ f _ _ _)
  · exact (shift.trans (modFace_alone _ f _)).trans (owner _)

theorem execFetch_alone {n : Nat} (next : execFetch f n s = .next t) : AloneOn f s t := by
  cases next
  exact ((shiftOut_alone s f _).trans (modFace_alone _ f _)).ite (shiftOut_alone s f _)

/-- The commands of a face's port (R69, R74). -/
theorem portCommandOf_cases {c : Instr} (port : portCommandOf c = some f) :
    (∃ n, c = .fetch f n) ∨ (∃ code x, c = .unknownRequestCode f code x) ∨ ∃ code x, requestOf c = some (f, code, x) := by
  unfold portCommandOf at port
  split at port
  · cases port; exact .inl ⟨_, rfl⟩
  · cases port; exact .inr (.inl ⟨_, _, rfl⟩)
  · obtain ⟨⟨_, code, x⟩, asks, rfl⟩ := Option.map_eq_some_iff.mp port
    exact .inr (.inr ⟨code, x, asks⟩)

/-- Settles O26: a request's owner changes its face alone (`exec_request`), and so do the transactions without an owner. -/
theorem portCommandsStayOnTheirFace : Obligations.PortCommandsStayOnTheirFace := by
  intro c f s t port next
  obtain ⟨outside, others⟩ : AloneOn f s t := by
    obtain ⟨n, rfl⟩ | ⟨code, x, rfl⟩ | ⟨code, x, asks⟩ := portCommandOf_cases port
    · exact execFetch_alone next
    · cases next
      exact request_alone s code false x (AloneOn.refl f)
    · obtain ⟨own, owner, runs⟩ := exec_request asks
      cases (runs s).symm.trans next
      exact request_alone s code true x owner
  exact ⟨outside, others⟩

end Sys2Proof.Machine.FacePorts
end

section
/-! PROOFS. The port's checks in their order and the reply that each refusal leaves (R69 to R74, R194, R197, R199), and what FETCH
shifts out (R73). -/

namespace Sys2Proof.Machine.FacePorts

open Sys2Proof Sys2Proof.Machine Sys2Proof.Machine.UpdateTransactions

/-! ### The lengths of R199 -/

theorem lengthAllowed_of_bare {code : Byte} (bare : code ∈ ([0x01, 0x02, 0x03, 0x23, 0x24, 0x40, 0x50] : List Byte)) (n : Nat) :
    lengthAllowed code n = true ↔ n = 0 := by
  fin_cases bare <;> exact decide_eq_true_iff

theorem lengthAllowed_of_one_byte {code : Byte} (one : code ∈ ([0x22, 0x31] : List Byte)) (n : Nat) :
    lengthAllowed code n = true ↔ n = 1 := by
  fin_cases one <;> exact decide_eq_true_iff

theorem lengthAllowed_of_two_bytes {code : Byte} (two : code ∈ ([0x04, 0x21] : List Byte)) (n : Nat) :
    lengthAllowed code n = true ↔ n = 2 := by
  fin_cases two <;> exact decide_eq_true_iff

/-- A SET_PALETTE brings its first entry and the three bytes of each of 1 to 16 colours (R139, R199). -/
theorem lengthAllowed_setPalette (n : Nat) : lengthAllowed 0x32 n = true ↔ ∃ k, 1 ≤ k ∧ k ≤ 16 ∧ n = 1 + 3 * k := by
  have form : lengthAllowed 0x32 n = true ↔ 4 ≤ n ∧ n ≤ 49 ∧ n % 3 = 1 := decide_eq_true_iff
  rw [form]
  constructor
  · rintro ⟨least, most, whole⟩
    exact ⟨n / 3, by omega, by omega, by omega⟩
  · rintro ⟨k, least, most, rfl⟩
    omega

/-- The result bytes of each request's row (R199). -/
theorem resultLength_eq (code : Byte) : resultLength code =
    if code = 0x01 ∨ code = 0x24 then 6 else if code = 0x03 then 2 else if code = 0x10 then 75 else if code = 0x11 then 45
    else if code = 0x12 then 7 else if code = 0x40 then 151 else if code = 0x41 then 5 else 0 := by
  simp only [← BitVec.toNat_inj]
  unfold resultLength
  split <;> simp_all

/-! ### The port's checks -/

/-- A reply in the slot, REPLY_READY latched on an enabled face, and the request in progress left as it is (R71, R158). -/
theorem fillReply_eq (s : State) (f : Face) (code : ReplyCode) (request : Byte) (results : Bytes) :
    s.fillReply f code request results = s.modFace f (fun c =>
      { c with port := { c.port with reply := some ⟨code, request, padResults request results⟩ }
               latch := if s.enabled f = true then c.latch ||| 1 else c.latch }) := by
  unfold State.fillReply
  rw [raise_eq, modFace_modFace]
  rfl

/-- What a refusal leaves: the shift, a bare reply in the slot, and REPLY_READY on an enabled face (R69, R72, R158, R197). -/
def refusal (s : State) (f : Face) (code : Byte) (x : Transfer) (r : ReplyCode) : State :=
  s.modFace f (fun c =>
    { c with port := ⟨c.port.inProgress, some (bareReply r code), s.requestOut f x⟩
             latch := if s.enabled f then c.latch ||| 1 else c.latch })

theorem requestShift_fillReply (s : State) (f : Face) (code : Byte) (x : Transfer) (r : ReplyCode) :
    (s.requestShift f x).fillReply f r code [] = refusal s f code x r := by
  rw [fillReply_eq, State.requestShift, State.shiftOut, modFace_modFace]
  rfl

variable {s : State} {f : Face} {code : Byte} {x : Transfer} {known : Bool} {own : State → State}

/-- During the load every request is answered with NOT_READY (R194). -/
theorem request_loading (loading : s.loadEnded = false) : s.request f code known x own = refusal s f code x .notReady := by
  unfold State.request
  rw [loading, ← requestShift_fillReply]
  rfl

/-- A face that is not enabled makes the shift alone (R69). -/
theorem request_absent (ended : s.loadEnded = true) (absent : s.enabled f = false) :
    s.request f code known x own =
      s.modFace f (fun c => { c with port := { c.port with dataOut := s.requestOut f x } }) := by
  unfold State.request
  rw [ended, absent]
  rfl

/-- A face in service refuses by the first of the port's checks that fails (R74). -/
theorem request_refused {r : ReplyCode} (ended : s.loadEnded = true) (enabled : s.enabled f = true)
    (fails : s.portRefusal f code known x.bytes.length = some r) : s.request f code known x own = refusal s f code x r := by
  unfold State.request
  rw [ended, enabled, fails, ← requestShift_fillReply]
  rfl

theorem request_refused_open {r : ReplyCode} (opened : s.portOpen f)
    (fails : s.portRefusal f code known x.bytes.length = some r) : s.request f code known x own = refusal s f code x r := by
  obtain ⟨ended, enabled, -⟩ := opened
  exact request_refused ended enabled fails

theorem portRefusal_busy {n : Nat} (busy : (s.face f).port.inProgress ≠ none) : s.portRefusal f code known n = some .busy :=
  if_pos (Option.isSome_iff_ne_none.mpr busy)

/-- The checks that follow BUSY, on a face with no request in progress (R72, R74). -/
theorem portRefusal_open {n : Nat} (opened : s.portOpen f) : s.portRefusal f code known n =
    if !known then some .format
    else if s.withdrawn f && !takenWithdrawn code then some .withdrawn
    else if !lengthAllowed code n then some .format
    else none := by
  obtain ⟨-, -, idle⟩ := opened
  exact if_neg (by simp [idle])

theorem portRefusal_unknown {n : Nat} (opened : s.portOpen f) : s.portRefusal f code false n = some .format :=
  portRefusal_open opened

theorem portRefusal_withdrawn {n : Nat} (opened : s.portOpen f) (withdrawn : s.withdrawn f = true)
    (refused : ¬(code = 0x01 ∨ code = 0x02 ∨ code = 0x03)) : s.portRefusal f code true n = some .withdrawn := by
  have refused : takenWithdrawn code = false := decide_eq_false refused
  rw [portRefusal_open opened, withdrawn, refused]
  rfl

/-- A request of the list that a withdrawn face does not refuse is refused for its length alone (R74, R199). -/
theorem portRefusal_present {n : Nat} (opened : s.portOpen f)
    (present : s.withdrawn f = false ∨ code = 0x01 ∨ code = 0x02 ∨ code = 0x03) :
    s.portRefusal f code true n = if lengthAllowed code n = true then none else some .format := by
  have passes : (s.withdrawn f && !takenWithdrawn code) = false := by
    obtain present | present := present
    · rw [present]; rfl
    · rw [show takenWithdrawn code = true from decide_eq_true present]; exact Bool.and_false _
  rw [portRefusal_open opened, passes]
  cases lengthAllowed code n <;> rfl

/-- Settles O27: every request, and every transaction with an unknown code, is one `State.request`, whose checks stand in order. -/
theorem portRefusesInOrder : Obligations.PortRefusesInOrder := by
  refine ⟨fun n code => ⟨fun h => lengthAllowed_of_bare h n, fun h => lengthAllowed_of_one_byte h n,
    fun h => lengthAllowed_of_two_bytes h n, ?_, ?_, ?_, ?_, ?_, ?_, ?_, ?_⟩, fun r code => ?_, ?_⟩
  iterate 7 · rintro rfl; exact decide_eq_true_iff
  · rintro rfl; exact lengthAllowed_setPalette n
  · rw [bareReply, resultLength_eq]
  · intro c f code x s known refused asks leaves
    obtain ⟨own, runs⟩ : ∃ own, exec c s = .next (s.request f code known x own) := by
      obtain ⟨rfl, asks⟩ | ⟨rfl, rfl⟩ := asks
      · obtain ⟨own, -, runs⟩ := exec_request asks
        exact ⟨own, runs s⟩
      · exact ⟨_, rfl⟩
    obtain rfl : refused = refusal s f code x := funext leaves
    rw [runs]
    refine ⟨fun loading => ?_, fun ended absent => ?_, fun ended enabled busy => ?_, fun opened unknown => ?_,
      fun opened listed withdrawn status kick events => ?_, fun opened listed present wrong => ?_⟩
    · rw [request_loading loading]
    · rw [request_absent ended absent]
    · rw [request_refused ended enabled (portRefusal_busy busy)]
    · subst unknown
      rw [request_refused_open opened (portRefusal_unknown opened)]
    · subst listed
      have refuses : ¬(code = 0x01 ∨ code = 0x02 ∨ code = 0x03) := not_or.mpr ⟨status, not_or.mpr ⟨kick, events⟩⟩
      rw [request_refused_open opened (portRefusal_withdrawn opened withdrawn refuses)]
    · subst listed
      have fails : s.portRefusal f code true x.bytes.length = some .format := by
        rw [portRefusal_present opened present, wrong]
        rfl
      rw [request_refused_open opened fails]

/-! ### FETCH -/

theorem fetchBytes_of_reply {n : Nat} {r : Reply} (ended : s.loadEnded = true) (enabled : s.enabled f = true)
    (waits : (s.face f).port.reply = some r) : s.fetchBytes f n = (r.bytes ++ List.replicate n 0).take n := by
  simp only [State.fetchBytes, ended, enabled, waits, Bool.and_self]

theorem fetchBytes_of_empty {n : Nat} (empty : (s.face f).port.reply = none) : s.fetchBytes f n = List.replicate n 0 := by
  simp only [State.fetchBytes, empty]
  cases s.loadEnded && s.enabled f <;> rfl

theorem fetchBytes_out_of_service {n : Nat} (out : (s.loadEnded && s.enabled f) = false) :
    s.fetchBytes f n = List.replicate n 0 := by
  simp only [State.fetchBytes, out]

/-- In service a FETCH empties the slot, whatever it shifts out (R73). -/
theorem exec_fetch_in_service {n : Nat} (ended : s.loadEnded = true) (enabled : s.enabled f = true) :
    exec (.fetch f n) s = .next (s.modFace f (fun c => { c with port :=
      ⟨c.port.inProgress, none, s.statusByte f :: s.fetchBytes f n⟩ })) := by
  have taken : exec (.fetch f n) s = .next ((s.shiftOut f (s.statusByte f :: s.fetchBytes f n)).takeRequest f) :=
    congrArg _ (if_pos (by rw [ended, enabled]; rfl))
  rw [taken]
  exact congrArg _ (modFace_modFace s f _ _)

/-- Settles O35, by the three cases of what stands in the slot: a reply, none, and a face out of service. -/
theorem fetchDeliversTheReply : Obligations.FetchDeliversTheReply := by
  refine fun s f n => ⟨fun ended enabled => ⟨fun r waits => ?_, fun empty => ?_⟩, fun out => ?_⟩
  · rw [exec_fetch_in_service ended enabled, fetchBytes_of_reply ended enabled waits]
    rfl
  · rw [exec_fetch_in_service ended enabled, fetchBytes_of_empty empty]
  · have out : (s.loadEnded && s.enabled f) = false := Bool.and_eq_false_iff.mpr out
    rw [← fetchBytes_out_of_service out]
    exact congrArg _ (if_neg (by rw [out]; exact Bool.false_ne_true))

end Sys2Proof.Machine.FacePorts
end

section
/-! PROOFS. What STATUS, READ_FAULT, READ_EVENTS, SET_MASK and the requests of the face context leave (R76, R78, R79, R81, R82, R94,
R139, R160, R161), and the status byte and ATTN (R70, R159). -/

namespace Sys2Proof.Machine.FacePorts

open Sys2Proof Sys2Proof.Machine Sys2Proof.Machine.UpdateTransactions

variable {s : State} {f : Face} {x : Transfer}

/-! ### Requests that a withdrawn face takes too -/

/-- A request of an open port that a withdrawn face does not refuse, of an allowed length, reaches its owner (R74). -/
theorem request_taken_open {code : Byte} (own : State → State) (opened : s.portOpen f)
    (present : s.withdrawn f = false ∨ code = 0x01 ∨ code = 0x02 ∨ code = 0x03)
    (length : lengthAllowed code x.bytes.length = true) : s.request f code true x own = own (taken s f x) := by
  have passes : s.portRefusal f code true x.bytes.length = none := (portRefusal_present opened present).trans (if_pos length)
  obtain ⟨ended, enabled, idle⟩ := opened
  have slot : (s.requestShift f x).takeRequest f = taken s f x := by
    rw [State.requestShift, State.shiftOut, State.takeRequest, modFace_modFace]
    exact modFace_congr (by simp only [idle, State.requestOut])
  unfold State.request
  rw [ended, enabled, passes, ← slot]
  rfl

theorem answer_taken_open (opened : s.portOpen f) (code : ReplyCode) (request : Byte) (results : Bytes) :
    (taken s f x).answer f code request results =
      s.modFace f (fun c => c.replied (s.requestOut f x) code request (padResults request results)) := by
  obtain ⟨-, enabled, -⟩ := opened
  rw [answer_eq, show (taken s f x).enabled f = true from enabled]
  exact modFace_modFace s f _ _

/-- A change of its face that an owner makes and answers, on a ready port (R71). -/
theorem set_answer_taken (ready : s.portReady f) (g : FaceContext → FaceContext) (code : ReplyCode) (request : Byte) (results : Bytes) :
    ((taken s f x).modFace f g).answer f code request results = s.modFace f (fun c =>
      answeredContext (g { c with port := ⟨none, none, s.requestOut f x⟩ }) true ⟨code, request, padResults request results⟩) := by
  obtain ⟨⟨-, enabled, -⟩, -⟩ := ready
  rw [answer_eq, modFace_enabled, show (taken s f x).enabled f = true from enabled, modFace_modFace]
  exact modFace_modFace s f _ _

/-! ### STATUS, READ_EVENTS, SET_MASK and READ_FAULT -/

theorem exec_status (opened : s.portOpen f) (empty : x.bytes = []) :
    exec (.status f x) s = .next (s.modFace f (fun c => c.replied (s.requestOut f x) .ok 0x01
      ([c.queue.state.code, haltCode c.queue.halt, c.supervisor.state.code, s.evac.state.code] ++ Word16.bytes s.update.count))) := by
  have asked : exec (.status f x) s = .next ((taken s f x).answer f .ok 0x01 ((taken s f x).statusResults f)) :=
    congrArg _ (request_taken_open _ opened (.inr (.inl rfl)) (by rw [empty]; rfl))
  rw [asked, answer_taken_open opened]
  refine congrArg _ (modFace_congr ?_)
  rw [State.statusResults, taken, modFace_face_same]
  rfl

theorem exec_readEvents (opened : s.portOpen f) (empty : x.bytes = []) :
    exec (.readEvents f x) s = .next (s.modFace f (fun c =>
      { c with latch := 0, port := ⟨none, some ⟨.ok, 0x03, Word16.bytes (c.latch.setWidth 16)⟩, s.requestOut f x⟩ })) := by
  have asked : exec (.readEvents f x) s = .next ((taken s f x).modFace f FaceContext.eventsRead) :=
    congrArg _ (request_taken_open _ opened (.inr (.inr (.inr rfl))) (by rw [empty]; rfl))
  rw [asked]
  exact congrArg _ (modFace_modFace s f _ _)

theorem exec_setMask (ready : s.portReady f) (length : x.bytes.length = 2) :
    exec (.setMask f x) s = .next (s.modFace f (fun c =>
      { c.replied (s.requestOut f x) .ok 0x04 [] with mask := BitVec.ofNat 12 (num16 x.bytes 0) })) := by
  have asked : exec (.setMask f x) s = .next (((taken s f x).modFace f (fun c =>
      { c with mask := BitVec.ofNat 12 (num16 x.bytes 0) })).answer f .ok 0x04 []) :=
    congrArg _ (request_taken _ ready (by rw [length]; rfl))
  rw [asked, set_answer_taken ready]
  rfl

theorem exec_readFault (ready : s.portReady f) (empty : x.bytes = []) :
    exec (.readFault f x) s = .next (s.modFace f (fun c =>
      c.replied (s.requestOut f x) .ok 0x24 (padResults 0x24 (faultBytes (s.face f).queue.fault)))) := by
  have asked : exec (.readFault f x) s =
      .next ((taken s f x).answer f .ok 0x24 (faultBytes ((taken s f x).face f).queue.fault)) :=
    congrArg _ (request_taken _ ready (by rw [empty]; rfl))
  rw [asked, answer_taken ready, taken, modFace_face_same]

/-- The six bytes of a filled fault record (R104, R199). -/
theorem faultBytes_some (r : FaultRecord) : padResults 0x24 (faultBytes (some r)) =
    [1, byteOf r.cell.val, byteOf r.depth, (r.top.map (fun p => byteOf p.1)).getD 0xFF,
     (r.top.map (fun p => byteOf p.2.val)).getD 0xFF, r.reason.code] := by
  obtain ⟨cell, depth, top, reason⟩ := r
  cases top <;> rfl

/-! ### The status byte and ATTN -/

theorem withdrawn_iff : s.withdrawn f = true ↔ (s.face f).supervisor.state = .pulse ∨
    (s.face f).supervisor.state = .recovery ∨ (s.face f).supervisor.state = .disabled := by
  unfold State.withdrawn
  cases (s.face f).supervisor.state <;> simp [SupState.withdrawn]

/-- The codes of the port states, in the order of R70's table. -/
theorem portState_code (s : State) (f : Face) : (s.portState f).code =
    if s.loadEnded = false then 3
    else if s.enabled f = false then 4
    else if (s.face f).port.inProgress ≠ none then 1
    else if (s.face f).port.reply ≠ none then 2
    else 0 := by
  simp only [State.portState, Bool.not_eq_true', Option.isSome_iff_ne_none]
  split_ifs <;> rfl

/-- A set holds an element outside another exactly when the other's complement meets it. -/
theorem and_not_ne_zero_iff {w : Nat} (a b : BitVec w) :
    a &&& ~~~b ≠ 0 ↔ ∃ e, e < w ∧ a.getLsbD e = true ∧ b.getLsbD e = false := by
  constructor
  · intro meets
    by_contra within
    refine meets (BitVec.eq_of_getLsbD_eq (fun e he => ?_))
    have outside : ¬(a.getLsbD e = true ∧ b.getLsbD e = false) := fun h => within ⟨e, he, h⟩
    cases ha : a.getLsbD e <;> cases hb : b.getLsbD e <;> simp_all
  · rintro ⟨e, he, ha, hb⟩ apart
    have : (a &&& ~~~b).getLsbD e = true := by simp only [BitVec.getLsbD_and, BitVec.getLsbD_not, he, ha, hb]; rfl
    rw [apart] at this
    simp at this

/-- ATTN is asserted exactly when the latch holds an event outside the mask, on a face in service (R159). -/
theorem attn_iff (s : State) (f : Face) : s.attn f = true ↔ s.loadEnded = true ∧ s.enabled f = true ∧
    ∃ e, e < 12 ∧ (s.face f).latch.getLsbD e = true ∧ (s.face f).mask.getLsbD e = false := by
  unfold State.attn
  rw [Bool.and_eq_true, Bool.and_eq_true, decide_eq_true_iff, and_not_ne_zero_iff, and_assoc]

/-- Settles O28: the tables of R198 by evaluation, each request by its own lemma, the status byte and ATTN by their rules. -/
theorem statusAndEventsAreAnswered : Obligations.StatusAndEventsAreAnswered := by
  refine ⟨rfl, rfl, rfl, rfl, rfl, rfl, rfl, fun s f x =>
    ⟨exec_status, exec_readEvents, exec_setMask, fun ready empty => ⟨fun none => ?_, fun r filled => ?_⟩, ?_, attn_iff s f⟩⟩
  · rw [exec_readFault ready empty, none]
    rfl
  · rw [exec_readFault ready empty, filled, faultBytes_some]
  · unfold State.statusByte
    rw [portState_code]
    simp only [State.withdrawnFlag, Bool.and_eq_true, withdrawn_iff, and_assoc]

/-! ### SET_LANGUAGE, SET_MAP and SET_PALETTE -/

theorem exec_setLanguage (ready : s.portReady f) (length : x.bytes.length = 1) :
    exec (.setLanguage f x) s = .next (
      match finOf 4 (num x.bytes 0) with
      | none => (taken s f x).answer f .range 0x31 []
      | some l => ((taken s f x).modFace f (fun c => { c with language := l })).answer f .ok 0x31 []) :=
  congrArg _ (request_taken _ ready (by rw [length]; rfl))

theorem exec_setMap (ready : s.portReady f) (length : x.bytes.length = 10) :
    exec (.setMap f x) s = .next (
      if !(windowOf x.bytes).inRange then (taken s f x).answer f .range 0x30 []
      else if windowFixed ((taken s f x).face f).route then (taken s f x).answer f .state 0x30 []
      else ((taken s f x).modFace f (fun c => { c with window := windowOf x.bytes })).answer f .ok 0x30 []) :=
  congrArg _ (request_taken _ ready (by rw [length]; rfl))

theorem exec_setPalette {n : Nat} (ready : s.portReady f) (length : x.bytes.length = 1 + 3 * n) (least : 1 ≤ n) (most : n ≤ 16) :
    exec (.setPalette f x) s = .next (
      if 15 < num x.bytes 0 ∨ 16 < num x.bytes 0 + n then (taken s f x).answer f .range 0x32 []
      else ((taken s f x).modFace f (fun c => { c with palette := { c.palette with
        pending := paletteWrites c.palette.pending (num x.bytes 0) n x.bytes } })).answer f .ok 0x32 []) := by
  have colours : n = (x.bytes.length - 1) / 3 := by omega
  rw [colours]
  exact congrArg _ (request_taken _ ready ((lengthAllowed_setPalette _).mpr ⟨n, least, most, length⟩))

theorem inRange_iff (w : MapWindow) : w.inRange = true ↔
    w.cx ≤ 1079 ∧ w.cy ≤ 1919 ∧ w.mx ≤ 4095 ∧ w.my ≤ 4095 ∧ w.level ≤ 7 ∧ 1 ≤ w.scale ∧ w.scale ≤ 16 := by
  simp [MapWindow.inRange, and_assoc]

theorem windowFixed_iff (v : Option RouteRecord) :
    windowFixed v = true ↔ ∃ r, v = some r ∧ (r.state = .drawing ∨ r.state = .drawn ∨ r.state = .stale) := by
  cases v <;> simp [windowFixed]

theorem windowFixed_of_route {v : Option RouteRecord} (movable : ∀ r, v = some r → r.state = .gone ∨ r.state = .disturbed) :
    windowFixed v = false := by
  rw [← Bool.not_eq_true, windowFixed_iff]
  rintro ⟨r, route, fixed⟩
  obtain state | state := movable r route <;> simp [state] at fixed

/-- Settles O29: each request's checks stand before its one change, and `set_answer_taken` gives that change with the reply. -/
theorem contextRequestsAreTakenWhole : Obligations.ContextRequestsAreTakenWhole := by
  refine fun s f x ready => ⟨fun b bytes => ⟨fun l named => ?_, fun out => ?_⟩, fun w length window => ?_,
    fun n least most length => ⟨fun fits => ?_, fun past => ?_⟩⟩
  · have language : finOf 4 (num x.bytes 0) = some l := (finOf_eq_some 4 _ l).mpr (by rw [bytes]; exact named)
    rw [exec_setLanguage ready (by rw [bytes]; rfl), language]
    exact congrArg _ (set_answer_taken ready _ _ _ _)
  · have language : finOf 4 (num x.bytes 0) = none := finOf_none (by rw [bytes]; exact out)
    rw [exec_setLanguage ready (by rw [bytes]; rfl), language]
    exact congrArg _ (answer_taken ready _ _ _)
  · obtain rfl : w = windowOf x.bytes := window
    have route : ((taken s f x).face f).route = (s.face f).route := by rw [taken, modFace_face_same]
    rw [exec_setMap ready length, route, ← inRange_iff]
    refine ⟨fun inside => ⟨fun movable => ?_, fun r held fixed => ?_⟩, fun outside => ?_⟩
    · rw [inside, windowFixed_of_route movable]
      exact congrArg _ (set_answer_taken ready _ _ _ _)
    · rw [inside, (windowFixed_iff _).mpr ⟨r, held, fixed⟩]
      exact congrArg _ (answer_taken ready _ _ _)
    · rw [Bool.eq_false_of_not_eq_true outside]
      exact congrArg _ (answer_taken ready _ _ _)
  · rw [exec_setPalette ready length least most, if_neg (by omega), set_answer_taken ready]
    rfl
  · rw [exec_setPalette ready length least most, if_pos (.inr past), answer_taken ready]
    rfl

/-! ### RESET_FACE -/

/-- RESET_FACE applied as it is taken: the context's values, and REPLY_READY alone in the latch (R82). -/
theorem applyReset_taken (ready : s.portReady f) : (taken s f x).applyReset f = s.modFace f (fun c =>
    { c.resetFace with port := ⟨none, some ⟨.ok, 0x50, []⟩, s.requestOut f x⟩, latch := 1 }) := by
  unfold State.applyReset
  rw [set_answer_taken ready]
  refine modFace_congr ?_
  simp only [answeredContext, FaceContext.resetFace, if_true]
  rfl

theorem exec_resetFace (ready : s.portReady f) (empty : x.bytes = []) :
    exec (.resetFace f x) s = .next (
      if (s.faceHolds f || s.purgeHolds) = true then (taken s f x).hold f .resetFace
      else ((taken s f x).applyReset f).arbitrate) :=
  congrArg _ (request_taken _ ready (by rw [empty]; rfl))

/-- Settles O31: the context of R82, answered in the same step, behind the two holders of the engine that R81 names. -/
theorem resetFaceAppliesOrIsHeld : Obligations.ResetFaceAppliesOrIsHeld := by
  refine fun s f x ready empty => ⟨fun busy => ?_, fun faceFree purgeFree => ?_⟩
  · rw [exec_resetFace ready empty, if_pos (by simpa using busy), hold_taken]
  · rw [exec_resetFace ready empty, faceFree, purgeFree, if_neg (by simp)]
    rw [applyReset_taken ready]
    rfl

end Sys2Proof.Machine.FacePorts
end

section
/-! PROOFS. What WRITE_IMAGE and WRITE_CELLS write of the image buffer and of the ring (R80, R85), and when they are refused. -/

namespace Sys2Proof.Machine.FacePorts

open Sys2Proof Sys2Proof.Machine Sys2Proof.Machine.UpdateTransactions

/-! ### Cells of the ring -/

theorem holds_iff (r : ActiveRange) (i : Fin 16) : r.holds i = true ↔ (i - r.next).val ≤ (r.last - r.next).val := by
  rw [ActiveRange.holds, decide_eq_true_iff, ActiveRange.count, Nat.lt_succ_iff]

/-- A write of cells touches a range exactly when the range holds one of them (R85). -/
theorem writtenCells_any (first : Fin 16) (n : Nat) (r : ActiveRange) :
    (writtenCells first n).any r.holds = true ↔ ∃ i, i < n ∧ r.holds (first + Fin.ofNat 16 i) = true := by
  simp [writtenCells]

theorem atRest_iff (q : Queue) : q.atRest = true ↔ q.state = .idle ∨ q.state = .halted := decide_eq_true_iff

theorem not_atRest {q : Queue} (busy : q.state = .pending ∨ q.state = .running ∨ q.state = .waiting) : q.atRest = false := by
  obtain state | state | state := busy <;> simp [Queue.atRest, state]

/-- WRITE_CELLS finds a queue busy exactly when one of its cells is in the range of a queue that is not at rest (R85). -/
theorem writeBusy_iff (q : Queue) (first : Fin 16) (n : Nat) : q.writeBusy first n = true ↔
    q.atRest = false ∧ ∃ r, q.range = some r ∧ ∃ i, i < n ∧ r.holds (first + Fin.ofNat 16 i) = true := by
  unfold Queue.writeBusy
  cases q.range with
  | none => simp
  | some r => simp only [Bool.and_eq_true, Bool.not_eq_true', writtenCells_any, Option.some.injEq, exists_eq_left']

/-- The bytes that one cell's record puts into the ring (R85). -/
theorem read_writeCell (m : Mem) (first k : Fin 16) {bs : Bytes} (whole : 16 ≤ bs.length) {b : Nat} (hb : b < 16) :
    (m.writeBytes (16 * first.val) (bs.take 16)).read (16 * k.val + b) =
      if k = first then bs.getD b 0 else m.read (16 * k.val + b) := by
  rw [read_writeBytes, List.length_take, Nat.min_eq_left whole]
  by_cases own : k = first
  · subst own
    rw [if_pos (by omega), if_pos rfl, Nat.add_sub_cancel_left, List.getD_eq_getElem?_getD, List.getD_eq_getElem?_getD,
      List.getElem?_take_of_lt hb]
  · rw [if_neg (by omega), if_neg own]

/-- Where a write of whole cells lands: the cells in order from the first, wrapping, and every other byte as before (R85). -/
theorem read_writeCellsAt (m : Mem) (first : Fin 16) (n : Nat) (bs : Bytes) (few : n ≤ 16) (length : bs.length = 16 * n)
    (k : Fin 16) {b : Nat} (hb : b < 16) : (writeCellsAt m first n bs).read (16 * k.val + b) =
      if (k - first).val < n then bs.getD (16 * (k - first).val + b) 0 else m.read (16 * k.val + b) := by
  induction n generalizing m first bs with
  | zero => rfl
  | succ n ih =>
    rw [writeCellsAt, ih _ _ _ (by omega) (by rw [List.length_drop, length]; omega), read_writeCell _ _ _ (by omega) hb]
    by_cases own : k = first
    · subst own
      rw [if_neg (by omega), if_pos rfl, if_pos (by omega)]
      simp
    · have next : (k - first).val = (k - (first + 1)).val + 1 := by omega
      rw [if_neg own, next]
      simp only [Nat.add_lt_add_iff_right, List.getD_eq_getElem?_getD, List.getElem?_drop]
      congr 3
      omega

/-! ### The commands -/

variable {s : State} {f : Face} {x : Transfer}

theorem taken_queue : ((taken s f x).face f).queue = (s.face f).queue := by
  rw [taken, modFace_face_same]

theorem exec_writeImage (ready : s.portReady f) (least : 3 ≤ x.bytes.length) (most : x.bytes.length ≤ 66) :
    exec (.writeImage f x) s = .next (
      if !(s.face f).queue.atRest then (taken s f x).answer f .busy 0x25 []
      else if 4096 < num16 x.bytes 0 + (x.bytes.length - 2) then (taken s f x).answer f .range 0x25 []
      else ((taken s f x).modFace f (fun c =>
        { c with image := c.image.writeBytes (num16 x.bytes 0) (x.bytes.drop 2) })).answer f .ok 0x25 []) := by
  have allowed : lengthAllowed 0x25 x.bytes.length = true := decide_eq_true ⟨least, most⟩
  rw [← taken_queue (x := x)]
  exact congrArg _ (request_taken _ ready allowed)

/-- The buffer after a WRITE_IMAGE: its bytes from the offset onward, every other byte as before (R80). -/
theorem read_image (m : Mem) (offset : Nat) (bs : Bytes) (a : Nat) :
    (m.writeBytes offset (bs.drop 2)).read a =
      if offset ≤ a ∧ a < offset + (bs.length - 2) then bs.getD (2 + (a - offset)) 0 else m.read a := by
  simp only [read_writeBytes, List.length_drop, List.getD_eq_getElem?_getD, List.getElem?_drop]

theorem exec_writeCells {n : Nat} (ready : s.portReady f) (least : 1 ≤ n) (most : n ≤ 4) (length : x.bytes.length = 1 + 16 * n) :
    exec (.writeCells f x) s = .next (
      match finOf 16 (num x.bytes 0) with
      | none => (taken s f x).answer f .range 0x20 []
      | some first =>
        if (s.face f).queue.writeBusy first n then (taken s f x).answer f .busy 0x20 []
        else ((taken s f x).modFace f (fun c => { c with queue :=
          { c.queue with ring := writeCellsAt c.queue.ring first n (x.bytes.drop 1) } })).answer f .ok 0x20 []) := by
  have cells : n = (x.bytes.length - 1) / 16 := by omega
  have allowed : lengthAllowed 0x20 x.bytes.length = true := decide_eq_true (by omega)
  rw [← taken_queue (x := x), cells]
  exact congrArg _ (request_taken _ ready allowed)

/-- Settles O30, by where `Mem.writeBytes` and `writeCellsAt` land and by the checks that come before them. -/
theorem buffersAreWritten : Obligations.BuffersAreWritten := by
  refine ⟨holds_iff, fun s f x ready => ⟨fun least most => ⟨fun rest => ⟨fun fits => ?_, fun past => ?_⟩, fun busy => ?_⟩,
    fun n least most length => ⟨fun first named => ⟨fun free => ?_, fun r i busy range inside holds => ?_⟩, fun out => ?_⟩⟩⟩
  · refine ⟨(s.face f).image.writeBytes (num16 x.bytes 0) (x.bytes.drop 2), ?_, read_image _ _ _⟩
    rw [exec_writeImage ready least most, (atRest_iff _).mpr rest, Bool.not_true, if_neg Bool.false_ne_true, if_neg (by omega),
      set_answer_taken ready]
    exact congrArg _ (modFace_congr rfl)
  · rw [exec_writeImage ready least most, (atRest_iff _).mpr rest, Bool.not_true, if_neg Bool.false_ne_true, if_pos past,
      answer_taken ready]
    rfl
  · rw [exec_writeImage ready least most, not_atRest busy, Bool.not_false, if_pos rfl, answer_taken ready]
    rfl
  · have clear : ¬(s.face f).queue.writeBusy first n = true := by
      rw [writeBusy_iff]
      rintro ⟨moving, r, range, i, inside, holds⟩
      rw [← or_assoc, ← atRest_iff, moving] at free
      rw [free.resolve_left Bool.false_ne_true r range i inside] at holds
      cases holds
    refine ⟨writeCellsAt (s.face f).queue.ring first n (x.bytes.drop 1), ?_, fun k b hb => ?_⟩
    · rw [exec_writeCells ready least most length, named, finOf_val]
      dsimp only
      rw [if_neg clear, set_answer_taken ready]
      exact congrArg _ (modFace_congr rfl)
    · rw [read_writeCellsAt _ _ _ _ (by omega) (by rw [List.length_drop, length]; omega) _ hb]
      simp only [List.getD_eq_getElem?_getD, List.getElem?_drop, Nat.add_assoc]
  · have touched : (s.face f).queue.writeBusy first n = true :=
      (writeBusy_iff _ _ _).mpr ⟨not_atRest busy, r, range, i, inside, holds⟩
    rw [exec_writeCells ready least most length, named, finOf_val]
    dsimp only
    rw [if_pos touched, answer_taken ready]
    rfl
  · rw [exec_writeCells ready least most length, finOf_none out]
    exact congrArg _ (answer_taken ready _ _ _)

end Sys2Proof.Machine.FacePorts
end

section
/-! PROOFS. What the soundness of the include stacks reads of a state (R96, R101), and the operations that leave it alone. -/

namespace Sys2Proof.Machine.DrawQueues

open Sys2Proof Sys2Proof.Machine Sys2Proof.Machine.UpdateTransactions Sys2Proof.Machine.NameOrder

/-! ### The view of the include stacks -/

/-- What the soundness of the include stacks reads of a state; `waits` tells that the segment's push waits for a copy. -/
structure Includes where
  holder : Option Claimant
  segment : Option Face
  waits : Bool
  stack : Face → List Level
  snapshot : Face → Option Snapshot
  use : Nat → Nat

def waitsForCopy : Stage → Bool
  | .pushing _ _ _ _ => true
  | _ => false

def includes (s : State) : Includes where
  holder := s.arbiter.holder
  segment := s.engine.segment.map Segment.face
  waits := s.engine.segment.any (fun g => waitsForCopy g.stage)
  stack := fun f => (s.face f).queue.stack
  snapshot := fun f => (s.face f).snapshot
  use := fun t => (s.template t).use

/-- The soundness of the include stacks, the engine's apart. -/
structure Includes.Sound (i : Includes) : Prop where
  holderOnly : ∀ f : Face, i.holder ≠ some (.face f) → i.stack f = [] ∧ i.snapshot f = none
  depth : ∀ f : Face, (i.stack f).length ≤ Config.maxDepth
  room : i.waits = true → ∀ f : Face, i.segment = some f → (i.stack f).length < Config.maxDepth
  uses : ∀ t : Nat, i.use t = ∑ f : Face, (i.stack f).countP (fun l => l.template == t)

theorem levelsIn_eq_sum (s : State) (t : Nat) :
    s.levelsIn t = ∑ f : Face, (s.face f).queue.stack.countP (fun l => l.template == t) := by
  simp [State.levelsIn, Fin.sum_univ_four]

theorem pushRoom_iff (s : State) (g : Segment) :
    s.pushRoom g ↔ (waitsForCopy g.stage = true → (s.face g.face).queue.stack.length < Config.maxDepth) := by
  unfold State.pushRoom
  cases g.stage <;> simp [waitsForCopy]

theorem stacksSound_iff {s : State} : s.StacksSound ↔ s.EngineSound ∧ (includes s).Sound := by
  constructor
  · intro h
    refine ⟨h.engine, h.holderOnly, h.depth, fun waits f face => ?_, fun t => (h.uses t).trans (levelsIn_eq_sum s t)⟩
    obtain ⟨g, segment, rfl⟩ := Option.map_eq_some_iff.mp face
    simp only [includes, segment, Option.any_some] at waits
    exact (pushRoom_iff s g).mp (h.room g segment) waits
  · rintro ⟨engine, i⟩
    refine ⟨engine, i.holderOnly, i.depth, fun g segment => (pushRoom_iff s g).mpr (fun waits => ?_),
      fun t => (i.uses t).trans (levelsIn_eq_sum s t).symm⟩
    exact i.room (by simp [includes, segment, waits]) g.face (by simp [includes, segment])

/-- Nobody has a level or a snapshot, and no template is in use. -/
structure Includes.Empty (i : Includes) : Prop where
  faces : ∀ f : Face, i.stack f = [] ∧ i.snapshot f = none
  unused : ∀ t : Nat, i.use t = 0

/-- A face holds the engine for its segment, and every level is its own (R96, R101). -/
structure Includes.HeldBy (i : Includes) (f : Face) : Prop where
  holder : i.holder = some (.face f)
  segment : i.segment = some f
  others : ∀ h : Face, h ≠ f → i.stack h = [] ∧ i.snapshot h = none
  depth : (i.stack f).length ≤ Config.maxDepth
  room : i.waits = true → (i.stack f).length < Config.maxDepth
  uses : ∀ t : Nat, i.use t = (i.stack f).countP (fun l => l.template == t)

theorem Includes.Empty.sound {i : Includes} (h : i.Empty) : i.Sound := by
  refine ⟨fun f _ => h.faces f, fun f => ?_, fun _ f _ => ?_, fun t => ?_⟩
  · rw [(h.faces f).1]; decide
  · rw [(h.faces f).1]; decide
  · simp [h.unused, fun f => (h.faces f).1]

theorem Includes.Sound.empty {i : Includes} (h : i.Sound) (free : ∀ f : Face, i.holder ≠ some (.face f)) : i.Empty := by
  have faces (f : Face) := h.holderOnly f (free f)
  exact ⟨faces, fun t => by simp [h.uses, fun f => (faces f).1]⟩

/-- The levels over the four faces are those of the one face that has any. -/
theorem sum_levels {stack : Face → List Level} {f : Face} (others : ∀ h : Face, h ≠ f → stack h = []) (t : Nat) :
    ∑ h : Face, (stack h).countP (fun l => l.template == t) = (stack f).countP (fun l => l.template == t) := by
  refine Finset.sum_eq_single f (fun h _ other => ?_) (fun absent => absurd (Finset.mem_univ f) absent)
  rw [others h other]
  rfl

theorem Includes.HeldBy.sound {i : Includes} {f : Face} (h : i.HeldBy f) : i.Sound := by
  refine ⟨fun g free => h.others g (fun own => free (own ▸ h.holder)), fun g => ?_, fun waits g segment => ?_, fun t => ?_⟩
  · by_cases own : g = f
    · exact own ▸ h.depth
    · rw [(h.others g own).1]; decide
  · cases h.segment.symm.trans segment
    exact h.room waits
  · rw [h.uses, sum_levels (fun g other => (h.others g other).1)]

theorem Includes.Sound.heldBy {i : Includes} {f : Face} (h : i.Sound) (holder : i.holder = some (.face f))
    (segment : i.segment = some f) : i.HeldBy f := by
  have others (g : Face) (other : g ≠ f) : i.stack g = [] ∧ i.snapshot g = none :=
    h.holderOnly g (by rw [holder]; simpa using Ne.symm other)
  refine ⟨holder, segment, others, h.depth f, fun waits => h.room waits f segment, fun t => ?_⟩
  rw [h.uses, sum_levels (fun g other => (others g other).1)]

/-! ### Changes of faces -/

theorem includes_of_outside {s t : State} (outside : s.SameOutsideFaces t)
    (faces : ∀ f, (t.face f).queue.stack = (s.face f).queue.stack ∧ (t.face f).snapshot = (s.face f).snapshot) :
    includes t = includes s := by
  have stack : (includes t).stack = (includes s).stack := funext (fun f => (faces f).1)
  have snapshot : (includes t).snapshot = (includes s).snapshot := funext (fun f => (faces f).2)
  calc includes t = { includes s with stack := (includes t).stack, snapshot := (includes t).snapshot } := by rw [outside]; rfl
    _ = includes s := by rw [stack, snapshot]

@[simp] theorem modFace_includes (s : State) (f : Face) (g : FaceContext → FaceContext)
    (stack : (g (s.face f)).queue.stack = (s.face f).queue.stack) (snapshot : (g (s.face f)).snapshot = (s.face f).snapshot) :
    includes (s.modFace f g) = includes s := by
  refine includes_of_outside (modFace_outside s f g) (fun h => ?_)
  rw [modFace_face]
  split
  · next own => subst own; exact ⟨stack, snapshot⟩
  · exact ⟨rfl, rfl⟩

@[simp] theorem mapFaces_includes (s : State) (g : Face → FaceContext → FaceContext)
    (same : ∀ f, (g f (s.face f)).queue.stack = (s.face f).queue.stack ∧ (g f (s.face f)).snapshot = (s.face f).snapshot) :
    includes (s.mapFaces g) = includes s :=
  includes_of_outside (mapFaces_outside s g) (fun f => by rw [mapFaces_face]; exact same f)

@[simp] theorem modQueue_includes (s : State) (f : Face) (u : Queue → Queue)
    (same : (u (s.face f).queue).stack = (s.face f).queue.stack) : includes (s.modQueue f u) = includes s :=
  modFace_includes s f _ same rfl

/-- A part of the contexts after one face is changed. -/
theorem modFace_part {α : Type} (s : State) (f : Face) (g : FaceContext → FaceContext) (part : FaceContext → α) :
    (fun h => part ((s.modFace f g).face h)) = Function.update (fun h => part (s.face h)) f (part (g (s.face f))) := by
  funext h
  rw [Function.update_apply, modFace_face]
  by_cases own : f = h
  · subst own; simp
  · simp [own, Ne.symm own]

/-- The stack and the snapshot of one face replaced. -/
theorem modFace_includes_eq (s : State) (f : Face) (g : FaceContext → FaceContext) :
    includes (s.modFace f g) = { includes s with
      stack := Function.update (includes s).stack f (g (s.face f)).queue.stack
      snapshot := Function.update (includes s).snapshot f (g (s.face f)).snapshot } := by
  have stack : (includes (s.modFace f g)).stack = Function.update (includes s).stack f (g (s.face f)).queue.stack :=
    modFace_part s f g (fun c => c.queue.stack)
  have snapshot : (includes (s.modFace f g)).snapshot = Function.update (includes s).snapshot f (g (s.face f)).snapshot :=
    modFace_part s f g (fun c => c.snapshot)
  calc includes (s.modFace f g)
      = { includes s with stack := (includes (s.modFace f g)).stack, snapshot := (includes (s.modFace f g)).snapshot } := rfl
    _ = _ := by rw [stack, snapshot]

@[simp] theorem raise_includes (s : State) (f : Face) (e : Event) : includes (s.raise f e) = includes s := by
  rw [raise_eq]
  exact modFace_includes s f _ rfl rfl

@[simp] theorem raiseIf_includes (s : State) (b : Bool) (f : Face) (e : Event) : includes (s.raiseIf b f e) = includes s := by
  cases b with
  | true => exact raise_includes s f e
  | false => rfl

@[simp] theorem raiseAll_includes (s : State) (e : Event) : includes (s.raiseAll e) = includes s :=
  includes_of_outside (raiseAll_outside s e) (fun f => by rw [raiseAll_face]; exact ⟨rfl, rfl⟩)

/-! ### Requests -/

@[simp] theorem answer_includes (s : State) (f : Face) (code : ReplyCode) (request : Byte) (results : Bytes) :
    includes (s.answer f code request results) = includes s := by
  rw [answer_eq]
  exact modFace_includes s f _ rfl rfl

@[simp] theorem hold_includes (s : State) (f : Face) (h : HeldRequest) : includes (s.hold f h) = includes s :=
  modFace_includes s f _ rfl rfl

/-- What holds of the view holds after a request whose owner keeps it. -/
theorem request_includes {P : Includes → Prop} {s : State} {own : State → State} (f : Face) (code : Byte) (known : Bool)
    (x : Transfer) (holds : P (includes s))
    (owner : ∀ t, includes t = includes s → control t = control s → P (includes (own t))) :
    P (includes (s.request f code known x own)) := by
  have shift : includes (s.requestShift f x) = includes s := modFace_includes s f _ rfl rfl
  have refused (r : ReplyCode) : includes ((s.requestShift f x).fillReply f r code []) = includes s := by
    rw [State.fillReply, raise_includes, modFace_includes _ _ _ rfl rfl, shift]
  obtain ⟨-, h⟩ | ⟨-, -, h⟩ | ⟨-, -, ⟨r, -, h⟩ | ⟨-, h⟩⟩ := request_cases s f code known x own <;> rw [h]
  · rw [refused]; exact holds
  · rw [shift]; exact holds
  · rw [refused]; exact holds
  · refine owner _ ((modFace_includes _ f _ rfl rfl).trans shift) (by simp)

/-- A request whose owner leaves the view leaves it. -/
theorem request_stacks {s : State} {own : State → State} (f : Face) (code : Byte) (known : Bool) (x : Transfer)
    (owner : ∀ t, includes (own t) = includes t) : includes (s.request f code known x own) = includes s :=
  request_includes (P := fun i => i = includes s) f code known x rfl (fun t same _ => (owner t).trans same)

theorem answerRequest_includes (s : State) (f : Face) {h : HeldRequest} (read : h ≠ .resetFace) :
    includes (s.answerRequest f h) = includes s := by
  cases h with
  | resetFace => contradiction
  | _ => exact answer_includes s f _ _ _

theorem takeQuery_includes (s : State) (f : Face) {h : HeldRequest} (read : h ≠ .resetFace) :
    includes (s.takeQuery f h) = includes s := by
  unfold State.takeQuery
  split
  · exact hold_includes s f h
  · exact answerRequest_includes s f read

theorem takeSlotRead_includes (s : State) (f : Face) {h : HeldRequest} (read : h ≠ .resetFace) :
    includes (s.takeSlotRead f h) = includes s := by
  unfold State.takeSlotRead
  split
  · exact hold_includes s f h
  · exact answerRequest_includes s f read

theorem query_includes (s : State) (f : Face) (code : Byte) {q : Option HeldRequest} (read : q ≠ some .resetFace) :
    includes (s.query f code q) = includes s := by
  cases q with
  | none => exact answer_includes s f _ _ _
  | some h => exact takeQuery_includes s f (fun same => read (same ▸ rfl))

theorem answerQueries_includes (s : State) : includes (s.answerAllHeld HeldRequest.isQuery) = includes s := by
  refine includes_of_outside (answerAllHeld_outside s _) (fun f => ?_)
  rw [answerAllHeld_face]
  cases held : (s.face f).port.inProgress with
  | none => rw [answerHeld_of_none _ held]; exact ⟨rfl, rfl⟩
  | some h =>
    rw [answerHeld_of_some _ held]
    split
    · next query =>
      rw [answerRequest_face, if_neg (by rintro rfl; cases query)]
      exact ⟨rfl, rfl⟩
    · exact ⟨rfl, rfl⟩

/-! ### Changes of one block -/

@[simp] theorem modTrunk_includes (s : State) (g : Trunk → Trunk) : includes (s.modTrunk g) = includes s := rfl

@[simp] theorem modEvac_includes (s : State) (g : Evac → Evac) : includes (s.modEvac g) = includes s := rfl

@[simp] theorem modUpdate_includes (s : State) (g : Update → Update) : includes (s.modUpdate g) = includes s := rfl

@[simp] theorem setJobs_includes (s : State) (jobs : List Job) : includes (s.setJobs jobs) = includes s := rfl

@[simp] theorem modSupervisor_includes (s : State) (f : Face) (g : Supervisor → Supervisor) :
    includes (s.modSupervisor f g) = includes s := modFace_includes s f _ rfl rfl

@[simp] theorem arbitrate_includes (s : State) : includes s.arbitrate = includes s := by
  rw [arbitrate_eq]; rfl

/-- A change of the segment that leaves it its face and its stage. -/
theorem modSegment_includes (s : State) (g : Segment → Segment) (same : ∀ x, (g x).face = x.face ∧ (g x).stage = x.stage) :
    includes (s.modSegment g) = includes s := by
  unfold State.modSegment includes
  cases s.engine.segment with
  | none => rfl
  | some x =>
    obtain ⟨face, stage⟩ := same x
    simp only [Option.map_some, Option.any_some, face, stage]
    rfl

@[simp] theorem notePulse_includes (s : State) (f : Face) : includes (s.notePulse f) = includes s := by
  refine modSegment_includes s (fun g => if g.face = f then { g with pulsed := true } else g) (fun g => ?_)
  split <;> exact ⟨rfl, rfl⟩

/-- A template whose use count is kept. -/
theorem setTemplate_includes (s : State) (t : Nat) (v : Template) (use : v.use = (s.template t).use) :
    includes (s.setTemplate t v) = includes s := by
  have uses : (includes (s.setTemplate t v)).use = (includes s).use := by
    funext k
    show ((s.setTemplate t v).template k).use = _
    rw [setTemplate_template]
    split
    · next own => rw [use, own]; rfl
    · rfl
  exact congrArg (fun u => { includes s with use := u }) uses

@[simp] theorem commitDone_includes (s : State) : includes s.commitDone = includes s := by
  unfold State.commitDone
  split <;> rfl

end Sys2Proof.Machine.DrawQueues
end

section
/-! PROOFS. The operations of the blocks that leave the view of the include stacks, and the commands that do. -/

namespace Sys2Proof.Machine.DrawQueues

open Sys2Proof Sys2Proof.Machine Sys2Proof.Machine.UpdateTransactions Sys2Proof.Machine.NameOrder

/-! ### Queues and supervision -/

/-- A halt from outside moves no level (R92). -/
theorem haltedBy_stack (q : Queue) (r : HaltReason) : (q.haltedBy r).stack = q.stack := by
  unfold Queue.haltedBy
  split <;> rfl

theorem completed_stack (q : Queue) : q.completed.stack = q.stack := by
  unfold Queue.completed
  split <;> rfl

@[simp] theorem haltQueues_includes (s : State) (r : HaltReason) : includes (s.haltQueues r) = includes s :=
  mapFaces_includes s _ (fun _ => ⟨haltedBy_stack _ r, rfl⟩)

theorem stopQueue_includes (s : State) (f : Face) : includes (s.stopQueue f) = includes s := by
  have idled : includes ((s.modQueue f Queue.idled).raise f .queueIdle) = includes s := by
    rw [raise_includes, modQueue_includes s f _ rfl]
  unfold State.stopQueue
  split
  · rfl
  · exact idled
  · exact idled
  · exact idled
  · exact modQueue_includes s f _ rfl

theorem waitFrameDone_includes (s : State) (f : Face) : includes (s.waitFrameDone f) = includes s := by
  unfold State.waitFrameDone
  dsimp only
  split
  · rw [raiseIf_includes, modQueue_includes _ f _ (completed_stack _), raiseIf_includes]
  · rfl

theorem frameStart_includes (s : State) (f : Face) : includes (s.frameStart f) = includes s := by
  unfold State.frameStart
  rw [arbitrate_includes, waitFrameDone_includes]
  exact modFace_includes s f _ rfl rfl

theorem withdraw_includes (s : State) (f : Face) : includes (s.withdraw f) = includes s := by
  unfold State.withdraw
  rw [arbitrate_includes, notePulse_includes]
  exact modFace_includes s f _ (haltedBy_stack _ _) rfl

theorem windowExpired_includes (s : State) (f : Face) : includes (s.windowExpired f) = includes s := by
  unfold State.windowExpired
  dsimp only
  split <;> simp

theorem kicked_includes (s : State) (f : Face) : includes (s.kicked f).1 = includes s := by
  unfold State.kicked
  split <;> simp [State.readmit]

/-! ### Scan-out and start-up -/

theorem scanTick_includes (s : State) : includes s.scanTick = includes s := mapFaces_includes s _ (fun _ => ⟨rfl, rfl⟩)

theorem loadEnd_includes (s : State) : includes s.loadEnd = includes s := by
  refine mapFaces_includes s (fun f c => c.intoService s.loader.taken s.loader.taken.enabled[f]) (fun f => ?_)
  cases s.loader.taken.enabled[f] <;> exact ⟨rfl, rfl⟩

theorem tryLoadEnd_includes (s : State) : includes s.tryLoadEnd = includes s := by
  unfold State.tryLoadEnd
  split
  · exact loadEnd_includes s
  · rfl

theorem readEnd_includes (s : State) (st : LoaderState) (taken : Settings) : includes (s.readEnd st taken) = includes s := by
  unfold State.readEnd
  split
  · exact tryLoadEnd_includes _
  · rfl

/-! ### Evacuation -/

@[simp] theorem startView_includes (s : State) : includes s.startView = includes s :=
  mapFaces_includes s (fun f c => if s.enabled f then { c with palette := { c.palette with evacuation := _, source := .evacuation } } else c)
    (fun f => by split <;> exact ⟨rfl, rfl⟩)

@[simp] theorem startRelease_includes (s : State) : includes s.startRelease = includes s := rfl

theorem takeover_includes (s : State) : includes s.takeover = includes s := by
  unfold State.takeover
  rw [arbitrate_includes, modEvac_includes, haltQueues_includes]

theorem redrawCause_includes (s : State) : includes s.redrawCause = includes s := by
  unfold State.redrawCause
  split <;> simp

theorem lookSources_includes (s : State) : includes s.lookSources = includes s := by
  unfold State.lookSources
  split
  · split
    · exact takeover_includes s
    · rfl
  · split <;> rfl
  · split_ifs
    · exact redrawCause_includes s
    · rfl
    · rfl
    · rfl
  · rfl

theorem shownCommit_includes (s : State) : includes s.shownCommit = includes s := by
  unfold State.shownCommit
  split
  · split <;> rfl
  · exact redrawCause_includes s
  · rfl
  · rfl

@[simp] theorem noticeEntry_includes (s : State) (n : Nat) : includes (s.noticeEntry n) = includes s := by
  unfold State.noticeEntry
  split
  · split
    · exact shownCommit_includes s
    · rfl
  · rfl

@[simp] theorem noticePlan_includes (s : State) (z : Nat) : includes (s.noticePlan z) = includes s := by
  unfold State.noticePlan
  split
  · exact shownCommit_includes s
  · rfl

theorem afterDrawing_includes (s : State) : includes s.afterDrawing = includes s := by
  unfold State.afterDrawing
  split_ifs <;> simp

theorem viewEnd_includes (s : State) : includes s.viewEnd = includes s := by
  unfold State.viewEnd
  dsimp only
  split <;> simp [afterDrawing_includes]

theorem cycleExpiry_includes (s : State) : includes s.cycleExpiry = includes s := by
  unfold State.cycleExpiry
  split <;> rfl

/-! ### Commits -/

/-- A commit to a template moves no use count (R37). -/
theorem templateCommit_includes (s : State) (x : Txn) : includes (s.templateCommit x) = includes s := by
  have kept (cells : Option Mem) := setTemplate_includes s x.number ⟨cells, (s.template x.number).use⟩ rfl
  by_cases op : x.op = .load
  · rw [templateCommit_load op]
    exact kept (some ((s.template x.number).cells.getD []))
  · rw [templateCommit_of_not_load op, raiseAll_includes, commitDone_includes]
    exact kept _

theorem releaseDeferred_includes (s : State) : includes s.releaseDeferred = includes s := by
  unfold State.releaseDeferred
  split
  · split
    · exact templateCommit_includes s _
    · rfl
  · rfl

theorem commitNotice_includes (s : State) (n : Nat) (new : EntryState) : includes (s.commitNotice n new) = includes s := by
  have latched (c : FaceContext) (b : Bool) (e : Event) :
      (c.latchIf b e).queue = c.queue ∧ (c.latchIf b e).snapshot = c.snapshot := by cases b <;> exact ⟨rfl, rfl⟩
  exact mapFaces_includes s _ (fun f => by simp [FaceContext.notice, latched])

theorem entryCommit_includes (s : State) (x : Txn) : includes (s.entryCommit x) = includes s := by
  simp only [State.entryCommit, noticeEntry_includes, raiseAll_includes, commitNotice_includes]
  rfl

theorem glyphCommit_includes (s : State) (x : Txn) : includes (s.glyphCommit x) = includes s := by
  unfold State.glyphCommit
  split
  · rfl
  · rw [raiseAll_includes, commitDone_includes]
    rfl

theorem startCommit_includes (s : State) (x : Txn) : includes (s.startCommit x) = includes s := by
  unfold State.startCommit
  split
  · exact entryCommit_includes _ x
  · exact templateCommit_includes _ x
  · exact glyphCommit_includes _ x
  · simp only [State.languageCommit, raiseAll_includes, commitDone_includes]
    rfl
  · simp only [State.planCommit, noticePlan_includes, commitDone_includes]
    rfl

/-- A held glyph request that is answered draws on; the include stacks wait for nothing of it. -/
theorem answerGlyph_includes (s : State) : includes s.answerGlyph = includes s := by
  unfold State.answerGlyph
  split
  · split <;> rfl
  · rfl

theorem glyphCopied_includes (s : State) (p : Nat) : includes (s.glyphCopied p) = includes s := by
  simp only [State.glyphCopied, answerGlyph_includes, raiseAll_includes, commitDone_includes]
  rfl

theorem templateCopied_includes (s : State) (t : Nat) : includes (s.templateCopied t) = includes s := by
  simp only [State.templateCopied, raiseAll_includes, commitDone_includes]
  exact setTemplate_includes s t ⟨some s.staged, (s.template t).use⟩ rfl

/-! ### Trunk frames -/

/-- A trunk command whose action leaves the view leaves it. -/
theorem trunkFrame_includes {s : State} (feed : Feed) (mine : Byte → Bool) {act : State → Bytes → State × TrunkReply}
    (action : ∀ t data, includes (act t data).1 = includes t) : includes (s.trunkFrame feed mine act) = includes s := by
  unfold State.trunkFrame
  split
  · rfl
  · split
    · unfold State.actOn
      dsimp only
      split <;> exact action { s with trunk := _ } _
    · rfl

theorem withLength_includes {n : Nat} {act : State → Bytes → State × TrunkReply} (s : State) (data : Bytes)
    (action : includes (act s data).1 = includes s) : includes (withLength n act s data).1 = includes s := by
  obtain same | acts := withLength_state n act s data
  · rw [same]
  · rw [acts]; exact action

@[simp] theorem endTxn_includes (s : State) (o : TxnOutcome) : includes (s.endTxn o) = includes s := by
  unfold State.endTxn
  split <;> rfl

theorem openChecked_includes (s : State) (data : Bytes) : includes (s.openChecked data).1 = includes s := by
  unfold State.openChecked
  dsimp only
  split
  · split_ifs <;> rfl
  · rfl

theorem openTxn_includes (s : State) (data : Bytes) : includes (s.openTxn data).1 = includes s := by
  have displaced : includes (if s.update.state = .staging then s.endTxn .displaced else s) = includes s := by
    split
    · exact endTxn_includes s _
    · rfl
  unfold State.openTxn
  dsimp only
  split
  · exact displaced
  · split
    · exact displaced
    · exact displaced
    · exact (openChecked_includes _ data).trans displaced
    · exact (openChecked_includes _ data).trans displaced

theorem chunk_includes (s : State) (data : Bytes) : includes (s.chunk data).1 = includes s := by
  unfold State.chunk
  split
  · rw [nakState_state]
  · split
    · rfl
    · split
      · rfl
      · split <;> rfl

theorem stageFrame_includes (s : State) (data : Bytes) : includes (s.stageFrame data).1 = includes s := by
  unfold State.stageFrame
  split_ifs
  · rw [nakState_state]
  · rfl
  · rfl
  · rfl
  · split
    · rfl
    · exact endTxn_includes s _

theorem close_includes (s : State) (data : Bytes) : includes (s.close data).1 = includes s := by
  unfold State.close
  split
  · split_ifs
    · rfl
    · exact endTxn_includes s _
    · exact endTxn_includes s _
    · rfl
    · exact startCommit_includes s _
  · rw [nakState_state]

theorem abandon_includes (s : State) : includes s.abandon.1 = includes s := by
  unfold State.abandon
  split
  · exact endTxn_includes s _
  · exact endTxn_includes s _
  · rw [nakState_state]
  · rw [nakState_state]

theorem purge_includes (s : State) : includes s.purge.1 = includes s := by
  obtain same | ⟨-, -, -, accepts⟩ := purge_cases s
  · rw [same]
  · simp [accepts, State.acceptPurge]

theorem alarm_includes (s : State) (data : Bytes) : includes (s.alarm data).1 = includes s := by
  unfold State.alarm
  split
  · rfl
  · split
    · rfl
    · exact lookSources_includes _

theorem allClear_includes (s : State) : includes s.allClear.1 = includes s := by
  unfold State.allClear
  split
  · rfl
  · exact lookSources_includes _

/-! ### The commands that leave the stacks -/

/-- The commands that neither move a level, a snapshot or a use count, nor change who holds the engine, whatever the state. -/
def leavesStacks : Instr → Bool
  | .fullReset | .resetFace _ _ | .faceGrant | .templateCellStep | .pixelGroupWrite _ | .routeEraseDone | .segmentCompletion
  | .segmentFault | .templateCopyDone | .purgeGrant | .purgeEnd | .cutoffExpiry | .ecGrant | .blankDrawingEnd => false
  | _ => true

theorem ite_includes {s t : State} {p : Prop} [Decidable p] (same : includes t = includes s) :
    includes (if p then t else s) = includes s := by
  split
  · exact same
  · rfl

/-- The requests of a face's context, its supervisor and its events. -/
theorem contextRequest_includes {s t : State} {c : Instr}
    (own : c matches .status .. | .kick .. | .readEvents .. | .setMask .. | .readFault .. | .writeImage .. | .setMap ..
      | .setLanguage .. | .setPalette .. | .unknownRequestCode ..) (next : exec c s = .next t) : includes t = includes s := by
  cases c with
  | status f x => cases next; exact request_stacks f _ _ x (fun u => answer_includes u f _ _ _)
  | kick f x => cases next; exact request_stacks f _ _ x (fun u => by rw [answer_includes, kicked_includes])
  | readEvents f x => cases next; exact request_stacks f _ _ x (fun u => modFace_includes u f _ rfl rfl)
  | setMask f x => cases next; exact request_stacks f _ _ x (fun u => by simp)
  | readFault f x => cases next; exact request_stacks f _ _ x (fun u => answer_includes u f _ _ _)
  | writeImage f x => cases next; exact request_stacks f _ _ x (fun u => by split_ifs <;> simp)
  | setMap f x => cases next; exact request_stacks f _ _ x (fun u => by split_ifs <;> simp)
  | setLanguage f x => cases next; exact request_stacks f _ _ x (fun u => by split <;> simp)
  | setPalette f x => cases next; exact request_stacks f _ _ x (fun u => by split_ifs <;> simp)
  | unknownRequestCode f code x => cases next; exact request_stacks f _ _ x (fun _ => rfl)
  | _ => cases own

/-- The requests of the queue: they touch the ring, the range and the state, and no level. -/
theorem queueRequest_includes {s t : State} {c : Instr} (own : c matches .writeCells .. | .start .. | .append .. | .stop ..)
    (next : exec c s = .next t) : includes t = includes s := by
  cases c with
  | writeCells f x =>
    cases next
    refine request_stacks f _ _ x (fun u => ?_)
    split
    · simp
    · split <;> simp
  | start f x =>
    cases next
    refine request_stacks f _ _ x (fun u => ?_)
    split
    · split_ifs <;> simp [Queue.started]
    · simp
  | append f x =>
    cases next
    refine request_stacks f _ _ x (fun u => ?_)
    split
    · simp
    · split
      · simp
      · split
        · simp
        · split <;> simp
  | stop f x => cases next; exact request_stacks f _ _ x (fun u => by simp [stopQueue_includes])
  | _ => cases own

theorem readRequest_includes {s t : State} {c : Instr}
    (read : c matches .readEntry .. | .listWindow .. | .findPrefix .. | .readSlots .. | .hitTest ..) (next : exec c s = .next t) :
    includes t = includes s := by
  cases c with
  | readEntry f x => cases next; exact request_stacks f _ _ x (fun u => query_includes u f _ (readEntryQuery_ne _))
  | listWindow f x => cases next; exact request_stacks f _ _ x (fun u => query_includes u f _ (listWindowQuery_ne _))
  | findPrefix f x => cases next; exact request_stacks f _ _ x (fun u => query_includes u f _ (findPrefixQuery_ne _))
  | readSlots f x => cases next; exact request_stacks f _ _ x (fun u => takeSlotRead_includes u f (by simp))
  | hitTest f x =>
    cases next
    refine request_stacks f _ _ x (fun u => ?_)
    split
    · simp
    · exact takeSlotRead_includes u f (by simp)
  | _ => cases read

/-- The frames of the trunk, whether or not one is taken. -/
theorem trunk_includes {s t : State} {c : Instr}
    (trunk : c matches .openFrame .. | .chunkFrame .. | .waypointsFrame .. | .closeFrame .. | .abandonFrame .. | .purgeFrame ..
      | .alarmFrame .. | .allClearFrame .. | .pollFrame .. | .unknownFrameKind .. | .trunkFrameDropped .. | .trunkFrameTimeout ..)
    (next : exec c s = .next t) : includes t = includes s := by
  cases c with
  | openFrame feed => cases next; exact trunkFrame_includes feed _ openTxn_includes
  | chunkFrame feed => cases next; exact trunkFrame_includes feed _ chunk_includes
  | waypointsFrame feed => cases next; exact trunkFrame_includes feed _ stageFrame_includes
  | closeFrame feed => cases next; exact trunkFrame_includes feed _ close_includes
  | abandonFrame feed => cases next; exact trunkFrame_includes feed _ (fun u data => withLength_includes u data (abandon_includes u))
  | purgeFrame feed => cases next; exact trunkFrame_includes feed _ (fun u data => withLength_includes u data (purge_includes u))
  | alarmFrame feed => cases next; exact trunkFrame_includes feed _ (fun u data => withLength_includes u data (alarm_includes u data))
  | allClearFrame feed => cases next; exact trunkFrame_includes feed _ (fun u data => withLength_includes u data (allClear_includes u))
  | pollFrame feed =>
    cases next; exact trunkFrame_includes feed _ (fun u data => withLength_includes u data (by rw [poll_state]))
  | unknownFrameKind feed => cases next; exact trunkFrame_includes feed _ (fun _ _ => rfl)
  | trunkFrameDropped feed => cases next; split <;> rfl
  | trunkFrameTimeout feed => cases next; split <;> rfl
  | _ => cases trunk

theorem exec_leavesStacks {s t : State} {c : Instr} (still : leavesStacks c = true) (next : exec c s = .next t) :
    includes t = includes s := by
  cases c with
  | status | kick | readEvents | setMask | readFault | writeImage | setMap | setLanguage | setPalette | unknownRequestCode =>
    exact contextRequest_includes rfl next
  | writeCells | start | append | stop => exact queueRequest_includes rfl next
  | readEntry | listWindow | findPrefix | readSlots | hitTest => exact readRequest_includes rfl next
  | openFrame | chunkFrame | waypointsFrame | closeFrame | abandonFrame | purgeFrame | alarmFrame | allClearFrame | pollFrame
  | unknownFrameKind | trunkFrameDropped | trunkFrameTimeout => exact trunk_includes rfl next
  | resetRelease => cases next; exact ite_includes rfl
  | configReadComplete bytes => cases next; split <;> exact readEnd_includes s _ _
  | configNoAcknowledge => cases next; exact readEnd_includes s _ _
  | configLimitExpiry => cases next; exact readEnd_includes s _ _
  | planeClearDone => cases next; exact ite_includes (tryLoadEnd_includes _)
  | turnaroundEnd => cases next; exact ite_includes rfl
  | replyEnd => cases next; exact ite_includes rfl
  | fetch f clocked =>
    cases next
    have shift (bs : Bytes) : includes (s.shiftOut f bs) = includes s := modFace_includes s f _ rfl rfl
    split
    · exact (modFace_includes _ f _ rfl rfl).trans (shift _)
    · exact shift _
  | repositionDone =>
    cases next
    split
    · rw [answerQueries_includes, commitDone_includes]; rfl
    · rfl
  | glyphCopyDone =>
    cases next
    split
    · exact glyphCopied_includes s _
    · rfl
  | frameStart f => cases next; exact ite_includes (frameStart_includes s f)
  | waitTimeExpiry f => cases next; exact ite_includes (withdraw_includes s f)
  | pulseTimeExpiry f => cases next; exact ite_includes (modSupervisor_includes s f _)
  | recoveryWindowExpiry f => cases next; exact ite_includes (windowExpired_includes s f)
  | evacLineChange => cases next; rfl
  | lineDebounceExpiry =>
    cases next
    refine ite_includes ?_
    dsimp only
    split
    · rfl
    · exact lookSources_includes _
  | viewDrawingEnd => cases next; exact ite_includes (viewEnd_includes s)
  | cycleTimerExpiry => cases next; exact ite_includes (cycleExpiry_includes s)
  | bandDrawingEnd => cases next; exact ite_includes (afterDrawing_includes _)
  | _ => cases still

end Sys2Proof.Machine.DrawQueues
end

section
/-! PROOFS. The course of a segment keeps the include stacks sound: its cells, its pixel groups and its end (R96 to R101, R114). -/

namespace Sys2Proof.Machine.DrawQueues

open Sys2Proof Sys2Proof.Machine Sys2Proof.Machine.UpdateTransactions Sys2Proof.Machine.NameOrder

/-! ### Changes of the view that a holder may make -/

/-- The levels inside a template are counted by the templates of a stack alone. -/
theorem countP_template (ls : List Level) (t : Nat) :
    ls.countP (fun l => l.template == t) = (ls.map Level.template).count t := by
  rw [List.count, List.countP_map]
  rfl

variable {i : Includes} {f : Face}

/-- The holder's levels may change as long as their templates do not, and its snapshot may come. -/
theorem Includes.HeldBy.changed (h : i.HeldBy f) {ls : List Level} (snapshot : Option Snapshot)
    (same : ls.map Level.template = (i.stack f).map Level.template) :
    ({ i with stack := Function.update i.stack f ls, snapshot := Function.update i.snapshot f snapshot } : Includes).HeldBy f := by
  have length : ls.length = (i.stack f).length := by simpa using congrArg List.length same
  refine ⟨h.holder, h.segment, fun g other => ?_, ?_, fun waits => ?_, fun t => ?_⟩
  · simpa [Function.update_apply, other] using h.others g other
  · simpa [length] using h.depth
  · simpa [length] using h.room waits
  · simpa [countP_template, same] using h.uses t

/-- A level more, with its template's use counted (R97). -/
theorem Includes.HeldBy.pushed (h : i.HeldBy f) (l : Level) (room : (i.stack f).length < Config.maxDepth) :
    ({ i with waits := false, stack := Function.update i.stack f (l :: i.stack f)
              use := Function.update i.use l.template (i.use l.template + 1) } : Includes).HeldBy f := by
  refine ⟨h.holder, h.segment, fun g other => ?_, ?_, nofun, fun t => ?_⟩
  · simpa [Function.update_apply, other] using h.others g other
  · simpa using room
  · by_cases own : l.template = t
    · subst own; simp [h.uses]
    · simp [own, Ne.symm own, h.uses]

/-- A level less, with its template's use returned (R99). -/
theorem Includes.HeldBy.popped (h : i.HeldBy f) {l : Level} {below ls : List Level} (stack : i.stack f = l :: below)
    (same : ls.map Level.template = below.map Level.template) :
    ({ i with stack := Function.update i.stack f ls, use := Function.update i.use l.template (i.use l.template - 1) } : Includes).HeldBy
      f := by
  have length : ls.length = below.length := by simpa using congrArg List.length same
  have deeper : (i.stack f).length = below.length + 1 := by rw [stack]; rfl
  refine ⟨h.holder, h.segment, fun g other => ?_, ?_, fun waits => ?_, fun t => ?_⟩
  · simpa [Function.update_apply, other] using h.others g other
  · have := h.depth
    simp only [Function.update_self]; omega
  · have := h.room waits
    simp only [Function.update_self]; omega
  · have uses := h.uses t
    rw [stack, countP_template] at uses
    by_cases own : l.template = t
    · subst own; simp [uses, countP_template, same]
    · simp [own, Ne.symm own, uses, countP_template, same]

theorem Includes.HeldBy.waiting (h : i.HeldBy f) {waits : Bool} (room : waits = true → (i.stack f).length < Config.maxDepth) :
    ({ i with waits := waits } : Includes).HeldBy f :=
  ⟨h.holder, h.segment, h.others, h.depth, room, h.uses⟩

/-! ### The operations of a segment -/

variable {s : State}

theorem modFace_held (h : (includes s).HeldBy f) (g : FaceContext → FaceContext)
    (same : (g (s.face f)).queue.stack.map Level.template = (s.face f).queue.stack.map Level.template) :
    (includes (s.modFace f g)).HeldBy f := by
  rw [modFace_includes_eq]
  exact h.changed _ same

/-- A change of the segment's stage. -/
theorem modSegment_waits (s : State) (g : Segment → Segment) (face : ∀ x, (g x).face = x.face) :
    includes (s.modSegment g) = { includes s with waits := s.engine.segment.any (fun x => waitsForCopy (g x).stage) } := by
  unfold State.modSegment includes
  cases s.engine.segment with
  | none => rfl
  | some x =>
    simp only [Option.map_some, Option.any_some, face]
    rfl

theorem modSegment_held (h : (includes s).HeldBy f) (g : Segment → Segment) (face : ∀ x, (g x).face = x.face)
    (room : ∀ x, waitsForCopy (g x).stage = true → (s.face f).queue.stack.length < Config.maxDepth) :
    (includes (s.modSegment g)).HeldBy f := by
  rw [modSegment_waits s g face]
  refine h.waiting (fun waits => ?_)
  cases segment : s.engine.segment with
  | none => rw [segment] at waits; cases waits
  | some x => rw [segment] at waits; exact room x waits

theorem setStage_held (h : (includes s).HeldBy f) {st : Stage} (still : waitsForCopy st = false) :
    (includes (s.setStage st)).HeldBy f :=
  modSegment_held h _ (fun _ => rfl) (fun _ waits => by cases still.symm.trans waits)

theorem failSegment_held (h : (includes s).HeldBy f) (r : FaultReason) : (includes (s.failSegment r)).HeldBy f :=
  setStage_held h rfl

theorem setStack_held (h : (includes s).HeldBy f) {ls : List Level}
    (same : ls.map Level.template = (s.face f).queue.stack.map Level.template) : (includes (s.setStack f ls)).HeldBy f :=
  modFace_held h _ same

theorem setStack_includes (s : State) (f : Face) (ls : List Level) :
    includes (s.setStack f ls) = { includes s with stack := Function.update (includes s).stack f ls } := by
  exact (modFace_includes_eq s f _).trans (congrArg
    (fun n => { includes s with stack := Function.update (includes s).stack f ls, snapshot := n })
    (Function.update_eq_self f (includes s).snapshot))

theorem useTemplate_includes (s : State) (t : Nat) (g : Nat → Nat) :
    includes (s.useTemplate t g) = { includes s with use := Function.update (includes s).use t (g ((includes s).use t)) } := by
  have uses : (includes (s.useTemplate t g)).use = Function.update (includes s).use t (g ((includes s).use t)) := by
    funext k
    show ((s.useTemplate t g).template k).use = _
    rw [useTemplate_template, Function.update_apply]
    by_cases own : t = k
    · subst own; simp [includes]
    · simp [own, Ne.symm own, includes]
  exact congrArg (fun u => { includes s with use := u }) uses

theorem pushLevel_held (h : (includes s).HeldBy f) (t x y : Nat) (ret : Option (Fin 16))
    (room : (s.face f).queue.stack.length < Config.maxDepth) : (includes (s.pushLevel f t x y ret)).HeldBy f := by
  obtain ⟨u, hu⟩ : ∃ u, u = (s.setStack f (⟨t, 0, ret, x, y, Config.levelBudget⟩ :: (s.face f).queue.stack)).useTemplate t
      (fun n => n + 1) := ⟨_, rfl⟩
  have pushes : includes (s.pushLevel f t x y ret) = { includes u with waits := false } := by
    have still : s.engine.segment.any (fun _ => waitsForCopy .expanding) = false := by cases s.engine.segment <;> rfl
    rw [← still, hu]
    exact modSegment_waits _ _ (fun _ => rfl)
  rw [pushes, hu, useTemplate_includes, setStack_includes]
  exact h.pushed ⟨t, 0, ret, x, y, Config.levelBudget⟩ room

theorem enterTemplate_held (h : (includes s).HeldBy f) (t x y : Nat) (ret : Option (Fin 16)) :
    (includes (s.enterTemplate f t x y ret)).HeldBy f := by
  unfold State.enterTemplate
  split
  · exact failSegment_held h _
  · next shallow =>
    have room := Nat.lt_of_not_le shallow
    split_ifs
    · exact failSegment_held h _
    · exact modSegment_held h _ (fun _ => rfl) (fun _ _ => room)
    · exact pushLevel_held h t x y ret room

theorem gotoCell_held (h : (includes s).HeldBy f) (cell : Fin 16) : (includes (s.gotoCell f cell)).HeldBy f := by
  unfold State.gotoCell
  split
  · next l ls stack => exact setStack_held h (by rw [stack]; rfl)
  · exact h

theorem nextCell_held (h : (includes s).HeldBy f) : (includes (s.nextCell f)).HeldBy f := by
  unfold State.nextCell
  split
  · next l ls stack => exact setStack_held h (by rw [stack]; rfl)
  · exact h

theorem popLevel_held (h : (includes s).HeldBy f) : (includes (s.popLevel f)).HeldBy f := by
  unfold State.popLevel
  split
  · next l below ls stack =>
    rw [useTemplate_includes, setStack_includes]
    exact h.popped stack rfl
  · next l stack =>
    refine setStage_held ?_ rfl
    rw [useTemplate_includes, setStack_includes]
    exact h.popped stack rfl
  · exact h

/-! ### Drawing -/

theorem drawShape_held (h : (includes s).HeldBy f) (l : Layer) (m : Combine) (shape : Shape) (r : Rect) :
    (includes (s.drawShape f l m shape r)).HeldBy f := by
  unfold State.drawShape
  dsimp only
  split
  · exact modFace_held h _ rfl
  · exact h

/-- A FILL, FRAME or IMAGE that passes its checks draws its shape (R116 to R119). -/
theorem plainDraw_drawn {t : State} {x y : Nat} {seg : Seg} (draws : s.plainDraw f x y seg = some (.ok t)) :
    ∃ l m shape r, t = s.drawShape f l m shape r := by
  have shown {l : Layer} {m : Combine} {shape : Shape} {r : Rect} {fits : Bool} (plain : seg.plain = some (l, m, shape, r, fits)) :
      ∃ l m shape r, t = s.drawShape f l m shape r := by
    rw [plainDraw_plain s f x y seg l m shape r fits plain] at draws
    split at draws
    · split at draws
      · cases draws
        exact ⟨_, _, _, _, rfl⟩
      · cases draws
    · cases draws
  cases seg with
  | fill | frame | image => exact shown rfl
  | _ => cases draws

theorem plainDraw_held {t : State} {x y : Nat} {seg : Seg} (h : (includes s).HeldBy f)
    (draws : s.plainDraw f x y seg = some (.ok t)) : (includes t).HeldBy f := by
  obtain ⟨l, m, shape, r, rfl⟩ := plainDraw_drawn draws
  exact drawShape_held h l m shape r

theorem routeSnapshot_held (h : (includes s).HeldBy f) (n : Nat) (colour : Colour) (width : Nat) :
    (includes (s.routeSnapshot f n colour width)).HeldBy f := by
  have drawn (c : Bool) : waitsForCopy (if c then .finished else .routing) = false := by cases c <;> rfl
  unfold State.routeSnapshot
  dsimp only
  split
  · exact failSegment_held h _
  · refine modSegment_held ?_ _ (fun _ => rfl) (fun _ waits => by cases (drawn _).symm.trans waits)
    rw [setJobs_includes]
    exact modFace_held h _ rfl

/-! ### Queue-level cells -/

theorem cardSnapshot_held (h : (includes s).HeldBy f) (n : Nat) (slot : Fin 12) (t : Nat) (r : Rect) :
    (includes (s.cardSnapshot f n slot t r)).HeldBy f := by
  have noted (u : State) : includes (u.modSegment (fun g => { g with card := some slot })) = includes u :=
    modSegment_includes u _ (fun _ => ⟨rfl, rfl⟩)
  unfold State.cardSnapshot
  dsimp only
  split
  · exact failSegment_held h _
  · refine enterTemplate_held ?_ t r.x r.y none
    rw [noted]
    exact modFace_held h _ rfl

theorem clearSlotWork_held (h : (includes s).HeldBy f) (slot : Fin 12) (colour : Colour) :
    (includes (s.clearSlotWork f slot colour)).HeldBy f := by
  unfold State.clearSlotWork
  split
  · exact setStage_held h rfl
  · exact setStage_held (s := s.setJobs _) h rfl

/-- The erase of a route begins. -/
theorem erase_held (h : (includes s).HeldBy f) : (includes ((s.setJobs (s.eraseJobs f)).setStage .erasing)).HeldBy f :=
  setStage_held (s := s.setJobs _) h rfl

theorem routeWork_held (h : (includes s).HeldBy f) (n : Nat) (colour : Colour) (width : Nat) :
    (includes (s.routeWork f n colour width)).HeldBy f := by
  unfold State.routeWork
  split
  · exact erase_held h
  · exact routeSnapshot_held h n colour width

theorem clearRouteWork_held (h : (includes s).HeldBy f) : (includes (s.clearRouteWork f)).HeldBy f := by
  unfold State.clearRouteWork
  split
  · exact erase_held h
  · exact setStage_held (modFace_held h _ rfl) rfl

theorem queueWork_held (h : (includes s).HeldBy f) (seg : Seg) : (includes (s.queueWork f seg)).HeldBy f := by
  cases seg with
  | fill | frame | image =>
    unfold State.queueWork
    dsimp only
    split
    · next draws => exact setStage_held (plainDraw_held h draws) rfl
    · exact failSegment_held h _
    · exact h
  | call t x y => exact enterTemplate_held h t x y none
  | card n slot t r =>
    unfold State.queueWork
    dsimp only
    split
    · exact cardSnapshot_held h n slot t r
    · exact failSegment_held h _
  | route n colour width => exact routeWork_held h n colour width
  | clearRoute => exact clearRouteWork_held h
  | clearSlot slot colour => exact clearSlotWork_held h slot colour
  | waitFrame => exact setStage_held h rfl
  | _ => exact failSegment_held h _

theorem startCell_held (h : (includes s).HeldBy f) (cell : Bytes) : (includes (s.startCell f cell)).HeldBy f := by
  unfold State.startCell
  split
  · exact failSegment_held h _
  · split
    · exact failSegment_held h _
    · split
      · exact failSegment_held h _
      · exact queueWork_held h _

/-! ### Template cells -/

theorem textWork_held (h : (includes s).HeldBy f) (l : Fin 4) (n : Snapshot) (field : TextSource) (m : Combine) (col : Colour)
    (scale x y width : Nat) : (includes (s.textWork f l n field m col scale x y width)).HeldBy f := by
  unfold State.textWork
  split
  · exact failSegment_held h _
  · split
    · exact nextCell_held h
    · exact h

theorem templateWork_held (h : (includes s).HeldBy f) (language : Fin 4) (top : Level) (seg : Seg) :
    (includes (s.templateWork f language top seg)).HeldBy f := by
  cases seg with
  | fill | frame | image =>
    unfold State.templateWork
    dsimp only
    split
    · next draws => exact plainDraw_held h draws
    · exact failSegment_held h _
    · exact h
  | call t x y => exact enterTemplate_held h _ _ _ _
  | textField field m col scale x y width =>
    unfold State.templateWork
    dsimp only
    split
    · exact textWork_held h _ _ _ _ _ _ _ _ _
    · exact failSegment_held h _
  | select sel n =>
    unfold State.templateWork
    dsimp only
    split
    · exact gotoCell_held h _
    · exact failSegment_held h _
  | goto cell => exact gotoCell_held h cell
  | endLevel => exact popLevel_held h
  | _ => exact failSegment_held h _

theorem templateStep_held {g : Segment} {top : Level} {below : List Level} (h : (includes s).HeldBy g.face)
    (stack : (s.face g.face).queue.stack = top :: below) : (includes (s.templateStep g top below)).HeldBy g.face := by
  have spent : (includes (s.setStack g.face ({ top with budget := top.budget - 1 } :: below))).HeldBy g.face :=
    setStack_held h (by rw [stack]; rfl)
  unfold State.templateStep
  dsimp only
  split
  · exact failSegment_held h _
  · split
    · exact failSegment_held spent _
    · split
      · exact failSegment_held spent _
      · split
        · exact failSegment_held spent _
        · exact templateWork_held spent _ _ _

/-! ### Pixel groups, and the ends of an erase and of a copy -/

theorem writeGroup_includes (s : State) (count : Nat) : includes (s.writeGroup count) = includes s := by
  unfold State.writeGroup
  split <;> rfl

theorem workDone_held {g : Segment} (h : (includes s).HeldBy g.face) : (includes (s.workDone g)).HeldBy g.face := by
  unfold State.workDone
  split
  · exact nextCell_held h
  · exact setStage_held h rfl
  · exact setStage_held h rfl
  · exact setStage_held (modFace_held h _ rfl) rfl
  all_goals exact h

theorem eraseDone_held {g : Segment} (h : (includes s).HeldBy g.face) : (includes (s.eraseDone g)).HeldBy g.face := by
  have erased : (includes (s.modFace g.face (fun c => { c with route := none }))).HeldBy g.face := modFace_held h _ rfl
  unfold State.eraseDone
  dsimp only
  split
  · split
    · exact routeSnapshot_held erased _ _ _
    · exact failSegment_held erased _
  · exact setStage_held erased rfl

/-- The face of the segment in hand holds the engine, and the levels are its own. -/
theorem heldBy_of_segment {g : Segment} (i : (includes s).Sound)
    (agrees : ∀ f : Face, (includes s).holder = some (.face f) ↔ (includes s).segment = some f)
    (segment : s.engine.segment = some g) : (includes s).HeldBy g.face := by
  have face : (includes s).segment = some g.face := congrArg (Option.map Segment.face) segment
  exact i.heldBy ((agrees g.face).mpr face) face

theorem pixelGroup_sound (i : (includes s).Sound)
    (agrees : ∀ f : Face, (includes s).holder = some (.face f) ↔ (includes s).segment = some f) (count : Nat) :
    (includes (s.pixelGroup count)).Sound := by
  have written := writeGroup_includes s count
  unfold State.pixelGroup
  dsimp only
  rw [← written] at i agrees
  split
  · split
    · next g segment => exact (workDone_held (heldBy_of_segment i agrees segment)).sound
    · exact i
  · exact i

/-- A push that waited has kept its room (R97, R113). -/
theorem resumePush_sound (i : (includes s).Sound)
    (agrees : ∀ f : Face, (includes s).holder = some (.face f) ↔ (includes s).segment = some f) :
    (includes s.resumePush).Sound := by
  unfold State.resumePush
  split
  · next g segment =>
    split
    · next t x y ret stage =>
      split
      · exact i
      · have held := heldBy_of_segment i agrees segment
        exact (pushLevel_held held t x y ret (held.room (by simp [includes, segment, stage, waitsForCopy]))).sound
    · exact i
  · exact i

/-! ### The end of a segment -/

theorem afterEnd_stack (q : Queue) (e : SegmentEnd) : (q.afterEnd e).stack = q.stack := by
  unfold Queue.afterEnd
  split
  · rfl
  · rfl
  · split_ifs
    · rfl
    · rfl
    · rfl
    · exact completed_stack q

/-- The end of a segment empties its face's stack (R114). -/
theorem endedContext_stack (c : FaceContext) (g : Segment) (fault : Option FaultReason) (on takeover : Bool) :
    (endedContext c g fault on takeover).queue.stack = [] := by
  have ended : ((endingQueue c.queue g fault).afterEnd (endOf g fault)).stack = [] := afterEnd_stack _ _
  have halted (q : Queue) (r : HaltReason) : (q.haltedAtEnd r).stack = q.stack := by
    unfold Queue.haltedAtEnd
    split <;> rfl
  cases takeover with
  | false => exact ended
  | true => exact (halted _ _).trans ended

/-- A reset of a face without levels and snapshot leaves the view (R82). -/
theorem applyReset_includes {s : State} {f : Face} (bare : (s.face f).queue.stack = [] ∧ (s.face f).snapshot = none) :
    includes (s.applyReset f) = includes s := by
  unfold State.applyReset
  rw [answer_includes]
  exact modFace_includes s f _ bare.1.symm bare.2.symm

theorem endTaken_empty {g : Segment} (h : (includes s).HeldBy g.face) (fault : Option FaultReason) :
    (includes (s.endTaken g fault)).Empty := by
  obtain ⟨-, templates, -, others⟩ := endTaken_changes s g fault
  refine ⟨fun f => ?_, fun t => ?_⟩
  · show ((s.endTaken g fault).face f).queue.stack = [] ∧ ((s.endTaken g fault).face f).snapshot = none
    by_cases own : g.face = f
    · subst own
      rw [endTaken_face]
      exact ⟨endedContext_stack _ _ _ _ _, rfl⟩
    · rw [others f own]
      exact h.others f (Ne.symm own)
  · show ((s.endTaken g fault).template t).use = 0
    rw [templates]
    exact Nat.sub_eq_zero_of_le (h.uses t).le

theorem segmentEnd_empty {g : Segment} (h : (includes s).HeldBy g.face) (fault : Option FaultReason) :
    (includes (s.segmentEnd g fault)).Empty := by
  have released : (includes (s.endTaken g fault).releaseDeferred).Empty := by
    rw [releaseDeferred_includes]
    exact endTaken_empty h fault
  unfold State.segmentEnd State.applyHeldReset
  rw [arbitrate_includes]
  split
  · rw [applyReset_includes (released.faces g.face)]
    exact released
  · exact released

end Sys2Proof.Machine.DrawQueues
end

section
/-! PROOFS. The grants and the releases of the engine; every step keeps the include stacks sound (R96, R101). -/

namespace Sys2Proof.Machine.DrawQueues

open Sys2Proof Sys2Proof.Machine Sys2Proof.Machine.UpdateTransactions Sys2Proof.Machine.NameOrder

variable {s t : State} {f : Face}

/-! ### Grants -/

/-- Who holds the engine, and for which segment, is nothing to a part without levels. -/
theorem Includes.Empty.held {i : Includes} (h : i.Empty) (holder : Option Claimant) (segment : Option Face) (waits : Bool) :
    ({ i with holder := holder, segment := segment, waits := waits } : Includes).Empty := ⟨h.faces, h.unused⟩

theorem includes_empty_of_free (i : (includes s).Sound) (free : s.arbiter.holder = none) : (includes s).Empty :=
  i.empty (fun f held => by cases free.symm.trans held)

theorem purgeGrant_empty (h : (includes s).Empty) : (includes s.purgeGrant).Empty := by
  unfold State.purgeGrant
  rw [haltQueues_includes]
  exact h.held (some .purge) _ _

theorem ecGrant_empty (h : (includes s).Empty) : (includes s.ecGrant).Empty := by
  unfold State.ecGrant
  rw [startView_includes, modEvac_includes, mapFaces_includes _ _ (fun _ => ⟨rfl, rfl⟩)]
  exact h.held (some .ec) _ _

theorem granted_includes (s : State) (claims : List Face) (g : Segment) : includes (granted s g.face claims g) =
    { includes s with holder := some (.face g.face), segment := some g.face, waits := waitsForCopy g.stage } := by
  have counted : includes (s.mapFaces (fun h c => { c with waitCount := waitCountAfter g.face claims h c.waitCount })) = includes s :=
    mapFaces_includes s _ (fun _ => ⟨rfl, rfl⟩)
  have running := modFace_includes (s.mapFaces (fun h c => { c with waitCount := waitCountAfter g.face claims h c.waitCount })) g.face
    (fun c => { c with queue := { c.queue with state := .running } }) rfl rfl
  exact congrArg (fun i : Includes => { i with
    holder := some (.face g.face), segment := some g.face, waits := waitsForCopy g.stage }) (running.trans counted)

/-- A grant gives the engine to a face with nothing on its stack. -/
theorem granted_held (h : (includes s).Empty) (claims : List Face) (g : Segment) :
    (includes (granted s g.face claims g)).HeldBy g.face := by
  rw [granted_includes]
  exact (h.held _ _ _).sound.heldBy rfl rfl

theorem faceGrant_stacks (h : (includes s).Empty) (f : Face) (claims : List Face) : (includes (s.faceGrant f claims)).Sound := by
  obtain same | ⟨g, rfl, ends | ⟨cell, begins⟩⟩ := faceGrant_cases s f claims
  · rw [same]; exact h.sound
  · rw [ends]; exact (segmentEnd_empty (granted_held h claims g) none).sound
  · rw [begins]; exact (startCell_held (granted_held h claims g) cell).sound

/-! ### Releases -/

theorem blankEnd_empty (h : (includes s).Empty) : (includes s.blankEnd).Empty := by
  obtain ⟨u, hu⟩ : ∃ u, u = (((s.mapFaces (fun f c =>
      if s.enabled f then { c with palette := { c.palette with source := .face } } else c)).release).raiseAll .evacOff).modEvac
      (fun e => { e with state := .normal, drawnZone := none, language := none, drawing := none }) := ⟨_, rfl⟩
  have palette := mapFaces_includes s
    (fun f c => if s.enabled f then { c with palette := { c.palette with source := .face } } else c)
    (fun f => by split <;> exact ⟨rfl, rfl⟩)
  have freed : includes u = { includes s with holder := none } := by
    rw [hu, modEvac_includes, raiseAll_includes]
    exact congrArg (fun i : Includes => { i with holder := none }) palette
  have empty : (includes u).Empty := by
    rw [freed]
    exact h.held none _ _
  unfold State.blankEnd
  dsimp only
  rw [← hu]
  split
  · rw [takeover_includes]; exact empty
  · rw [arbitrate_includes]; exact empty

/-- A purge empties the Template Store; no face has a level then (R45). -/
theorem purgedState_empty (h : (includes s).Empty) : (includes (purgedState s)).Empty := by
  refine ⟨fun f => ?_, fun t => rfl⟩
  show ((purgedState s).face f).queue.stack = [] ∧ ((purgedState s).face f).snapshot = none
  rw [purgedState_face]
  exact h.faces f

theorem answerAllHeld_empty (h : (includes s).Empty) (which : HeldRequest → Bool) : (includes (s.answerAllHeld which)).Empty := by
  refine ⟨fun f => ?_, fun t => ?_⟩
  · show ((s.answerAllHeld which).face f).queue.stack = [] ∧ ((s.answerAllHeld which).face f).snapshot = none
    rw [answerAllHeld_face]
    cases held : (s.face f).port.inProgress with
    | none => rw [answerHeld_of_none _ held]; exact h.faces f
    | some r =>
      rw [answerHeld_of_some _ held]
      split
      · rw [answerRequest_face]
        split
        · exact ⟨rfl, rfl⟩
        · exact h.faces f
      · exact h.faces f
  · have templates : (s.answerAllHeld which).template t = s.template t := by
      rw [answerAllHeld_outside s which]; rfl
    exact (congrArg Template.use templates).trans (h.unused t)

theorem purgeEnd_empty (h : (includes s).Empty) : (includes s.purgeEnd).Empty := by
  rw [purgeEnd_eq, arbitrate_includes]
  exact answerAllHeld_empty (purgedState_empty h) _

theorem fullReset_empty (pending : List Instr) (lineLow : Bool) : (includes (State.fullReset pending lineLow)).Empty := by
  refine ⟨fun f => ?_, fun t => rfl⟩
  simp [includes, State.fullReset, State.face, FaceContext.reset, Queue.reset]

/-- RESET_FACE waits behind its face's segment, and finds no level otherwise (R81, R82). -/
theorem execResetFace_includes {x : Transfer} (i : (includes s).Sound) (next : execResetFace f x s = .next t) :
    (includes t).Sound := by
  cases next
  refine request_includes (P := Includes.Sound) f _ _ x i (fun u same _ => ?_)
  split
  · rw [hold_includes, same]; exact i
  · next free =>
    have holder : (includes u).holder ≠ some (.face f) := fun held => free (by
      have held : u.arbiter.holder = some (.face f) := held
      simp [State.faceHolds, held])
    rw [arbitrate_includes, applyReset_includes ((same ▸ i : (includes u).Sound).holderOnly f holder), same]
    exact i

/-! ### Every command -/

theorem includes_agrees (h : s.EngineSound) (f : Face) :
    (includes s).holder = some (.face f) ↔ (includes s).segment = some f := h.segment f

theorem ite_stacks {p : Prop} [Decidable p] (i : (includes s).Sound) (sound : p → (includes t).Sound) :
    (includes (if p then t else s)).Sound := by
  split
  · next holds => exact sound holds
  · exact i

theorem execFaceGrant_stacks (i : (includes s).Sound) (next : execFaceGrant s = .next t) : (includes t).Sound := by
  cases next
  split
  · next f claims free _ => exact faceGrant_stacks (includes_empty_of_free i free) f claims
  · exact i

theorem execTemplateCellStep_stacks (h : s.EngineSound) (i : (includes s).Sound) (next : execTemplateCellStep s = .next t) :
    (includes t).Sound := by
  cases next
  split
  · next g segment =>
    refine ite_stacks i (fun _ => ?_)
    split
    · next top below stack =>
      exact (templateStep_held (heldBy_of_segment i (includes_agrees h) segment) stack).sound
    · exact i
  · exact i

theorem execRouteEraseDone_stacks (h : s.EngineSound) (i : (includes s).Sound) (next : execRouteEraseDone s = .next t) :
    (includes t).Sound := by
  cases next
  split
  · next g segment =>
    exact ite_stacks i (fun _ => (eraseDone_held (heldBy_of_segment i (includes_agrees h) segment)).sound)
  · exact i

/-- The three commands that end a segment leave the stacks empty. -/
theorem segmentEnd_stacks {g : Segment} (h : s.EngineSound) (i : (includes s).Sound) (segment : s.engine.segment = some g)
    (fault : Option FaultReason) : (includes (s.segmentEnd g fault)).Sound :=
  (segmentEnd_empty (heldBy_of_segment i (includes_agrees h) segment) fault).sound

theorem execSegmentCompletion_stacks (h : s.EngineSound) (i : (includes s).Sound) (next : execSegmentCompletion s = .next t) :
    (includes t).Sound := by
  cases next
  split
  · next g segment => exact ite_stacks i (fun _ => segmentEnd_stacks h i segment none)
  · exact i

theorem execSegmentFault_stacks (h : s.EngineSound) (i : (includes s).Sound) (next : execSegmentFault s = .next t) :
    (includes t).Sound := by
  cases next
  split
  · next g segment =>
    split
    · exact segmentEnd_stacks h i segment _
    · exact i
  · exact i

theorem execCutoffExpiry_stacks (h : s.EngineSound) (i : (includes s).Sound) (next : execCutoffExpiry s = .next t) :
    (includes t).Sound := by
  cases next
  have stopped : (s.modEvac (fun e => { e with cutoff := .stopped })).EngineSound := engineSound_of_control h rfl
  refine ite_stacks i (fun _ => ?_)
  dsimp only
  split
  · next g segment => exact segmentEnd_stacks stopped i segment _
  · exact i

theorem execTemplateCopyDone_stacks (h : s.EngineSound) (i : (includes s).Sound) (next : execTemplateCopyDone s = .next t) :
    (includes t).Sound := by
  cases next
  split
  · next k _ =>
    have copied := templateCopied_includes s k
    exact resumePush_sound (by rw [copied]; exact i) (by rw [copied]; exact includes_agrees h)
  · exact i

/-- Every command keeps the include stacks sound, the engine being sound. -/
theorem exec_stacks {c : Instr} (h : s.EngineSound) (i : (includes s).Sound) (next : exec c s = .next t) : (includes t).Sound := by
  cases c with
  | fullReset => cases next; exact (fullReset_empty _ _).sound
  | resetFace f x => exact execResetFace_includes i next
  | faceGrant => exact execFaceGrant_stacks i next
  | templateCellStep => exact execTemplateCellStep_stacks h i next
  | pixelGroupWrite count =>
    cases next
    split
    · exact i
    · exact pixelGroup_sound i (includes_agrees h) count
  | routeEraseDone => exact execRouteEraseDone_stacks h i next
  | segmentCompletion => exact execSegmentCompletion_stacks h i next
  | segmentFault => exact execSegmentFault_stacks h i next
  | cutoffExpiry => exact execCutoffExpiry_stacks h i next
  | templateCopyDone => exact execTemplateCopyDone_stacks h i next
  | purgeGrant =>
    cases next
    exact ite_stacks i (fun granted => (purgeGrant_empty (includes_empty_of_free i granted.1)).sound)
  | purgeEnd =>
    cases next
    refine ite_stacks i (fun holds => (purgeEnd_empty (i.empty (fun f held => ?_))).sound)
    have held : s.arbiter.holder = some (.face f) := held
    simp [State.purgeHolds, held] at holds
  | ecGrant =>
    cases next
    exact ite_stacks i (fun granted => (ecGrant_empty (includes_empty_of_free i granted.1)).sound)
  | blankDrawingEnd =>
    cases next
    refine ite_stacks i (fun done => (blankEnd_empty (i.empty (fun f held => ?_))).sound)
    cases (drawingDone_holds done).symm.trans held
  | _ => rw [exec_leavesStacks rfl next]; exact i

/-- Every step keeps the include stacks sound: a pixel of the scan-out leaves them, and the waiting commands are not among them. -/
theorem step_stacksSound (h : s.StacksSound) (next : step s = .next t) : t.StacksSound := by
  obtain ⟨engine, i⟩ := stacksSound_iff.mp h
  refine stacksSound_iff.mpr ⟨step_engineSound engine next, ?_⟩
  unfold step at next
  split at next
  · cases next
    rw [scanTick_includes]
    exact i
  · next rest _ => exact exec_stacks (s := { s with pending := rest }) (engineSound_of_control engine rfl) i next

/-- Settles O55: the engine by `step_engineSound`; the stacks because a face that holds the engine has the only levels, and a part
whose engine no face holds has none. -/
theorem engineAndStacksSoundKept : Obligations.EngineAndStacksSoundKept :=
  ⟨fun _ _ => step_engineSound, fun _ _ => step_stacksSound⟩

end Sys2Proof.Machine.DrawQueues
end

section
/-! PROOFS. The requests that move a queue: START, APPEND and STOP (R83, R87 to R89). -/

namespace Sys2Proof.Machine.DrawQueues

open Sys2Proof Sys2Proof.Machine Sys2Proof.Machine.UpdateTransactions Sys2Proof.Machine.FacePorts

variable {s : State} {f : Face} {x : Transfer}

/-! ### The cells that a request names -/

/-- A byte that names a cell of the ring. -/
theorem finOf_byte {bs : Bytes} {i : Nat} {cell : Fin 16} (byte : bs.getD i 0 = byteOf cell.val) : finOf 16 (num bs i) = some cell := by
  have small : (byteOf cell.val).toNat = cell.val := by
    have := cell.isLt
    simp only [byteOf, BitVec.toNat_ofNat]
    omega
  rw [num, byte, small, finOf_val]

/-! ### START -/

theorem exec_start (ready : s.portReady f) (length : x.bytes.length = 2) :
    exec (.start f x) s = .next (
      match finOf 16 (num x.bytes 0), finOf 16 (num x.bytes 1) with
      | some first, some last =>
        if s.evac.state ≠ .normal then (taken s f x).answer f .evac 0x21 []
        else if !((taken s f x).face f).queue.atRest then (taken s f x).answer f .state 0x21 []
        else (((taken s f x).modQueue f (fun q => q.started first last)).answer f .ok 0x21 []).arbitrate
      | _, _ => (taken s f x).answer f .range 0x21 []) :=
  congrArg _ (request_taken _ ready (by rw [length]; rfl))

/-- START with a cell that the ring does not have (R87). -/
theorem exec_start_range (ready : s.portReady f) (length : x.bytes.length = 2) (out : 15 < num x.bytes 0 ∨ 15 < num x.bytes 1) :
    exec (.start f x) s = .next (s.modFace f (fun c => c.replied (s.requestOut f x) .range 0x21 [])) := by
  rw [exec_start ready length]
  obtain out | out := out
  · rw [finOf_none out]
    exact congrArg _ (answer_taken ready _ _ _)
  · rw [finOf_none out]
    cases finOf 16 (num x.bytes 0) <;> exact congrArg _ (answer_taken ready _ _ _)

/-- START with two cells of the ring: its refusals in order, and its new range (R87). -/
theorem exec_start_cells {first last : Fin 16} (ready : s.portReady f) (bytes : x.bytes = [byteOf first.val, byteOf last.val]) :
    exec (.start f x) s = .next (
      if s.evac.state ≠ .normal then s.modFace f (fun c => c.replied (s.requestOut f x) .evac 0x21 [])
      else if !(s.face f).queue.atRest then s.modFace f (fun c => c.replied (s.requestOut f x) .state 0x21 [])
      else (s.modFace f (fun c => { c.replied (s.requestOut f x) .ok 0x21 [] with
        queue := c.queue.started first last })).arbitrate) := by
  rw [exec_start ready (by rw [bytes]; rfl), finOf_byte (by rw [bytes]; rfl), finOf_byte (cell := last) (by rw [bytes]; rfl)]
  dsimp only
  rw [taken_queue, answer_taken ready, answer_taken ready, State.modQueue, set_answer_taken ready]
  rfl

/-! ### APPEND -/

theorem exec_append (ready : s.portReady f) (length : x.bytes.length = 1) :
    exec (.append f x) s = .next (
      match finOf 16 (num x.bytes 0) with
      | none => (taken s f x).answer f .range 0x22 []
      | some last =>
        if s.evac.state ≠ .normal then (taken s f x).answer f .evac 0x22 []
        else
          match ((taken s f x).face f).queue.extendable with
          | none => (taken s f x).answer f .state 0x22 []
          | some r =>
            if 16 < r.count + r.extension last then (taken s f x).answer f .range 0x22 []
            else ((taken s f x).modQueue f (fun q => { q with range := some { r with last := last } })).answer f .ok 0x22 []) :=
  congrArg _ (request_taken _ ready (by rw [length]; rfl))

theorem exec_append_range (ready : s.portReady f) (length : x.bytes.length = 1) (out : 15 < num x.bytes 0) :
    exec (.append f x) s = .next (s.modFace f (fun c => c.replied (s.requestOut f x) .range 0x22 [])) := by
  rw [exec_append ready length, finOf_none out]
  exact congrArg _ (answer_taken ready _ _ _)

/-- APPEND of a cell of the ring, out of NORMAL (R88). -/
theorem exec_append_evac {last : Fin 16} (ready : s.portReady f) (bytes : x.bytes = [byteOf last.val]) (out : s.evac.state ≠ .normal) :
    exec (.append f x) s = .next (s.modFace f (fun c => c.replied (s.requestOut f x) .evac 0x22 [])) := by
  rw [exec_append ready (by rw [bytes]; rfl), finOf_byte (by rw [bytes]; rfl)]
  dsimp only
  rw [if_pos out, answer_taken ready]
  rfl

/-- APPEND of a cell of the ring to a queue that has nothing to extend (R88). -/
theorem exec_append_state {last : Fin 16} (ready : s.portReady f) (bytes : x.bytes = [byteOf last.val])
    (normal : s.evac.state = .normal) (still : (s.face f).queue.extendable = none) :
    exec (.append f x) s = .next (s.modFace f (fun c => c.replied (s.requestOut f x) .state 0x22 [])) := by
  rw [exec_append ready (by rw [bytes]; rfl), finOf_byte (by rw [bytes]; rfl), taken_queue, still]
  dsimp only
  rw [if_neg (not_not.mpr normal), answer_taken ready]
  rfl

/-- APPEND of a cell of the ring to a range: the range grows to it, by at most the ring's sixteen cells (R88). -/
theorem exec_append_cell {last : Fin 16} {r : ActiveRange} (ready : s.portReady f) (bytes : x.bytes = [byteOf last.val])
    (normal : s.evac.state = .normal) (range : (s.face f).queue.extendable = some r) :
    exec (.append f x) s = .next (
      if 16 < (r.last - r.next).val + 1 + (last - r.last).val then s.modFace f (fun c => c.replied (s.requestOut f x) .range 0x22 [])
      else s.modFace f (fun c => { c.replied (s.requestOut f x) .ok 0x22 [] with
        queue := { c.queue with range := some { r with last := last } } })) := by
  rw [exec_append ready (by rw [bytes]; rfl), finOf_byte (by rw [bytes]; rfl), taken_queue, range]
  dsimp only
  rw [if_neg (not_not.mpr normal), answer_taken ready, State.modQueue, set_answer_taken ready]
  rfl

theorem extendable_of_moving {q : Queue} (moving : q.state = .pending ∨ q.state = .running ∨ q.state = .waiting)
    (unstopped : q.stop = false) : q.extendable = q.range := by
  rcases moving with state | state | state <;> simp only [Queue.extendable, state, unstopped, Bool.false_eq_true, if_false]

theorem extendable_of_still {q : Queue} (still : q.state = .idle ∨ q.state = .halted ∨ q.stop = true) : q.extendable = none := by
  rcases still with state | state | stop
  · simp only [Queue.extendable, state]
  · simp only [Queue.extendable, state]
  · unfold Queue.extendable
    cases q.state <;> simp only [stop, if_true]

/-! ### STOP -/

/-- STOP asks to leave the engine alone, takes a queue out of its wait, or stops one that runs (R89). -/
theorem exec_stop (ready : s.portReady f) (empty : x.bytes = []) :
    exec (.stop f x) s = .next ((((taken s f x).stopQueue f).answer f .ok 0x23 []).arbitrate) :=
  congrArg _ (request_taken _ ready (by rw [empty]; rfl))

theorem exec_stop_idle (ready : s.portReady f) (empty : x.bytes = []) (idle : (s.face f).queue.state = .idle) :
    exec (.stop f x) s = .next ((s.modFace f (fun c => c.replied (s.requestOut f x) .ok 0x23 [])).arbitrate) := by
  have still : (taken s f x).stopQueue f = taken s f x := by
    rw [State.stopQueue, taken_queue]
    simp only [idle]
  rw [exec_stop ready empty, still, answer_taken ready]
  rfl

/-- STOP of a queue that waits or is HALTED: IDLE, with QUEUE_IDLE beside REPLY_READY (R89, R93). -/
theorem exec_stop_waiting (ready : s.portReady f) (empty : x.bytes = [])
    (waits : (s.face f).queue.state = .pending ∨ (s.face f).queue.state = .waiting ∨ (s.face f).queue.state = .halted) :
    exec (.stop f x) s = .next ((s.modFace f (fun c => { c.replied (s.requestOut f x) .ok 0x23 [] with
      queue := c.queue.idled, latch := c.latch ||| 0x005 })).arbitrate) := by
  have idled : (taken s f x).stopQueue f = (taken s f x).modFace f (fun c => { c with
      queue := c.queue.idled, latch := c.latch ||| 0x004 }) := by
    have raised : ((taken s f x).modQueue f Queue.idled).raise f .queueIdle = (taken s f x).modFace f (fun c => { c with
        queue := c.queue.idled, latch := c.latch ||| 0x004 }) := by
      obtain ⟨⟨-, enabled, -⟩, -⟩ := ready
      have on : ((taken s f x).modQueue f Queue.idled).enabled f = true := enabled
      rw [raise_eq, on, State.modQueue, modFace_modFace]
      rfl
    rw [State.stopQueue, taken_queue]
    rcases waits with state | state | state <;> simp only [state, raised]
  have events (latch : EventSet) : latch ||| 0x004 ||| 1 = latch ||| 0x005 := BitVec.or_assoc latch 0x004 1
  rw [exec_stop ready empty, idled, set_answer_taken ready]
  refine congrArg (fun u : State => Host.Outcome.next u.arbitrate) (modFace_congr ?_)
  simp only [answeredContext, if_true, events]
  rfl

theorem exec_stop_running (ready : s.portReady f) (empty : x.bytes = []) (running : (s.face f).queue.state = .running) :
    exec (.stop f x) s = .next ((s.modFace f (fun c => { c.replied (s.requestOut f x) .ok 0x23 [] with
      queue := { c.queue with stop := true } })).arbitrate) := by
  have stops : (taken s f x).stopQueue f = (taken s f x).modFace f (fun c => { c with queue := { c.queue with stop := true } }) := by
    rw [State.stopQueue, taken_queue]
    simp only [running]
    rfl
  rw [exec_stop ready empty, stops, set_answer_taken ready]
  rfl

/-- Settles O34: each request's refusals stand before its one change of the queue, in the tables' order. -/
theorem queueRequestsFollowTheirTables : Obligations.QueueRequestsFollowTheirTables := by
  refine fun s f x ready => ⟨fun first last bytes => ⟨fun normal rest => ?_, fun out => ?_, fun normal moving => ?_⟩,
    exec_start_range ready, fun last bytes => ⟨exec_append_evac ready bytes, fun normal =>
      ⟨fun r moving unstopped range => ⟨fun fits => ?_, fun past => ?_⟩, fun still => ?_⟩⟩,
    exec_append_range ready, fun empty => ⟨exec_stop_idle ready empty, exec_stop_waiting ready empty, exec_stop_running ready empty⟩⟩
  · rw [exec_start_cells ready bytes, if_neg (not_not.mpr normal), (atRest_iff _).mpr rest, if_neg (by simp)]
    rfl
  · rw [exec_start_cells ready bytes, if_pos out]
  · rw [exec_start_cells ready bytes, if_neg (not_not.mpr normal), not_atRest moving, if_pos (by simp)]
  · rw [exec_append_cell ready bytes normal ((extendable_of_moving moving unstopped).trans range), if_neg (Nat.not_lt.mpr fits)]
  · rw [exec_append_cell ready bytes normal ((extendable_of_moving moving unstopped).trans range), if_pos past]
  · exact exec_append_state ready bytes normal (extendable_of_still still)

end Sys2Proof.Machine.DrawQueues
end

section
/-! PROOFS. The frame start of a face (R91, R93, R136, R140), and the end of its pulse (R90, R166). -/

namespace Sys2Proof.Machine.DrawQueues

open Sys2Proof Sys2Proof.Machine Sys2Proof.Machine.UpdateTransactions Sys2Proof.Machine.NameOrder

variable {s : State} {f : Face}

/-! ### A WAIT_FRAME cell completes -/

theorem completed_of_last {q : Queue} {r : ActiveRange} (range : q.range = some r) (last : r.next = r.last) : q.completed = q.idled := by
  simp [Queue.completed, range, ActiveRange.moved, last]

theorem completed_of_more {q : Queue} {r : ActiveRange} (range : q.range = some r) (more : r.next ≠ r.last) :
    q.completed = { q with state := .pending, range := some ⟨r.next + 1, r.last⟩ } := by
  simp [Queue.completed, range, ActiveRange.moved, more]

theorem waitFrameDone_of_not_waiting (h : (s.face f).queue.state ≠ .waiting) : s.waitFrameDone f = s := by
  unfold State.waitFrameDone
  dsimp only
  split
  · next waiting _ => exact absurd waiting h
  · rfl

/-- The cell of a WAITING queue completes, with the events of R93. -/
theorem waitFrameDone_face {r : ActiveRange} (waiting : (s.face f).queue.state = .waiting) (range : (s.face f).queue.range = some r) :
    (s.waitFrameDone f).face f = { s.face f with
      queue := (s.face f).queue.completed
      latch := latchedIf
        (latchedIf (s.face f).latch (s.enabled f) (cellNotify (cellOf (s.face f).queue.ring r.next)) .segmentDone) (s.enabled f)
        (decide ((s.face f).queue.completed.state = .idle)) .queueIdle } := by
  have enabled (b : Bool) : (s.raiseIf b f .segmentDone).enabled f = s.enabled f := by
    rw [raiseIf_outside s _ f _]; rfl
  simp only [State.waitFrameDone, waiting, range]
  rw [raiseIf_face, modQueue_face, raiseIf_face]
  simp only [State.modQueue, modFace_enabled, enabled]
  rfl

/-- Whatever the queue, a frame start moves no more of its context than the queue and the latch. -/
theorem waitFrameDone_context (s : State) (f : Face) : (s.waitFrameDone f).face f =
    { s.face f with queue := ((s.waitFrameDone f).face f).queue, latch := ((s.waitFrameDone f).face f).latch } := by
  by_cases waiting : (s.face f).queue.state = .waiting
  · cases range : (s.face f).queue.range with
    | some r => rw [waitFrameDone_face waiting range]
    | none =>
      have same : s.waitFrameDone f = s := by simp only [State.waitFrameDone, waiting, range]
      rw [same]
  · rw [waitFrameDone_of_not_waiting waiting]

theorem waitFrameDone_face_ne (s : State) {f h : Face} (other : f ≠ h) : (s.waitFrameDone f).face h = s.face h := by
  unfold State.waitFrameDone
  dsimp only
  split
  · exact (((raiseIf_sameEnd s _ f _).trans (modQueue_sameEnd _ f _)).trans (raiseIf_sameEnd _ _ f _)).2.2 h other
  · rfl

/-! ### The shown palette -/

theorem choose_evacuation {p : PaletteState} (source : p.source = .evacuation) : p.choose = { p with shown := p.evacuation } := by
  simp only [PaletteState.choose, source]

theorem choose_face {p : PaletteState} (source : p.source = .face) :
    p.choose = { p with own := p.merged, pending := Vector.replicate 16 none, shown := p.merged } := by
  simp only [PaletteState.choose, source]

/-- The pending writes stand over the face palette (R140). -/
theorem merged_get (p : PaletteState) (i : Fin 16) : p.merged[i] =
    match p.pending[i] with
    | some colour => colour
    | none => p.own[i] := by
  have merged : p.merged[i] = (p.pending[i]).getD p.own[i] := by simp [PaletteState.merged]
  rw [merged]
  cases p.pending[i] <;> rfl

/-! ### The frame start -/

/-- The state that a frame start leaves to EA's look. -/
def framed (s : State) (f : Face) : State := (s.modFace f FaceContext.frameStart).waitFrameDone f

theorem framed_outside (s : State) (f : Face) : s.SameOutsideFaces (framed s f) :=
  (modFace_outside s f _).trans (waitFrameDone_outside _ f)

theorem framed_context (s : State) (f : Face) : (framed s f).face f =
    { s.face f with
      scan := .sync, palette := (s.face f).palette.choose, queue := ((framed s f).face f).queue, latch := ((framed s f).face f).latch } := by
  have context := waitFrameDone_context (s.modFace f FaceContext.frameStart) f
  rw [modFace_face_same] at context
  exact context

theorem framed_face_ne (s : State) {f h : Face} (other : f ≠ h) : (framed s f).face h = s.face h := by
  rw [framed, waitFrameDone_face_ne _ other, modFace_face_ne s other]

theorem framed_of_not_waiting (h : (s.face f).queue.state ≠ .waiting) :
    ((framed s f).face f).queue = (s.face f).queue ∧ ((framed s f).face f).latch = (s.face f).latch := by
  rw [framed, waitFrameDone_of_not_waiting (by rw [modFace_face_same]; exact h), modFace_face_same]
  exact ⟨rfl, rfl⟩

/-- A WAITING queue after the frame start of its face, which is enabled. -/
theorem framed_of_waiting {r : ActiveRange} (enabled : s.enabled f = true) (waiting : (s.face f).queue.state = .waiting)
    (range : (s.face f).queue.range = some r) :
    ((framed s f).face f).queue = (s.face f).queue.completed ∧
    ((framed s f).face f).latch = (s.face f).latch
      ||| (if cellNotify (cellOf (s.face f).queue.ring r.next) = true then 0x002 else 0)
      ||| (if (s.face f).queue.completed.state = .idle then 0x004 else 0) := by
  have started := modFace_face_same s f FaceContext.frameStart
  have face := waitFrameDone_face (s := s.modFace f FaceContext.frameStart) (f := f) (by rw [started]; exact waiting)
    (by rw [started]; exact range)
  rw [started, modFace_enabled, enabled] at face
  simp only [latchedIf_on, decide_eq_true_eq] at face
  exact ⟨congrArg FaceContext.queue face, congrArg FaceContext.latch face⟩

/-- With the engine free in NORMAL, EA's look leaves a decision wherever a queue claims (R106, R107). -/
theorem arbitrate_decides (free : s.arbiter.holder = none) (normal : s.evac.state = .normal)
    (pending : (s.face f).queue.state = .pending) : s.arbitrate.arbiter.decision ≠ none := by
  have granted : s.grantDecision ≠ none := fun none =>
    (grantDecision_eq_none (fun out => absurd normal out)).mp none (.face f) pending
  cases decision : s.arbiter.decision with
  | none => rw [arbitrate_of_undecided free decision]; exact granted
  | some d =>
    rw [arbitrate_of_decided free decision]
    split
    · rw [decision]; simp
    · exact granted

theorem exec_frameStart (ended : s.loadEnded = true) (enabled : s.enabled f = true) :
    exec (.frameStart f) s = .next (framed s f).arbitrate := by
  show execFrameStart f s = _
  simp only [execFrameStart, ended, enabled, Bool.and_self, if_true]
  rfl

/-- Settles O49: the frame start is `framed`, and EA's look, which changes the recorded decision alone. -/
theorem frameStartPacesItsFace : Obligations.FrameStartPacesItsFace := by
  intro s f ended enabled
  have context := framed_context s f
  have outside := framed_outside s f
  refine ⟨_, exec_frameStart ended enabled, ?_, ?_, ?_, fun h other => ?_, ?_, fun source => ?_, fun source => ⟨?_, fun i => ?_⟩,
    fun still => ?_, fun r done waiting range notified => ?_⟩
  · rw [State.pxVs, arbitrate_face, context]; rfl
  · rw [State.pxDe, arbitrate_face, context]; rfl
  · conv_lhs => rw [arbitrate_eq, outside]
    conv_rhs => rw [arbitrate_eq, outside]
    rfl
  · rw [arbitrate_face, framed_face_ne s (Ne.symm other)]
  · rw [arbitrate_face]
    conv_lhs => rw [context]
    conv_rhs => rw [context]
  · rw [arbitrate_face, context]
    exact choose_evacuation source
  · rw [arbitrate_face, context]
    show (s.face f).palette.choose = _
    rw [choose_face source]
  · rw [arbitrate_face, context]
    show (s.face f).palette.choose.shown[i] = _
    rw [choose_face source]
    exact merged_get _ i
  · rw [arbitrate_face]
    exact framed_of_not_waiting still
  · rw [arbitrate_face]
    obtain ⟨queue, latch⟩ := framed_of_waiting enabled waiting range
    rw [← notified] at latch
    refine ⟨fun last => ?_, fun more => ?_⟩
    · rw [completed_of_last range last] at queue latch
      exact ⟨queue, latch⟩
    · rw [completed_of_more range more] at queue latch
      refine ⟨queue, latch.trans (BitVec.or_zero ..), fun free => ?_⟩
      by_cases normal : s.evac.state = .normal
      · refine .inl (arbitrate_decides (f := f) ?_ ?_ ?_)
        · rw [outside]; exact free
        · rw [outside]; exact normal
        · rw [queue]
      · exact .inr normal

/-! ### The end of a pulse -/

theorem exec_pulseTimeExpiry {ms : Nat} (state : (s.face f).supervisor.state = .pulse) (timer : (s.face f).supervisor.timer = .running ms) :
    exec (.pulseTimeExpiry f) s = .next (s.modFace f (fun c => { c with supervisor :=
      ⟨.recovery, .running s.settings.windowMs, (s.face f).supervisor.pulses⟩ })) := by
  have supervised : s.supervises f .pulse = true := by simp [State.supervises, state, timer]
  show execPulseTimeExpiry f s = _
  rw [execPulseTimeExpiry, if_pos supervised]
  exact congrArg Host.Outcome.next (modFace_congr rfl)

/-- A segment during which its face entered PULSE halts its queue WITHDRAWN at its completion out of TAKEOVER (R90, R92). -/
theorem segmentEnd_withdrawn {g : Segment} (pulsed : g.pulsed = true) (calm : s.evac.state ≠ .takeover)
    (unheld : (s.face g.face).port.inProgress ≠ some .resetFace) :
    ((s.segmentEnd g none).face g.face).queue = (endingQueue (s.face g.face).queue g none).halted .withdrawn := by
  have row : (endingQueue (s.face g.face).queue g none).afterEnd (endOf g none) =
      (endingQueue (s.face g.face).queue g none).halted .withdrawn := by
    simp only [Queue.afterEnd, endOf, pulsed, if_true]
  obtain ⟨-, -, -, own⟩ := segmentEnd_released s g none _ rfl
  rw [own unheld, (releaseDeferred_keeps _).2, endTaken_face, decide_eq_false calm]
  exact row

/-- Settles O51: the expiry moves the supervisor alone, and R90's table halts the queue by the segment's own flag. -/
theorem pulseExpiryEntersRecovery : Obligations.PulseExpiryEntersRecovery := by
  refine ⟨fun s f ms state timer => ⟨_, exec_pulseTimeExpiry state timer, rfl, ?_, ?_, rfl⟩,
    fun s g segment pulsed stage calm unheld => ⟨_, exec_segmentCompletion segment stage, ?_⟩⟩
  · rw [State.frst, modFace_face_same]; rfl
  · rw [State.withdrawn, modFace_face_same]; rfl
  · rw [segmentEnd_withdrawn pulsed calm unheld]
    exact ⟨rfl, rfl⟩

end Sys2Proof.Machine.DrawQueues
end

section
/-! PROOFS. How a cell is read: the codes of its fields, and the segment record of each kind (R84, R198, R200, R201). -/

namespace Sys2Proof.Machine.DrawQueues

open Sys2Proof Sys2Proof.Machine

/-! ### The codes of the enumerations -/

/-- The code of a kind (R200). -/
def kindCode : Kind → Nat
  | .fill => 1 | .frame => 2 | .image => 3 | .call => 4 | .card => 5 | .route => 6 | .clearRoute => 7 | .clearSlot => 8
  | .waitFrame => 9 | .textField => 10 | .select => 11 | .goto => 12 | .endLevel => 13

theorem kind_ofCode (b : Byte) (k : Kind) : Kind.ofCode b = some k ↔ b.toNat = kindCode k := by
  unfold Kind.ofCode
  constructor
  · intro named
    split at named <;> cases named <;> assumption
  · intro code
    rw [code]
    cases k <;> rfl

def layerCode : Layer → Nat
  | .map => 0 | .card => 1

theorem layer_ofCode (b : Byte) (l : Layer) : Layer.ofCode b = some l ↔ b.toNat = layerCode l := by
  unfold Layer.ofCode
  constructor
  · intro named
    split at named <;> cases named <;> assumption
  · intro code
    rw [code]
    cases l <;> rfl

def combineCode : Combine → Nat
  | .replace => 0 | .and => 1 | .or => 2 | .xor => 3

theorem combine_ofCode (b : Byte) (m : Combine) : Combine.ofCode b = some m ↔ b.toNat = combineCode m := by
  unfold Combine.ofCode
  constructor
  · intro named
    split at named <;> cases named <;> assumption
  · intro code
    rw [code]
    cases m <;> rfl

def keyedCode (keyed : Bool) : Nat := if keyed = true then 1 else 0

theorem keyed_ofCode (b : Byte) (keyed : Bool) : keyedOfCode b = some keyed ↔ b.toNat = keyedCode keyed := by
  unfold keyedOfCode
  constructor
  · intro named
    split at named <;> cases named <;> assumption
  · intro code
    rw [code]
    cases keyed <;> rfl

def sourceCode : TextSource → Nat
  | .name => 0 | .unit => 1

theorem source_ofCode (b : Byte) (field : TextSource) : TextSource.ofCode b = some field ↔ b.toNat = sourceCode field := by
  unfold TextSource.ofCode
  constructor
  · intro named
    split at named <;> cases named <;> assumption
  · intro code
    rw [code]
    cases field <;> rfl

def selectorCode : Selector → Nat
  | .openMark => 0 | .category => 1 | .level => 2 | .hasName => 3

theorem selector_ofCode (b : Byte) (sel : Selector) : Selector.ofCode b = some sel ↔ b.toNat = selectorCode sel := by
  unfold Selector.ofCode
  constructor
  · intro named
    split at named <;> cases named <;> assumption
  · intro code
    rw [code]
    cases sel <;> rfl

/-- A ROUTE's colour is 1 to 3 (R84). -/
theorem routeColour_iff (n : Nat) (col : Colour) :
    (∃ k, within 1 3 n = some k ∧ BitVec.ofNat 2 k = col) ↔ n = col.toNat ∧ col ≠ 0 := by
  simp only [within_eq_some]
  constructor
  · rintro ⟨k, ⟨rfl, least, most⟩, rfl⟩
    refine ⟨by simp; omega, fun zero => ?_⟩
    have := congrArg BitVec.toNat zero
    simp at this
    omega
  · rintro ⟨rfl, nonzero⟩
    have small := col.isLt
    have positive : col.toNat ≠ 0 := fun zero => nonzero (BitVec.eq_of_toNat_eq zero)
    exact ⟨col.toNat, ⟨rfl, by omega, by omega⟩, by simp⟩

/-! ### The segment record of a cell -/

/-- The fields from which a cell of a kind is read, each at its place (R84, R200). -/
def SegReads (k : Kind) (c : Bytes) (seg : Seg) : Prop :=
  match k, seg with
  | .fill, .fill l m col r => Layer.ofCode (c.getD 2 0) = some l ∧ Combine.ofCode (c.getD 3 0) = some m ∧
      colourOf (num c 4) = some col ∧ cellRect c = some r
  | .frame, .frame l m col t r => Layer.ofCode (c.getD 2 0) = some l ∧ Combine.ofCode (c.getD 3 0) = some m ∧
      colourOf (num c 4) = some col ∧ within 1 8 (num c 5) = some t ∧ cellRect c = some r
  | .image, .image l m keyed r o => Layer.ofCode (c.getD 2 0) = some l ∧ Combine.ofCode (c.getD 3 0) = some m ∧
      keyedOfCode (c.getD 5 0) = some keyed ∧ cellRect c = some r ∧ within 0 4095 (num16 c 14) = some o
  | .call, .call t x y => within 0 63 (num c 5) = some t ∧ within 0 1079 (num16 c 6) = some x ∧ within 0 1919 (num16 c 8) = some y
  | .card, .card n slot t r => within 0 1023 (num16 c 2) = some n ∧ finOf 12 (num c 4) = some slot ∧ within 0 63 (num c 5) = some t ∧
      cellRect c = some r
  | .route, .route n col w => within 0 1023 (num16 c 2) = some n ∧ (∃ k, within 1 3 (num c 4) = some k ∧ BitVec.ofNat 2 k = col) ∧
      within 1 8 (num c 5) = some w
  | .clearSlot, .clearSlot slot col => finOf 12 (num c 4) = some slot ∧ colourOf (num c 5) = some col
  | .textField, .textField field m col scale x y w => TextSource.ofCode (c.getD 2 0) = some field ∧
      Combine.ofCode (c.getD 3 0) = some m ∧ colourOf (num c 4) = some col ∧ within 1 2 (num c 5) = some scale ∧
      within 0 1079 (num16 c 6) = some x ∧ within 0 1919 (num16 c 8) = some y ∧ within 1 1080 (num16 c 10) = some w
  | .select, .select sel n => Selector.ofCode (c.getD 2 0) = some sel ∧ within 1 8 (num c 4) = some n
  | .goto, .goto i => finOf 16 (num c 4) = some i
  | .clearRoute, .clearRoute | .waitFrame, .waitFrame | .endLevel, .endLevel => True
  | _, _ => False

theorem parseSeg_reads {k : Kind} {c : Bytes} {seg : Seg} (parses : parseSeg k c = some seg) : SegReads k c seg := by
  cases k with
  | clearRoute | waitFrame | endLevel => cases parses; trivial
  | route =>
    simp only [parseSeg] at parses
    split at parses
    · next colour _ => cases parses; exact ⟨‹_›, ⟨_, colour, rfl⟩, ‹_›⟩
    · cases parses
  | _ =>
    simp only [parseSeg] at parses
    split at parses
    · cases parses
      simp only [SegReads, *, and_self]
    · cases parses

theorem parseSeg_of_reads {k : Kind} {c : Bytes} {seg : Seg} (reads : SegReads k c seg) : parseSeg k c = some seg := by
  unfold SegReads at reads
  split at reads
  case h_6 =>
    obtain ⟨entry, ⟨_, colour, rfl⟩, width⟩ := reads
    simp only [parseSeg, entry, colour, width]
  all_goals simp_all only [parseSeg]

theorem parseSeg_eq_some (k : Kind) (c : Bytes) (seg : Seg) : parseSeg k c = some seg ↔ SegReads k c seg :=
  ⟨parseSeg_reads, parseSeg_of_reads⟩

end Sys2Proof.Machine.DrawQueues
end

section
/-! PROOFS. The operations of a segment (R97 to R101, R116 to R122): the stage, the include stack, plain drawing and text. -/

namespace Sys2Proof.Machine.DrawQueues

open Sys2Proof Sys2Proof.Machine Sys2Proof.Machine.UpdateTransactions Sys2Proof.Machine.NameOrder Sys2Proof.Machine.FacePorts

variable {s : State} {f : Face} {g : Segment}

/-! ### The stage -/

theorem setStage_of_segment (segment : s.engine.segment = some g) (st : Stage) :
    s.setStage st = { s with engine := { s.engine with segment := some { g with stage := st } } } := by
  simp only [State.setStage, State.modSegment, segment, Option.map_some]

/-! ### The include stack -/

theorem setStack_face (s : State) (f : Face) (ls : List Level) :
    (s.setStack f ls).face f = { s.face f with queue := { (s.face f).queue with stack := ls } } := modFace_face_same s f _

theorem setStack_face_ne (s : State) {f h : Face} (other : h ≠ f) (ls : List Level) : (s.setStack f ls).face h = s.face h :=
  modFace_face_ne s (Ne.symm other) _

@[simp] theorem setStack_stack (s : State) (f : Face) (ls : List Level) : ((s.setStack f ls).face f).queue.stack = ls := by
  rw [setStack_face]

@[simp] theorem setStack_snapshot (s : State) (f : Face) (ls : List Level) :
    ((s.setStack f ls).face f).snapshot = (s.face f).snapshot := by
  rw [setStack_face]

@[simp] theorem setStack_setStack (s : State) (f : Face) (ls ls' : List Level) :
    (s.setStack f ls).setStack f ls' = s.setStack f ls' := by
  unfold State.setStack State.modQueue
  exact modFace_modFace s f _ _

theorem gotoCell_of_stack {l : Level} {ls : List Level} (stack : (s.face f).queue.stack = l :: ls) (cell : Fin 16) :
    s.gotoCell f cell = s.setStack f ({ l with cell := cell } :: ls) := by
  simp only [State.gotoCell, stack]

theorem nextCell_of_stack {l : Level} {ls : List Level} (stack : (s.face f).queue.stack = l :: ls) :
    s.nextCell f = s.setStack f ({ l with cell := l.cell + 1 } :: ls) := by
  simp only [State.nextCell, stack]

theorem popLevel_last {l : Level} (stack : (s.face f).queue.stack = [l]) :
    s.popLevel f = ((s.setStack f []).useTemplate l.template (fun n => n - 1)).setStage .finished := by
  simp only [State.popLevel, stack]

theorem popLevel_above {l next : Level} {ls : List Level} (stack : (s.face f).queue.stack = l :: next :: ls) :
    s.popLevel f = (s.setStack f ({ next with cell := l.ret.getD (next.cell + 1) } :: ls)).useTemplate l.template
      (fun n => n - 1) := by
  simp only [State.popLevel, stack]

/-- The use of a popped level is returned (R99). -/
theorem popLevel_template {l : Level} {below : List Level} (stack : (s.face f).queue.stack = l :: below) (k : Nat) :
    (s.popLevel f).template k =
      if k = l.template then { s.template k with use := (s.template k).use - 1 } else s.template k := by
  have returned (ls : List Level) : ((s.setStack f ls).useTemplate l.template (fun n => n - 1)).template k =
      if k = l.template then { s.template k with use := (s.template k).use - 1 } else s.template k := by
    simp only [eq_comm (a := k)]
    exact useTemplate_template (s.setStack f ls) l.template k _
  cases below with
  | nil => rw [popLevel_last stack]; exact returned []
  | cons next ls => rw [popLevel_above stack]; exact returned _

theorem popLevel_outside (s : State) (f : Face) : s.popLevel f = { s with
    faces := (s.popLevel f).faces, engine := (s.popLevel f).engine
    templates := { s.templates with table := (s.popLevel f).templates.table } } := by
  unfold State.popLevel
  split <;> rfl

theorem popLevel_face_ne (s : State) {f h : Face} (other : h ≠ f) : (s.popLevel f).face h = s.face h := by
  unfold State.popLevel
  split
  · exact setStack_face_ne s other _
  · exact setStack_face_ne s other _
  · rfl

/-- With no level below, the queue-level cell has done its work (R99). -/
theorem popLevel_ends {l : Level} (stack : (s.face f).queue.stack = [l]) (segment : s.engine.segment = some g) :
    (s.popLevel f).engine.segment = some { g with stage := .finished } ∧ ((s.popLevel f).face f).queue.stack = [] := by
  rw [popLevel_last stack]
  exact ⟨congrArg (Option.map _) segment, setStack_stack s f []⟩

/-- The level below goes on at the return cell (R99). -/
theorem popLevel_returns {l next : Level} {ls : List Level} (stack : (s.face f).queue.stack = l :: next :: ls) :
    (s.popLevel f).engine = s.engine ∧
    ((s.popLevel f).face f).queue.stack = { next with cell := l.ret.getD (next.cell + 1) } :: ls := by
  rw [popLevel_above stack]
  exact ⟨rfl, setStack_stack s f _⟩

/-! ### The entry of a template (R97) -/

section
variable {k x y : Nat} {ret : Option (Fin 16)}

theorem enterTemplate_deep (deep : 4 ≤ (s.face f).queue.stack.length) : s.enterTemplate f k x y ret = s.failSegment .depth :=
  if_pos deep

theorem enterTemplate_absent (shallow : (s.face f).queue.stack.length < 4) (absent : (s.template k).cells = none) :
    s.enterTemplate f k x y ret = s.failSegment .noTemplate := by
  unfold State.enterTemplate
  rw [if_neg (show ¬ Config.maxDepth ≤ _ from Nat.not_le.mpr shallow), if_pos (by rw [absent]; rfl)]

theorem enterTemplate_copied (shallow : (s.face f).queue.stack.length < 4) (present : (s.template k).cells ≠ none)
    (copied : s.templates.copying = some k) : s.enterTemplate f k x y ret = s.setStage (.pushing k x y ret) := by
  unfold State.enterTemplate
  rw [if_neg (show ¬ Config.maxDepth ≤ _ from Nat.not_le.mpr shallow), if_neg (mt Option.isNone_iff_eq_none.mp present), if_pos copied]

theorem enterTemplate_pushes (shallow : (s.face f).queue.stack.length < 4) (present : (s.template k).cells ≠ none)
    (still : s.templates.copying ≠ some k) : s.enterTemplate f k x y ret = s.pushLevel f k x y ret := by
  unfold State.enterTemplate
  rw [if_neg (show ¬ Config.maxDepth ≤ _ from Nat.not_le.mpr shallow), if_neg (mt Option.isNone_iff_eq_none.mp present), if_neg still]

theorem pushLevel_stack (s : State) (f : Face) (k x y : Nat) (ret : Option (Fin 16)) :
    ((s.pushLevel f k x y ret).face f).queue.stack = ⟨k, 0, ret, x, y, 32⟩ :: (s.face f).queue.stack := setStack_stack s f _

theorem pushLevel_template (s : State) (f : Face) (k x y : Nat) (ret : Option (Fin 16)) (j : Nat) :
    (s.pushLevel f k x y ret).template j = if j = k then { s.template j with use := (s.template j).use + 1 } else s.template j := by
  simp only [eq_comm (a := j)]
  exact useTemplate_template (s.setStack f _) k j _

theorem pushLevel_entered (s : State) (f : Face) (k x y : Nat) (ret : Option (Fin 16)) (j : Nat) :
    j ∈ (s.pushLevel f k x y ret).templates.entered ↔ j = k ∨ j ∈ s.templates.entered := List.mem_insert_iff

theorem pushLevel_engine (segment : s.engine.segment = some g) :
    (s.pushLevel f k x y ret).engine = { s.engine with segment := some { g with stage := .expanding } } := by
  calc (s.pushLevel f k x y ret).engine
      = { s.engine with segment := s.engine.segment.map (fun h => { h with stage := .expanding }) } := rfl
    _ = { s.engine with segment := some { g with stage := .expanding } } := by rw [segment, Option.map_some]

end

/-! ### Plain drawing (R116 to R119) -/

theorem inside_iff (r : Rect) : r.inside = true ↔ r.x + r.w ≤ 1080 ∧ r.y + r.h ≤ 1920 := decide_eq_true_iff

theorem not_inside {r : Rect} (out : 1080 < r.x + r.w ∨ 1920 < r.y + r.h) : ¬ r.inside = true := by
  rw [inside_iff]
  omega

theorem plotJob_of_pos {r : Rect} (wide : 1 ≤ r.w) (high : 1 ≤ r.h) (l : Layer) (m : Combine) (shape : Shape) :
    plotJob f l m shape r = [.plot ⟨f, l, m, shape, r, 0⟩] := if_neg (by omega)

theorem drawShape_eq {r : Rect} (wide : 1 ≤ r.w) (high : 1 ≤ r.h) (l : Layer) (m : Combine) (shape : Shape) :
    s.drawShape f l m shape r =
      (s.modFace f (fun c => { c with route := disturbedBy l c.route })).setJobs [.plot ⟨f, l, m, shape, r, 0⟩] := by
  unfold State.drawShape
  rw [plotJob_of_pos wide high]
  cases l with
  | map =>
    rw [if_pos rfl]
    simp only [routeDisturb_eq]
  | card =>
    have same : s.modFace f (fun c => { c with route := disturbedBy .card c.route }) = s := modFace_self s f
    rw [same, if_neg (by decide)]

/-- A shape is read from a FILL, a FRAME or an IMAGE, and its box is not empty (R84). -/
theorem plain_of_parses {k : Kind} {c : Bytes} {seg : Seg} {l : Layer} {m : Combine} {shape : Shape} {box : Rect} {fits : Bool}
    (parses : parseSeg k c = some seg) (plain : seg.plain = some (l, m, shape, box, fits)) :
    (k = .fill ∨ k = .frame ∨ k = .image) ∧ 1 ≤ box.w ∧ 1 ≤ box.h := by
  have rect {r : Rect} (reads : cellRect c = some r) : 1 ≤ r.w ∧ 1 ≤ r.h := by
    simp only [cellRect_eq_some, within_eq_some] at reads
    obtain ⟨_, _, ⟨_, wide, _⟩, _, high, _⟩ := reads
    exact ⟨wide, high⟩
  have reads := parseSeg_reads parses
  unfold SegReads at reads
  split at reads
  case h_1 => obtain ⟨-, -, -, box⟩ := reads; cases plain; exact ⟨.inl rfl, rect box⟩
  case h_2 => obtain ⟨-, -, -, -, box⟩ := reads; cases plain; exact ⟨.inr (.inl rfl), rect box⟩
  case h_3 => obtain ⟨-, -, -, box, -⟩ := reads; cases plain; exact ⟨.inr (.inr rfl), rect box⟩
  case h_14 => exact reads.elim
  all_goals cases plain

end Sys2Proof.Machine.DrawQueues
end

section
/-! PROOFS. The cells of templates (R97 to R103, R116 to R122; logs 14, 15). -/

namespace Sys2Proof.Machine.DrawQueues

open Sys2Proof Sys2Proof.Machine Sys2Proof.Machine.UpdateTransactions Sys2Proof.Machine.NameOrder Sys2Proof.Machine.FacePorts

variable {s : State} {g : Segment} {top : Level} {below : List Level}

/-- The cell a level stands at. -/
def levelCell (s : State) (top : Level) : Bytes := cellOf ((s.template top.template).cells.getD []) top.cell

/-- The level with the cell's one taken off its budget (R98). -/
def charged (top : Level) : Level := { top with budget := top.budget - 1 }

/-- The state in which a cell's kind is looked at: its level is charged (R98). -/
def spentOn (s : State) (g : Segment) (top : Level) (below : List Level) : State := s.setStack g.face (charged top :: below)

theorem exec_templateCellStep (segment : s.engine.segment = some g) (stage : g.stage = .expanding) (idle : s.engine.jobs = [])
    (stack : (s.face g.face).queue.stack = top :: below) :
    exec .templateCellStep s = .next (s.templateStep g top below) := by
  show execTemplateCellStep s = _
  simp only [execTemplateCellStep, segment, stage, idle, stack, List.isEmpty_nil, and_self, if_true]

@[simp] theorem spentOn_stack (s : State) (g : Segment) (top : Level) (below : List Level) :
    ((spentOn s g top below).face g.face).queue.stack = charged top :: below := setStack_stack s g.face _

@[simp] theorem spentOn_snapshot (s : State) (g : Segment) (top : Level) (below : List Level) :
    ((spentOn s g top below).face g.face).snapshot = (s.face g.face).snapshot := setStack_snapshot s g.face _

/-- A cell that fails its check, or its work, leaves its segment in that stage (log 14). -/
theorem spentOn_fails (segment : s.engine.segment = some g) (why : FaultReason) :
    (spentOn s g top below).failSegment why =
      { spentOn s g top below with engine := { s.engine with segment := some { g with stage := .failed why } } } :=
  setStage_of_segment (s := spentOn s g top below) segment _

/-! ### The checks of a cell, in their order (R103) -/

theorem templateStep_runaway (empty : top.budget = 0) : s.templateStep g top below = s.failSegment .runaway := if_pos empty

section
variable (budget : 1 ≤ top.budget)
include budget

theorem templateStep_badKind (kind : cellKind (levelCell s top) = none) :
    s.templateStep g top below = (spentOn s g top below).failSegment .badKind := by
  unfold levelCell at kind
  unfold State.templateStep
  rw [if_neg (by omega)]
  simp only [kind]
  rfl

variable {k : Kind} (kind : cellKind (levelCell s top) = some k)
include kind

theorem templateStep_misplaced {why : FaultReason} (fault : k.templateFault (s.face g.face).snapshot.isSome = some why) :
    s.templateStep g top below = (spentOn s g top below).failSegment why := by
  unfold levelCell at kind
  unfold State.templateStep
  rw [if_neg (by omega)]
  simp only [kind, fault]
  rfl

variable (placed : k.templateFault (s.face g.face).snapshot.isSome = none)
include placed

theorem templateStep_range (out : parseSeg k (levelCell s top) = none) :
    s.templateStep g top below = (spentOn s g top below).failSegment .range := by
  unfold levelCell at kind out
  unfold State.templateStep
  rw [if_neg (by omega)]
  simp only [kind, placed, out]
  rfl

theorem templateStep_work {seg : Seg} (parses : parseSeg k (levelCell s top) = some seg) :
    s.templateStep g top below = (spentOn s g top below).templateWork g.face g.language (charged top) seg := by
  unfold levelCell at kind parses
  unfold State.templateStep
  rw [if_neg (by omega)]
  simp only [kind, placed, parses]
  rfl

end

/-! ### GOTO and SELECT (R100) -/

/-- The spent state with the level at another cell. -/
theorem spentOn_gotoCell (cell : Fin 16) : (spentOn s g top below).gotoCell g.face cell =
    s.modFace g.face (fun c => { c with queue := { c.queue with
      stack := { top with cell := cell, budget := top.budget - 1 } :: below } }) := by
  rw [gotoCell_of_stack (spentOn_stack s g top below)]
  exact setStack_setStack s g.face _ _

theorem spentOn_nextCell : (spentOn s g top below).nextCell g.face =
    s.modFace g.face (fun c => { c with queue := { c.queue with
      stack := { top with cell := top.cell + 1, budget := top.budget - 1 } :: below } }) := by
  rw [nextCell_of_stack (spentOn_stack s g top below)]
  exact setStack_setStack s g.face _ _

/-- The value of a selector, cut to the number of cells it chooses among (R100). -/
theorem min_choice (v n : Nat) : min v (n - 1) = if n ≤ v then n - 1 else v := by
  split <;> omega

theorem templateWork_select {sn : Snapshot} (snapshot : (s.face g.face).snapshot = some sn) (sel : Selector) (n : Nat) :
    (spentOn s g top below).templateWork g.face g.language (charged top) (.select sel n) =
      (spentOn s g top below).gotoCell g.face (top.cell + 1 + Fin.ofNat 16 (min (sn.select sel g.language) (n - 1))) := by
  have same : ((spentOn s g top below).face g.face).snapshot = some sn := (spentOn_snapshot s g top below).trans snapshot
  simp only [State.templateWork, same]
  rfl

/-- Settles O38. -/
theorem selectContinuesAtItsCell : Obligations.SelectContinuesAtItsCell := by
  intro s g top below sn cell sel n v segment stage idle stack budget snapshot own kind parses value
  subst own
  obtain rfl : v = sn.select sel g.language := value.trans (by cases sel <;> rfl)
  have placed : Kind.templateFault .select (s.face g.face).snapshot.isSome = none := by rw [snapshot]; rfl
  rw [exec_templateCellStep segment stage idle stack, templateStep_work budget kind placed parses,
    templateWork_select snapshot, spentOn_gotoCell, min_choice]

/-! ### Drawing and text -/

/-- A FILL, FRAME or IMAGE at its level's origin (R116 to R119). -/
theorem templateWork_plain (s : State) (f : Face) (language : Fin 4) (top : Level) {seg : Seg} {l : Layer} {m : Combine} {shape : Shape}
    {box : Rect} {fits : Bool} (plain : seg.plain = some (l, m, shape, box, fits)) :
    s.templateWork f language top seg =
      if (box.moved top.x top.y).inside = true then
        if fits = true then s.drawShape f l m shape (box.moved top.x top.y) else s.failSegment .imageRange
      else s.failSegment .range := by
  cases seg with
  | fill | frame | image =>
    unfold State.templateWork
    dsimp only
    rw [plainDraw_plain s f top.x top.y _ l m shape box fits plain]
    split_ifs <;> rfl
  | _ => cases plain

/-- The positions of a text field (R120 to R122). -/
def textLayout (s : State) (l : Fin 4) (n : Snapshot) (field : TextSource) (scale x width : Nat) : List (Nat × Nat) :=
  layoutText (s.languageLayout l).1 (s.languageLayout l).2 x width (24 * scale) (n.text field l)

section
variable {f : Face} {l : Fin 4} {n : Snapshot} {field : TextSource} {m : Combine} {col : Colour} {scale x y width : Nat}

theorem textWork_range (out : 1080 < x + width ∨ 1920 < y + 24 * scale) :
    s.textWork f l n field m col scale x y width = s.failSegment .range := by
  unfold State.textWork
  have outside : (Rect.mk x y width (glyphSize scale)).inside = false := Bool.eq_false_iff.mpr (not_inside out)
  rw [if_pos (by rw [outside]; rfl)]

variable (wide : x + width ≤ 1080) (high : y + 24 * scale ≤ 1920)
include wide high

theorem textWork_inside : s.textWork f l n field m col scale x y width =
    if textLayout s l n field scale x width = [] then s.nextCell f
    else s.setJobs [.text ⟨f, m, col, scale, y, textLayout s l n field scale x width⟩] := by
  have inside : (Rect.mk x y width (glyphSize scale)).inside = true := (inside_iff _).mpr ⟨wide, high⟩
  unfold State.textWork State.textJob
  rw [if_neg (by rw [inside]; simp)]
  show (match (match textLayout s l n field scale x width with | [] => [] | rest => [Job.text ⟨f, m, col, scale, y, rest⟩]) with
    | [] => s.nextCell f
    | jobs => s.setJobs jobs) = _
  cases textLayout s l n field scale x width with
  | nil => rfl
  | cons p ps => rfl

end

/-! ### The clauses of O39 -/

/-- A face other than the segment's is as it was. -/
theorem spentOn_face_ne {f : Face} (other : f ≠ g.face) : (spentOn s g top below).face f = s.face f :=
  setStack_face_ne s other _

/-- END: the level's use is returned, and the level below or the queue-level cell goes on (R99). -/
theorem templateStep_endLevel (budget : 1 ≤ top.budget) (kind : cellKind (levelCell s top) = some .endLevel) :
    s.templateStep g top below = (spentOn s g top below).popLevel g.face :=
  templateStep_work budget kind rfl rfl

/-- The kinds whose cells run whatever the snapshot (R102). -/
theorem templateFault_of_free {k : Kind} (free : k = .fill ∨ k = .frame ∨ k = .image ∨ k = .call ∨ k = .goto) (snapshot : Bool) :
    k.templateFault snapshot = none := by
  rcases free with rfl | rfl | rfl | rfl | rfl <;> rfl

theorem templateFault_of_barred {k : Kind} (barred : k = .route ∨ k = .clearRoute ∨ k = .clearSlot ∨ k = .waitFrame)
    (snapshot : Bool) :
    k.templateFault snapshot = some .context := by
  rcases barred with rfl | rfl | rfl | rfl <;> rfl

theorem templateFault_of_absent {k : Kind} (read : k = .textField ∨ k = .select ∨ k = .card) :
    k.templateFault false = some .context := by
  rcases read with rfl | rfl | rfl <;> rfl

theorem templateFault_of_present {k : Kind} (read : k = .textField ∨ k = .select) : k.templateFault true = none := by
  rcases read with rfl | rfl <;> rfl

/-- CALL enters its template at the level's origin, over the charged level (R97). -/
theorem templateStep_call (budget : 1 ≤ top.budget) {k x y : Nat} (kind : cellKind (levelCell s top) = some .call)
    (parses : parseSeg .call (levelCell s top) = some (.call k x y)) :
    s.templateStep g top below = (spentOn s g top below).enterTemplate g.face k (top.x + x) (top.y + y) (some (top.cell + 1)) :=
  templateStep_work budget kind rfl parses

theorem spentOn_pushLevel (segment : s.engine.segment = some g) (stage : g.stage = .expanding) (k x y : Nat)
    (ret : Option (Fin 16)) : ((spentOn s g top below).pushLevel g.face k x y ret).engine = s.engine := by
  rw [pushLevel_engine (s := spentOn s g top below) segment, ← stage]
  calc { s.engine with segment := some g } = { s.engine with segment := s.engine.segment } := by rw [segment]
    _ = s.engine := rfl

/-- A shape inside the face is drawn at the level's origin (R116 to R119). -/
theorem templateStep_plain (budget : 1 ≤ top.budget) {k : Kind} {seg : Seg} {l : Layer} {m : Combine} {shape : Shape} {box : Rect}
    {fits : Bool} (kind : cellKind (levelCell s top) = some k) (parses : parseSeg k (levelCell s top) = some seg)
    (plain : seg.plain = some (l, m, shape, box, fits)) :
    s.templateStep g top below =
      if (box.moved top.x top.y).inside = true then
        if fits = true then (spentOn s g top below).drawShape g.face l m shape (box.moved top.x top.y)
        else (spentOn s g top below).failSegment .imageRange
      else (spentOn s g top below).failSegment .range := by
  obtain ⟨shown, _⟩ := plain_of_parses parses plain
  have free : k = .fill ∨ k = .frame ∨ k = .image ∨ k = .call ∨ k = .goto := by tauto
  rw [templateStep_work budget kind (templateFault_of_free free _) parses, templateWork_plain _ _ _ _ plain]
  rfl

/-- A TEXT_FIELD works with the present snapshot, at the level's origin (R120). -/
theorem templateStep_textField (budget : 1 ≤ top.budget) {field : TextSource} {m : Combine} {col : Colour} {scale x y width : Nat}
    {sn : Snapshot} (kind : cellKind (levelCell s top) = some .textField)
    (parses : parseSeg .textField (levelCell s top) = some (.textField field m col scale x y width))
    (snapshot : (s.face g.face).snapshot = some sn) :
    s.templateStep g top below =
      (spentOn s g top below).textWork g.face g.language sn field m col scale (top.x + x) (top.y + y) width := by
  have same : ((spentOn s g top below).face g.face).snapshot = some sn := (spentOn_snapshot s g top below).trans snapshot
  rw [templateStep_work budget kind (by rw [snapshot]; rfl) parses]
  simp only [State.templateWork, same]
  rfl

/-- A text field is laid out under its language slot (R20, R120). -/
theorem textLayout_eq {l : Fin 4} {n : Snapshot} {field : TextSource} {rtl : Bool} {ellipsis : Option Nat} (u : State)
    (layout : (rtl, ellipsis) = u.languageLayout l) (scale x width : Nat) :
    textLayout u l n field scale x width = layoutText rtl ellipsis x width (24 * scale) (n.text field l) := by
  unfold textLayout
  rw [← layout]

/-- Settles O39. -/
theorem templateCellsRun : Obligations.TemplateCellsRun := by
  intro s g top below cell spent fails segment stage idle stack own charge fault
  obtain rfl : spent = spentOn s g top below := charge
  obtain rfl : cell = levelCell s top := own
  have runs {t : State} (h : s.templateStep g top below = t) : exec .templateCellStep s = .next t := by
    rw [exec_templateCellStep segment stage idle stack, h]
  have failing {why : FaultReason} (h : s.templateStep g top below = (spentOn s g top below).failSegment why) :
      exec .templateCellStep s = .next (fails why) := runs (by rw [h, spentOn_fails segment, fault])
  have levels : ((spentOn s g top below).face g.face).queue.stack.length = below.length + 1 := by rw [spentOn_stack]; rfl
  refine ⟨fun empty => runs ?runaway, fun budget => ⟨fun kind => failing (templateStep_badKind budget kind),
    fun kinds => failing ?barred, fun kinds absent => failing ?absent, fun kind present => failing ?nested,
    fun k kind free out => failing (templateStep_range budget kind (templateFault_of_free free _) out),
    fun k kind read present out => failing (templateStep_range budget kind ?present out),
    fun i kind parses => runs ?goto, fun kind => ⟨_, runs (templateStep_endLevel budget kind), popLevel_outside _ _,
      ?used, fun f other => (popLevel_face_ne _ other).trans (spentOn_face_ne other),
      ?ends, ?returns⟩,
    fun k x y kind parses => ?call, fun k seg l m shape box fits kind parses plain => ?plain,
    fun field m col scale x y width sn kind parses snapshot => ⟨fun out => failing ?textOut, fun wide high => ?text⟩⟩⟩
  case runaway => exact (templateStep_runaway empty).trans (setStage_of_segment segment _)
  case barred =>
    obtain ⟨k, kind, barred⟩ : ∃ k, cellKind (levelCell s top) = some k ∧
        (k = .route ∨ k = .clearRoute ∨ k = .clearSlot ∨ k = .waitFrame) := by
      rcases kinds with kind | kind | kind | kind <;> exact ⟨_, kind, by simp⟩
    exact templateStep_misplaced budget kind (templateFault_of_barred barred _)
  case absent =>
    obtain ⟨k, kind, read⟩ : ∃ k, cellKind (levelCell s top) = some k ∧ (k = .textField ∨ k = .select ∨ k = .card) := by
      rcases kinds with kind | kind | kind <;> exact ⟨_, kind, by simp⟩
    exact templateStep_misplaced budget kind (by rw [absent]; exact templateFault_of_absent read)
  case nested =>
    have held : (s.face g.face).snapshot.isSome = true := Option.isSome_iff_ne_none.mpr present
    exact templateStep_misplaced budget kind (by rw [held]; rfl)
  case present =>
    rw [Option.isSome_iff_ne_none.mpr present]
    exact templateFault_of_present read
  case goto => rw [templateStep_work budget kind rfl parses]; exact spentOn_gotoCell i
  case used => exact (popLevel_template (spentOn_stack s g top below) :)
  case ends =>
    rintro rfl
    exact popLevel_ends (spentOn_stack s g top []) segment
  case returns =>
    rintro l ls rfl
    exact (popLevel_returns (spentOn_stack s g top (l :: ls)) :)
  case call =>
    have enters := templateStep_call (below := below) (g := g) budget kind parses
    refine ⟨fun deep => failing (enters.trans (enterTemplate_deep (by rw [levels]; exact deep))), fun room => ?_⟩
    have shallow := levels.trans_lt room
    refine ⟨fun absent => failing (enters.trans (enterTemplate_absent shallow absent)), fun present copied => runs ?_,
      fun present still => ?_⟩
    · rw [enters, enterTemplate_copied shallow present copied]
      exact setStage_of_segment (s := spentOn s g top below) segment _
    · refine ⟨_, runs (enters.trans (enterTemplate_pushes shallow present still)), ?_, ?_, pushLevel_template _ _ _ _ _ _, rfl,
        pushLevel_entered _ _ _ _ _ _⟩
      · rw [← spentOn_pushLevel (below := below) segment stage k (top.x + x) (top.y + y) (some (top.cell + 1))]
        rfl
      · rw [pushLevel_stack, spentOn_stack]
        rfl
  case plain =>
    have draws := templateStep_plain (below := below) (g := g) budget kind parses plain
    obtain ⟨_, wide, high⟩ := plain_of_parses parses plain
    refine ⟨fun out => failing (draws.trans (if_neg (not_inside out))), fun right bottom => ?_⟩
    rw [if_pos ((inside_iff (box.moved top.x top.y)).mpr ⟨right, bottom⟩)] at draws
    refine ⟨fun long => failing (draws.trans (if_neg (by rw [long]; decide))), fun fitting => runs ?_⟩
    rw [draws, if_pos fitting, drawShape_eq (r := box.moved top.x top.y) wide high]
    rfl
  case textOut => exact (templateStep_textField budget kind parses snapshot).trans (textWork_range out)
  case text =>
    intro codes rtl ellipsis positions string layout laid
    obtain rfl : codes = sn.text field g.language := string.trans (by cases field <;> rfl)
    have slot : (rtl, ellipsis) = (spentOn s g top below).languageLayout g.language := layout
    rw [← textLayout_eq (spentOn s g top below) slot] at laid
    have writes := (templateStep_textField (below := below) budget kind parses snapshot).trans (textWork_inside wide high)
    rw [← laid] at writes
    refine ⟨fun none => runs ?_, fun some => runs ?_⟩
    · rw [writes, if_pos none]
      exact spentOn_nextCell
    · rw [writes, if_neg some]
      rfl

end Sys2Proof.Machine.DrawQueues
end

section
/-! PROOFS. How a ring cell and an entry snapshot are read (R84, R112, R200, R201). -/

namespace Sys2Proof.Machine.DrawQueues

open Sys2Proof Sys2Proof.Machine Sys2Proof.Machine.UpdateTransactions Sys2Proof.Machine.NameOrder Sys2Proof.Machine.FacePorts

theorem cellKind_iff (c : Bytes) (k : Kind) : cellKind c = some k ↔ num c 0 = kindCode k := kind_ofCode (c.getD 0 0) k

theorem boxed_iff (c : Bytes) (r : Rect) : cellRect c = some r ↔
    num16 c 6 = r.x ∧ r.x ≤ 1079 ∧ num16 c 8 = r.y ∧ r.y ≤ 1919 ∧
      num16 c 10 = r.w ∧ 1 ≤ r.w ∧ r.w ≤ 1080 ∧ num16 c 12 = r.h ∧ 1 ≤ r.h ∧ r.h ≤ 1920 := by
  simp only [cellRect_eq_some, within_eq_some, Nat.zero_le, true_and, and_assoc]

/-- The open mark of an entry image is absent unless byte 15 names it (R201). -/
theorem imgOpenMark_eq (m : Mem) :
    imgOpenMark m = if m.num 15 = 1 then .opened else if m.num 15 = 2 then .closed else .absent := by
  unfold imgOpenMark OpenMark.ofCode
  split <;> simp_all

theorem imgName_eq (m : Mem) (l : Fin 4) : imgName m l =
    if m.num (21 + 49 * l.val) = 0 then none else some (m.codes (22 + 49 * l.val) (m.num (21 + 49 * l.val))) := by
  unfold imgName nameOffset
  rw [Nat.add_right_comm]

section
variable {c : Bytes} {layer : Layer → Prop} {combine : Combine → Prop} {boxed : Rect → Prop}

/-- The fields of a cell of each kind, and their ranges (R84, R200). -/
theorem parseSeg_iff (k : Kind) (seg : Seg)
    (layers : ∀ l, layer l ↔ num c 2 = layerCode l) (combines : ∀ m, combine m ↔ num c 3 = combineCode m)
    (boxes : ∀ r, boxed r ↔ num16 c 6 = r.x ∧ r.x ≤ 1079 ∧ num16 c 8 = r.y ∧ r.y ≤ 1919 ∧
      num16 c 10 = r.w ∧ 1 ≤ r.w ∧ r.w ≤ 1080 ∧ num16 c 12 = r.h ∧ 1 ≤ r.h ∧ r.h ≤ 1920) :
    parseSeg k c = some seg ↔
      match k, seg with
      | .fill, .fill l m col r => layer l ∧ combine m ∧ num c 4 = col.toNat ∧ boxed r
      | .frame, .frame l m col t r => layer l ∧ combine m ∧ num c 4 = col.toNat ∧ num c 5 = t ∧ 1 ≤ t ∧ t ≤ 8 ∧ boxed r
      | .image, .image l m keyed r o =>
        layer l ∧ combine m ∧ num c 5 = (if keyed = true then 1 else 0) ∧ boxed r ∧ num16 c 14 = o ∧ o ≤ 4095
      | .call, .call t x y => num c 5 = t ∧ t ≤ 63 ∧ num16 c 6 = x ∧ x ≤ 1079 ∧ num16 c 8 = y ∧ y ≤ 1919
      | .card, .card n slot t r => num16 c 2 = n ∧ n ≤ 1023 ∧ num c 4 = slot.val ∧ num c 5 = t ∧ t ≤ 63 ∧ boxed r
      | .route, .route n col w => num16 c 2 = n ∧ n ≤ 1023 ∧ num c 4 = col.toNat ∧ col ≠ 0 ∧ num c 5 = w ∧ 1 ≤ w ∧ w ≤ 8
      | .clearSlot, .clearSlot slot col => num c 4 = slot.val ∧ num c 5 = col.toNat
      | .textField, .textField field m col scale x y w =>
        num c 2 = sourceCode field ∧ combine m ∧ num c 4 = col.toNat ∧ num c 5 = scale ∧ 1 ≤ scale ∧ scale ≤ 2 ∧
        num16 c 6 = x ∧ x ≤ 1079 ∧ num16 c 8 = y ∧ y ≤ 1919 ∧ num16 c 10 = w ∧ 1 ≤ w ∧ w ≤ 1080
      | .select, .select sel n => num c 2 = selectorCode sel ∧ num c 4 = n ∧ 1 ≤ n ∧ n ≤ 8
      | .goto, .goto i => num c 4 = i.val
      | .clearRoute, .clearRoute | .waitFrame, .waitFrame | .endLevel, .endLevel => True
      | _, _ => False := by
  have layers' (l : Layer) : Layer.ofCode (c.getD 2 0) = some l ↔ layer l := (layer_ofCode _ l).trans (layers l).symm
  have combines' (m : Combine) : Combine.ofCode (c.getD 3 0) = some m ↔ combine m := (combine_ofCode _ m).trans (combines m).symm
  have boxes' (r : Rect) : cellRect c = some r ↔ boxed r := (boxed_iff c r).trans (boxes r).symm
  have keyed' (keyed : Bool) : keyedOfCode (c.getD 5 0) = some keyed ↔ num c 5 = (if keyed = true then 1 else 0) := keyed_ofCode _ keyed
  have sources' (field : TextSource) : TextSource.ofCode (c.getD 2 0) = some field ↔ num c 2 = sourceCode field := source_ofCode _ field
  have selectors' (sel : Selector) : Selector.ofCode (c.getD 2 0) = some sel ↔ num c 2 = selectorCode sel := selector_ofCode _ sel
  rw [parseSeg_eq_some]
  cases k with
  | fill =>
    cases seg with
    | fill => simp only [SegReads, layers', combines', colourOf_eq_some, boxes']
    | _ => exact Iff.rfl
  | frame =>
    cases seg with
    | frame => simp only [SegReads, layers', combines', colourOf_eq_some, boxes', within_eq_some, and_assoc]
    | _ => exact Iff.rfl
  | image =>
    cases seg with
    | image => simp only [SegReads, layers', combines', keyed', boxes', within_eq_some, Nat.zero_le, true_and]
    | _ => exact Iff.rfl
  | call =>
    cases seg with
    | call => simp only [SegReads, within_eq_some, Nat.zero_le, true_and, and_assoc]
    | _ => exact Iff.rfl
  | card =>
    cases seg with
    | card => simp only [SegReads, finOf_eq_some, boxes', within_eq_some, Nat.zero_le, true_and, and_assoc]
    | _ => exact Iff.rfl
  | route =>
    cases seg with
    | route =>
      simp only [SegReads, routeColour_iff]
      simp only [within_eq_some, Nat.zero_le, true_and, and_assoc]
    | _ => exact Iff.rfl
  | clearSlot =>
    cases seg with
    | clearSlot => simp only [SegReads, finOf_eq_some, colourOf_eq_some]
    | _ => exact Iff.rfl
  | textField =>
    cases seg with
    | textField => simp only [SegReads, sources', combines', colourOf_eq_some, within_eq_some, Nat.zero_le, true_and, and_assoc]
    | _ => exact Iff.rfl
  | select =>
    cases seg with
    | select => simp only [SegReads, selectors', within_eq_some]
    | _ => exact Iff.rfl
  | goto =>
    cases seg with
    | goto => simp only [SegReads, finOf_eq_some]
    | _ => exact Iff.rfl
  | clearRoute | waitFrame | endLevel => cases seg <;> exact Iff.rfl

end

/-! ### The segment at the start of its cell (R103, R111) -/

/-- What a queue-level cell's work leaves of a context: all but the stack, the snapshot and the slots. -/
def bareContext (c : FaceContext) : FaceContext :=
  { c with queue := { c.queue with stack := [] }, snapshot := none, cards := Vector.replicate 12 none, route := none }

/-- What a queue-level cell's work leaves of its segment. -/
def bareSegment (g : Segment) : Segment := { g with stage := .finished, card := none, routed := false }

/-- What the work of a cell of face `f` leaves as it is. -/
def leftBy (f : Face) (s : State) : State :=
  { s.modFace f bareContext with
    engine := ⟨s.engine.segment.map bareSegment, [], s.engine.glyphHeld⟩
    templates := ⟨[], none, []⟩ }

variable {s t : State} {f : Face}

theorem leftBy_modFace (s : State) (f : Face) (u : FaceContext → FaceContext)
    (same : bareContext (u (s.face f)) = bareContext (s.face f)) :
    leftBy f (s.modFace f u) = leftBy f s := by
  have faces : (s.modFace f u).modFace f bareContext = s.modFace f bareContext := by
    rw [modFace_modFace]
    exact modFace_congr same
  exact congrArg (fun v : State => { v with
    engine := ⟨s.engine.segment.map bareSegment, [], s.engine.glyphHeld⟩, templates := ⟨[], none, []⟩ }) faces

theorem leftBy_modSegment (s : State) (f : Face) (u : Segment → Segment) (same : ∀ g, bareSegment (u g) = bareSegment g) :
    leftBy f (s.modSegment u) = leftBy f s := by
  have segment : (s.engine.segment.map u).map bareSegment = s.engine.segment.map bareSegment := by
    rw [Option.map_map]
    exact congrArg (Option.map · s.engine.segment) (funext same)
  exact congrArg (fun g => { leftBy f s with engine := ⟨g, [], s.engine.glyphHeld⟩ }) segment

@[simp] theorem leftBy_setStage (s : State) (f : Face) (st : Stage) : leftBy f (s.setStage st) = leftBy f s :=
  leftBy_modSegment s f _ (fun _ => rfl)

@[simp] theorem leftBy_failSegment (s : State) (f : Face) (r : FaultReason) : leftBy f (s.failSegment r) = leftBy f s :=
  leftBy_setStage s f _

@[simp] theorem leftBy_setJobs (s : State) (f : Face) (jobs : List Job) : leftBy f (s.setJobs jobs) = leftBy f s := rfl

@[simp] theorem leftBy_pushLevel (s : State) (f : Face) (k x y : Nat) (ret : Option (Fin 16)) :
    leftBy f (s.pushLevel f k x y ret) = leftBy f s :=
  calc leftBy f (s.pushLevel f k x y ret)
      = leftBy f (s.setStack f (⟨k, 0, ret, x, y, Config.levelBudget⟩ :: (s.face f).queue.stack)) := leftBy_setStage _ f _
    _ = leftBy f s := leftBy_modFace s f _ rfl

@[simp] theorem leftBy_enterTemplate (s : State) (f : Face) (k x y : Nat) (ret : Option (Fin 16)) :
    leftBy f (s.enterTemplate f k x y ret) = leftBy f s := by
  unfold State.enterTemplate
  split_ifs <;> simp only [leftBy_failSegment, leftBy_setStage, leftBy_pushLevel]

@[simp] theorem leftBy_drawShape (s : State) (f : Face) (l : Layer) (m : Combine) (shape : Shape) (r : Rect) :
    leftBy f (s.drawShape f l m shape r) = leftBy f s := by
  unfold State.drawShape
  dsimp only
  rw [leftBy_setJobs]
  split
  · exact leftBy_modFace s f _ rfl
  · rfl

@[simp] theorem leftBy_routeSnapshot (s : State) (f : Face) (n : Nat) (colour : Colour) (width : Nat) :
    leftBy f (s.routeSnapshot f n colour width) = leftBy f s := by
  unfold State.routeSnapshot
  dsimp only
  split
  · exact leftBy_failSegment s f _
  · rw [leftBy_modSegment, leftBy_setJobs]
    · exact leftBy_modFace s f _ rfl
    · exact fun _ => rfl

@[simp] theorem leftBy_cardSnapshot (s : State) (f : Face) (n : Nat) (slot : Fin 12) (k : Nat) (r : Rect) :
    leftBy f (s.cardSnapshot f n slot k r) = leftBy f s := by
  unfold State.cardSnapshot
  dsimp only
  split
  · exact leftBy_failSegment s f _
  · rw [leftBy_enterTemplate, leftBy_modSegment]
    · exact leftBy_modFace s f _ rfl
    · exact fun _ => rfl

@[simp] theorem leftBy_clearSlotWork (s : State) (f : Face) (slot : Fin 12) (colour : Colour) :
    leftBy f (s.clearSlotWork f slot colour) = leftBy f s := by
  unfold State.clearSlotWork
  split <;> simp only [leftBy_setStage, leftBy_setJobs]

@[simp] theorem leftBy_routeWork (s : State) (f : Face) (n : Nat) (colour : Colour) (width : Nat) :
    leftBy f (s.routeWork f n colour width) = leftBy f s := by
  unfold State.routeWork
  split <;> simp only [leftBy_setStage, leftBy_setJobs, leftBy_routeSnapshot]

@[simp] theorem leftBy_clearRouteWork (s : State) (f : Face) : leftBy f (s.clearRouteWork f) = leftBy f s := by
  unfold State.clearRouteWork
  split
  · simp only [leftBy_setStage, leftBy_setJobs]
  · exact (leftBy_setStage _ f _).trans (leftBy_modFace s f _ rfl)

theorem leftBy_queueWork (s : State) (f : Face) (seg : Seg) : leftBy f (s.queueWork f seg) = leftBy f s := by
  cases seg with
  | fill | frame | image =>
    unfold State.queueWork
    dsimp only
    split
    · next draws =>
      obtain ⟨l, m, shape, r, rfl⟩ := plainDraw_drawn draws
      rw [leftBy_setStage, leftBy_drawShape]
    · exact leftBy_failSegment s f _
    · rfl
  | call k x y => exact leftBy_enterTemplate s f k x y none
  | card n slot k r =>
    unfold State.queueWork
    dsimp only
    split
    · exact leftBy_cardSnapshot s f n slot k r
    · exact leftBy_failSegment s f _
  | route n colour width => exact leftBy_routeWork s f n colour width
  | clearRoute => exact leftBy_clearRouteWork s f
  | clearSlot slot colour => exact leftBy_clearSlotWork s f slot colour
  | waitFrame => exact leftBy_setStage s f _
  | _ => exact leftBy_failSegment s f _

theorem leftBy_startCell (s : State) (f : Face) (cell : Bytes) : leftBy f (s.startCell f cell) = leftBy f s := by
  unfold State.startCell
  split
  · exact leftBy_failSegment s f _
  · split
    · exact leftBy_failSegment s f _
    · split
      · exact leftBy_failSegment s f _
      · exact leftBy_queueWork s f _

/-! ### What a work that leaves the rest as it is comes to -/

section
variable (same : leftBy f t = leftBy f s)
include same

theorem outside_of_left : t = { s with faces := t.faces, engine := t.engine, templates := t.templates } := by
  cases s
  cases t
  simp only [leftBy, State.modFace, State.mk.injEq] at same
  simp only [same]

theorem face_ne_of_left {h : Face} (other : h ≠ f) : t.face h = s.face h := by
  have left := congrArg (State.face · h) same
  calc t.face h = (t.modFace f bareContext).face h := (modFace_face_ne t (Ne.symm other) _).symm
    _ = (s.modFace f bareContext).face h := left
    _ = s.face h := modFace_face_ne s (Ne.symm other) _

theorem context_of_left : bareContext (t.face f) = bareContext (s.face f) := by
  have left := congrArg (State.face · f) same
  calc bareContext (t.face f) = (t.modFace f bareContext).face f := (modFace_face_same t f _).symm
    _ = (s.modFace f bareContext).face f := left
    _ = bareContext (s.face f) := modFace_face_same s f _

theorem segment_of_left {g : Segment} (segment : s.engine.segment = some g) :
    ∃ h, t.engine.segment = some h ∧ bareSegment h = bareSegment g := by
  have left : t.engine.segment.map bareSegment = s.engine.segment.map bareSegment :=
    congrArg (fun v : State => v.engine.segment) same
  rw [segment] at left
  exact Option.map_eq_some_iff.mp left

theorem glyphHeld_of_left : t.engine.glyphHeld = s.engine.glyphHeld := by
  have left : (leftBy f t).engine.glyphHeld = (leftBy f s).engine.glyphHeld := by rw [same]
  exact left

end

end Sys2Proof.Machine.DrawQueues
end

section
/-! PROOFS. The cells of queue level: how each begins at its grant (R91, R97, R103, R111, R116 to R131). -/

namespace Sys2Proof.Machine.DrawQueues

open Sys2Proof Sys2Proof.Machine Sys2Proof.Machine.UpdateTransactions Sys2Proof.Machine.NameOrder Sys2Proof.Machine.FacePorts

variable {s t : State} {f : Face} {g h : Segment} {cell : Bytes} {k : Kind} {tpl : Nat}

/-- The segment of a state whose stage was set. -/
theorem setStage_after {st : Stage} (segment : s.engine.segment = some g) (after : (s.setStage st).engine.segment = some h) :
    h = { g with stage := st } := by
  rw [setStage_of_segment segment] at after
  exact (Option.some.inj after).symm

/-! ### The checks of a queue-level cell (R103) -/

theorem startCell_badKind (kind : cellKind cell = none) : s.startCell f cell = s.failSegment .badKind := by
  simp only [State.startCell, kind]

theorem startCell_barred (kind : cellKind cell = some k) (barred : k.atQueueLevel = false) :
    s.startCell f cell = s.failSegment .context := by
  simp only [State.startCell, kind, barred, Bool.not_false, if_true]

theorem startCell_range (kind : cellKind cell = some k) (placed : k.atQueueLevel = true) (out : parseSeg k cell = none) :
    s.startCell f cell = s.failSegment .range := by
  simp only [State.startCell, kind, placed, out, Bool.not_true, Bool.false_eq_true, if_false]

theorem startCell_work {seg : Seg} (kind : cellKind cell = some k) (placed : k.atQueueLevel = true)
    (parses : parseSeg k cell = some seg) : s.startCell f cell = s.queueWork f seg := by
  simp only [State.startCell, kind, placed, parses, Bool.not_true, Bool.false_eq_true, if_false]

theorem atQueueLevel_of_ne (text : k ≠ .textField) (select : k ≠ .select) (goto : k ≠ .goto) (endLevel : k ≠ .endLevel) :
    k.atQueueLevel = true := by
  cases k with
  | textField => exact absurd rfl text
  | select => exact absurd rfl select
  | goto => exact absurd rfl goto
  | endLevel => exact absurd rfl endLevel
  | _ => rfl

/-! ### FILL, FRAME and IMAGE (R116 to R119) -/

section
variable {l : Layer} {m : Combine} {shape : Shape} {box : Rect} {fits : Bool} {seg : Seg}

theorem moved_zero (r : Rect) : r.moved 0 0 = r := by simp [Rect.moved]

theorem queueWork_plain (plain : seg.plain = some (l, m, shape, box, fits)) :
    s.queueWork f seg =
      if box.inside = true then
        if fits = true then (s.drawShape f l m shape box).setStage .drawing else s.failSegment .imageRange
      else s.failSegment .range := by
  cases seg with
  | fill | frame | image =>
    unfold State.queueWork
    dsimp only
    rw [plainDraw_plain s f 0 0 _ l m shape box fits plain, moved_zero]
    split_ifs <;> rfl
  | _ => cases plain

end

/-! ### What each kind begins: `t` is the state the cell leaves, and `h` its segment -/

section
variable (segment : s.engine.segment = some g) (idle : s.engine.jobs = []) (begins : s.startCell f cell = t)
  (after : t.engine.segment = some h)
include segment begins after

theorem failed_of_badKind (kind : cellKind cell = none) : h.stage = .failed .badKind := by
  rw [startCell_badKind kind] at begins
  subst begins
  rw [setStage_after segment after]

theorem failed_of_barred (kind : cellKind cell = some k) (barred : k.atQueueLevel = false) : h.stage = .failed .context := by
  rw [startCell_barred kind barred] at begins
  subst begins
  rw [setStage_after segment after]

theorem failed_of_range (kind : cellKind cell = some k) (placed : k.atQueueLevel = true) (out : parseSeg k cell = none) :
    h.stage = .failed .range := by
  rw [startCell_range kind placed out] at begins
  subst begins
  rw [setStage_after segment after]

include idle

/-- FILL, FRAME and IMAGE (R116 to R119). -/
theorem begins_plain {l : Layer} {m : Combine} {shape : Shape} {box : Rect} {fits : Bool} {seg : Seg}
    (kind : cellKind cell = some k) (parses : parseSeg k cell = some seg) (plain : seg.plain = some (l, m, shape, box, fits)) :
    (1080 < box.x + box.w ∨ 1920 < box.y + box.h →
      h.stage = .failed .range ∧ t.engine.jobs = [] ∧ (t.face f).route = (s.face f).route) ∧
    (box.x + box.w ≤ 1080 → box.y + box.h ≤ 1920 →
      (fits = false → h.stage = .failed .imageRange ∧ t.engine.jobs = [] ∧ (t.face f).route = (s.face f).route) ∧
      (fits = true → h.stage = .drawing ∧ t.engine.jobs = [.plot ⟨f, l, m, shape, box, 0⟩] ∧
        (t.face f).route = disturbedBy l (s.face f).route)) := by
  obtain ⟨shown, wide, high⟩ := plain_of_parses parses plain
  have placed : k.atQueueLevel = true := by rcases shown with rfl | rfl | rfl <;> rfl
  rw [startCell_work kind placed parses, queueWork_plain plain] at begins
  refine ⟨fun out => ?_, fun right bottom => ?_⟩
  · rw [if_neg (not_inside out)] at begins
    subst begins
    exact ⟨by rw [setStage_after segment after], idle, rfl⟩
  · rw [if_pos ((inside_iff box).mpr ⟨right, bottom⟩)] at begins
    refine ⟨fun long => ?_, fun fitting => ?_⟩
    · rw [if_neg (by rw [long]; decide)] at begins
      subst begins
      exact ⟨by rw [setStage_after segment after], idle, rfl⟩
    · rw [if_pos fitting, drawShape_eq wide high] at begins
      obtain ⟨v, hv⟩ : ∃ v, v = s.modFace f (fun c => { c with route := disturbedBy l c.route }) := ⟨_, rfl⟩
      have route : (v.face f).route = disturbedBy l (s.face f).route := by rw [hv, modFace_face_same]
      have still : v.engine.segment = some g := hv ▸ segment
      rw [← hv] at begins
      subst begins
      exact ⟨by rw [setStage_after (s := v.setJobs _) still after], rfl, route⟩

end

/-! ### CALL and CARD (R97, R124) -/

/-- The first template of a queue-level cell. -/
theorem enterTemplate_first {x y : Nat} (segment : s.engine.segment = some g) (empty : (s.face f).queue.stack = [])
    (enters : s.enterTemplate f tpl x y none = t) (after : t.engine.segment = some h) :
    ((s.template tpl).cells = none → h.stage = .failed .noTemplate) ∧
    ((s.template tpl).cells ≠ none → s.templates.copying = some tpl → h.stage = .pushing tpl x y none) ∧
    ((s.template tpl).cells ≠ none → s.templates.copying ≠ some tpl →
      h.stage = .expanding ∧ (t.face f).queue.stack = [⟨tpl, 0, none, x, y, 32⟩] ∧
      (t.template tpl).use = (s.template tpl).use + 1 ∧ tpl ∈ t.templates.entered) := by
  have shallow : (s.face f).queue.stack.length < 4 := by rw [empty]; decide
  refine ⟨fun absent => ?_, fun present copied => ?_, fun present still => ?_⟩
  · rw [enterTemplate_absent shallow absent] at enters
    subst enters
    rw [setStage_after segment after]
  · rw [enterTemplate_copied shallow present copied] at enters
    subst enters
    rw [setStage_after segment after]
  · rw [enterTemplate_pushes shallow present still] at enters
    subst enters
    refine ⟨?_, by rw [pushLevel_stack, empty], ?_, (pushLevel_entered s f _ _ _ _ _).mpr (.inl rfl)⟩
    · rw [pushLevel_engine segment] at after
      rw [← Option.some.inj after]
    · rw [pushLevel_template, if_pos rfl]

/-- Entering a template moves only the stage of the segment and the stack of the context. -/
theorem enterTemplate_keeps_context (s : State) (f : Face) (k x y : Nat) (ret : Option (Fin 16)) :
    (s.enterTemplate f k x y ret).face f =
      { s.face f with queue := { (s.face f).queue with stack := ((s.enterTemplate f k x y ret).face f).queue.stack } } := by
  unfold State.enterTemplate
  split_ifs
  · rfl
  · rfl
  · rfl
  · rw [pushLevel_stack]
    exact setStack_face s f _

theorem enterTemplate_keeps_segment {x y : Nat} {ret : Option (Fin 16)} (segment : s.engine.segment = some g)
    (after : (s.enterTemplate f tpl x y ret).engine.segment = some h) : h = { g with stage := h.stage } := by
  unfold State.enterTemplate at after
  split_ifs at after
  · rw [setStage_after segment after]
  · rw [setStage_after segment after]
  · rw [setStage_after segment after]
  · rw [pushLevel_engine segment] at after
    rw [← Option.some.inj after]

/-- The state with the entry snapshot of a LIVE entry taken, and its card slot DRAWING (R124). -/
def carded (s : State) (f : Face) (n : Nat) (slot : Fin 12) (r : Rect) : State :=
  (s.modFace f (fun c => { c.setCard slot (some ⟨.drawing, n, (s.entry n).generation, r⟩) with
    snapshot := some ((s.entry n).snapshot n) })).modSegment (fun g => { g with card := some slot })

theorem carded_face (s : State) (f : Face) (n : Nat) (slot : Fin 12) (r : Rect) : (carded s f n slot r).face f =
    { (s.face f).setCard slot (some ⟨.drawing, n, (s.entry n).generation, r⟩) with
      snapshot := some ((s.entry n).snapshot n) } := by
  unfold carded
  exact (modFace_face_same s f (fun c => { c.setCard slot (some ⟨.drawing, n, (s.entry n).generation, r⟩) with
    snapshot := some ((s.entry n).snapshot n) }) :)

theorem cardSnapshot_live {n : Nat} {slot : Fin 12} {r : Rect} (live : (s.entry n).state = .live) :
    s.cardSnapshot f n slot tpl r = (carded s f n slot r).enterTemplate f tpl r.x r.y none := by
  unfold State.cardSnapshot
  exact if_neg (not_not.mpr live)

theorem carded_segment {n : Nat} {slot : Fin 12} {r : Rect} (segment : s.engine.segment = some g) :
    (carded s f n slot r).engine.segment = some { g with card := some slot } := congrArg (Option.map _) segment

section
variable (segment : s.engine.segment = some g) (begins : s.startCell f cell = t) (after : t.engine.segment = some h)
include segment begins after

theorem begins_call {x y : Nat} (kind : cellKind cell = some .call) (parses : parseSeg .call cell = some (.call tpl x y))
    (empty : (s.face f).queue.stack = []) :
    ((s.template tpl).cells = none → h.stage = .failed .noTemplate) ∧
    ((s.template tpl).cells ≠ none → s.templates.copying = some tpl → h.stage = .pushing tpl x y none) ∧
    ((s.template tpl).cells ≠ none → s.templates.copying ≠ some tpl →
      h.stage = .expanding ∧ (t.face f).queue.stack = [⟨tpl, 0, none, x, y, 32⟩] ∧
      (t.template tpl).use = (s.template tpl).use + 1 ∧ tpl ∈ t.templates.entered) := by
  rw [startCell_work kind rfl parses] at begins
  exact enterTemplate_first segment empty begins after

theorem begins_card {n : Nat} {slot : Fin 12} {box : Rect} (kind : cellKind cell = some .card)
    (parses : parseSeg .card cell = some (.card n slot tpl box)) :
    (1080 < box.x + box.w ∨ 1920 < box.y + box.h → h.stage = .failed .range ∧ (t.face f).cards = (s.face f).cards) ∧
    (box.x + box.w ≤ 1080 → box.y + box.h ≤ 1920 →
      ((s.entry n).state ≠ .live → h.stage = .failed .notLive ∧ (t.face f).cards = (s.face f).cards ∧
        (t.face f).snapshot = (s.face f).snapshot) ∧
      ((s.entry n).state = .live → (t.face f).snapshot = some ((s.entry n).snapshot n) ∧ h.card = some slot ∧
        (t.face f).cards = (s.face f).cards.set slot (some ⟨.drawing, n, (s.entry n).generation, box⟩) ∧
        ((s.face f).queue.stack = [] →
          ((s.template tpl).cells = none → h.stage = .failed .noTemplate) ∧
          ((s.template tpl).cells ≠ none → s.templates.copying = some tpl → h.stage = .pushing tpl box.x box.y none) ∧
          ((s.template tpl).cells ≠ none → s.templates.copying ≠ some tpl →
            h.stage = .expanding ∧ (t.face f).queue.stack = [⟨tpl, 0, none, box.x, box.y, 32⟩] ∧
            (t.template tpl).use = (s.template tpl).use + 1 ∧ tpl ∈ t.templates.entered)))) := by
  have runs : (if box.inside = true then s.cardSnapshot f n slot tpl box else s.failSegment .range) = t :=
    (startCell_work kind rfl parses).symm.trans begins
  refine ⟨fun out => ?_, fun right bottom => ?_⟩
  · rw [if_neg (not_inside out)] at runs
    subst runs
    exact ⟨by rw [setStage_after segment after], rfl⟩
  · rw [if_pos ((inside_iff box).mpr ⟨right, bottom⟩)] at runs
    refine ⟨fun dead => ?_, fun live => ?_⟩
    · have fails : s.failSegment .notLive = t := by rw [← runs]; exact (if_pos dead).symm
      subst fails
      exact ⟨by rw [setStage_after segment after], rfl, rfl⟩
    · rw [cardSnapshot_live live] at runs
      have context := enterTemplate_keeps_context (carded s f n slot box) f tpl box.x box.y none
      have noted := enterTemplate_keeps_segment (carded_segment segment) (runs ▸ after)
      rw [runs, carded_face] at context
      refine ⟨by rw [context], by rw [noted], by rw [context]; rfl, fun empty => ?_⟩
      have bare : ((carded s f n slot box).face f).queue.stack = [] := by rw [carded_face]; exact empty
      exact (enterTemplate_first (s := carded s f n slot box) (carded_segment segment) bare runs after :)

end

/-! ### ROUTE, CLEAR_ROUTE and CLEAR_SLOT (R126, R129 to R131) -/

theorem routeErasable_of_drawn {v : RouteRecord} (drawn : v.state = .drawn ∨ v.state = .stale) : routeErasable (some v) = true :=
  decide_eq_true drawn

theorem not_routeErasable {v : Option RouteRecord}
    (undrawn : ∀ r, v = some r → r.state = .drawing ∨ r.state = .gone ∨ r.state = .disturbed) : routeErasable v = false := by
  cases v with
  | none => rfl
  | some r => rcases undrawn r rfl with state | state | state <;> simp [routeErasable, state]

theorem parses_route {seg : Seg} (parses : parseSeg .route cell = some seg) : ∃ n colour width, seg = .route n colour width := by
  have reads := parseSeg_reads parses
  cases seg with
  | route n colour width => exact ⟨n, colour, width, rfl⟩
  | _ => exact reads.elim

section
variable (segment : s.engine.segment = some g) (begins : s.startCell f cell = t) (after : t.engine.segment = some h)
include segment begins after

/-- A DRAWN or STALE slot is erased first (R130, R131). -/
theorem begins_erase {r : RouteRecord}
    (kinds : cellKind cell = some .clearRoute ∨ (cellKind cell = some .route ∧ parseSeg .route cell ≠ none))
    (route : (s.face f).route = some r) (drawn : r.state = .drawn ∨ r.state = .stale) :
    h.stage = .erasing ∧ (t.face f).route = (s.face f).route ∧
    t.engine.jobs = routeJob f (s.face f).window s.settings.orientation[f] r.colour r.width r.copy := by
  have erasable : routeErasable (s.face f).route = true := by rw [route]; exact routeErasable_of_drawn drawn
  have erases : s.startCell f cell = (s.setJobs (s.eraseJobs f)).setStage .erasing := by
    rcases kinds with kind | ⟨kind, present⟩
    · rw [startCell_work kind rfl rfl]
      exact if_pos erasable
    · obtain ⟨seg, parses⟩ := Option.ne_none_iff_exists'.mp present
      obtain ⟨n, colour, width, rfl⟩ := parses_route parses
      rw [startCell_work kind rfl parses]
      exact if_pos erasable
  have jobs : s.eraseJobs f = routeJob f (s.face f).window s.settings.orientation[f] r.colour r.width r.copy := by
    unfold State.eraseJobs
    rw [route]
  rw [erases] at begins
  subst begins
  exact ⟨by rw [setStage_after (s := s.setJobs _) segment after], rfl, jobs⟩

variable (idle : s.engine.jobs = [])
  (undrawn : ∀ r, (s.face f).route = some r → r.state = .drawing ∨ r.state = .gone ∨ r.state = .disturbed)
include idle undrawn

theorem begins_clearRoute (kind : cellKind cell = some .clearRoute) :
    h.stage = .finished ∧ (t.face f).route = none ∧ t.engine.jobs = [] := by
  obtain ⟨v, hv⟩ : ∃ v, v = s.modFace f (fun c => { c with route := none }) := ⟨_, rfl⟩
  have empties : v.setStage .finished = t := by
    rw [← begins, startCell_work kind rfl rfl, hv]
    exact (if_neg (by rw [not_routeErasable undrawn]; decide)).symm
  have still : v.engine.segment = some g := hv ▸ segment
  have none : (v.face f).route = none := by rw [hv, modFace_face_same]
  subst empties
  exact ⟨by rw [setStage_after still after], none, hv ▸ idle⟩

/-- The ROUTE snapshot, taken at once (R130). -/
theorem begins_route {n width : Nat} {colour : Colour} (kind : cellKind cell = some .route)
    (parses : parseSeg .route cell = some (.route n colour width)) :
    ((s.entry n).state ≠ .live → h.stage = .failed .notLive ∧ (t.face f).route = (s.face f).route ∧ t.engine.jobs = []) ∧
    ((s.entry n).state = .live →
      (t.face f).route = some ⟨.drawing, n, (s.entry n).generation, colour, width, s.routeOf (s.entry n)⟩ ∧ h.routed = true ∧
      t.engine.jobs = routeJob f (s.face f).window s.settings.orientation[f] colour width (s.routeOf (s.entry n)) ∧
      h.stage = if t.engine.jobs = [] then .finished else .routing) := by
  have snaps : s.routeSnapshot f n colour width = t := by
    rw [← begins, startCell_work kind rfl parses]
    exact (if_neg (by rw [not_routeErasable undrawn]; decide)).symm
  refine ⟨fun dead => ?_, fun live => ?_⟩
  · have fails : s.failSegment .notLive = t := by rw [← snaps]; exact (if_pos dead).symm
    subst fails
    exact ⟨by rw [setStage_after segment after], rfl, idle⟩
  · obtain ⟨jobs, hjobs⟩ : ∃ jobs, jobs = routeJob f (s.face f).window s.settings.orientation[f] colour width
      (s.routeOf (s.entry n)) := ⟨_, rfl⟩
    obtain ⟨v, hv⟩ : ∃ v, v = s.modFace f (fun c =>
      { c with route := some ⟨.drawing, n, (s.entry n).generation, colour, width, s.routeOf (s.entry n)⟩ }) := ⟨_, rfl⟩
    have route : (v.face f).route = some ⟨.drawing, n, (s.entry n).generation, colour, width, s.routeOf (s.entry n)⟩ := by
      rw [hv, modFace_face_same]
    have still : v.engine.segment = some g := hv ▸ segment
    have draws : (v.setJobs jobs).modSegment (fun g =>
        { g with routed := true, stage := if jobs.isEmpty then .finished else .routing }) = t := by
      rw [← snaps, hv, hjobs]
      exact (if_neg (not_not.mpr live)).symm
    subst draws
    have next : v.engine.segment.map (fun g => { g with routed := true, stage := if jobs.isEmpty then .finished else .routing }) =
        some h := after
    rw [still] at next
    obtain rfl := Option.some.inj next
    refine ⟨route, rfl, hjobs, ?_⟩
    show (if jobs.isEmpty = true then Stage.finished else .routing) = if jobs = [] then Stage.finished else .routing
    simp only [List.isEmpty_iff]

omit undrawn

theorem begins_clearSlot {slot : Fin 12} {colour : Colour} (kind : cellKind cell = some .clearSlot)
    (parses : parseSeg .clearSlot cell = some (.clearSlot slot colour)) :
    (t.face f).cards = (s.face f).cards ∧
    ((s.face f).cards[slot] = none → h.stage = .finished ∧ t.engine.jobs = []) ∧
    (∀ card : Card, (s.face f).cards[slot] = some card → h.stage = .clearing slot ∧
      t.engine.jobs = (if card.rect.w = 0 ∨ card.rect.h = 0 then []
                       else [.plot ⟨f, .card, .replace, .solid colour, card.rect, 0⟩])) := by
  have clears : s.clearSlotWork f slot colour = t := (startCell_work kind rfl parses).symm.trans begins
  unfold State.clearSlotWork at clears
  cases slotted : (s.face f).cards[slot] with
  | none =>
    rw [slotted] at clears
    subst clears
    exact ⟨rfl, fun _ => ⟨by rw [setStage_after segment after], idle⟩, fun card held => by cases held⟩
  | some card =>
    rw [slotted] at clears
    subst clears
    refine ⟨rfl, fun empty => (Option.some_ne_none card empty).elim, fun held same => ?_⟩
    cases same
    exact ⟨by rw [setStage_after (s := s.setJobs _) segment after], rfl⟩

end

end Sys2Proof.Machine.DrawQueues
end

section
/-! PROOFS. The face grant (R91, R107 to R111). -/

namespace Sys2Proof.Machine.DrawQueues

open Sys2Proof Sys2Proof.Machine Sys2Proof.Machine.UpdateTransactions Sys2Proof.Machine.NameOrder Sys2Proof.Machine.FacePorts

variable {s : State} {f : Face} {claims : List Face} {r : ActiveRange}

/-- The segment that a grant begins at the next cell of a range (R111). -/
def grantedSegment (s : State) (f : Face) (r : ActiveRange) : Segment :=
  ⟨f, r.next, cellKind (cellOf (s.face f).queue.ring r.next), (s.face f).language, .finished, none, false, false⟩

/-! ### The state a grant leaves to its segment -/

/-- The face of a granted state, by the two changes of a grant. -/
theorem granted_faces (s : State) (f h : Face) (claims : List Face) (g : Segment) : (granted s f claims g).face h =
    ((s.mapFaces (fun h c => { c with waitCount := waitCountAfter f claims h c.waitCount })).modFace f
      (fun c => { c with queue := { c.queue with state := .running } })).face h := rfl

theorem granted_face (s : State) (f : Face) (claims : List Face) (g : Segment) : (granted s f claims g).face f =
    { s.face f with waitCount := 0, queue := { (s.face f).queue with state := .running } } := by
  have own : waitCountAfter f claims f (s.face f).waitCount = 0 := if_pos rfl
  rw [granted_faces, modFace_face_same, mapFaces_face, own]

theorem granted_face_ne (s : State) {f h : Face} (other : h ≠ f) (claims : List Face) (g : Segment) : (granted s f claims g).face h =
    { s.face h with waitCount := waitCountAfter f claims h (s.face h).waitCount } := by
  rw [granted_faces, modFace_face_ne _ (Ne.symm other), mapFaces_face]

theorem waitCountAfter_eq (f : Face) (claims : List Face) (h : Face) (n : Nat) :
    waitCountAfter f claims h n = if h = f then 0 else if h ∈ claims then min (n + 1) 15 else n := by
  unfold waitCountAfter
  simp only [List.contains_iff_mem]
  rfl

theorem exec_faceGrant (free : s.arbiter.holder = none) (decision : s.arbiter.decision = some ⟨.face f, claims⟩) :
    exec .faceGrant s = .next (s.faceGrant f claims) := by
  show execFaceGrant s = _
  simp only [execFaceGrant, free, decision]

/-- The grant of a face with a range begins its next cell's segment, or ends a WAIT_FRAME's at once (R91, R111). -/
theorem faceGrant_eq (range : (s.face f).queue.range = some r) : s.faceGrant f claims =
    if cellKind (cellOf (s.face f).queue.ring r.next) = some .waitFrame then
      (granted s f claims (grantedSegment s f r)).segmentEnd (grantedSegment s f r) none
    else (granted s f claims (grantedSegment s f r)).startCell f (cellOf (s.face f).queue.ring r.next) := by
  have context : (s.grantFace f claims).face f =
      { s.face f with waitCount := 0, queue := { (s.face f).queue with state := .running } } :=
    granted_face s f claims (grantedSegment s f r)
  unfold State.faceGrant
  rw [range]
  dsimp only
  unfold State.beginSegment
  rw [context]
  rfl

/-! ### The end of a WAIT_FRAME (R91) -/

/-- An end with no level on the stack uses no template less (R101). -/
theorem endTaken_templates {g : Segment} (bare : (s.face g.face).queue.stack = []) (fault : Option FaultReason) :
    (s.endTaken g fault).templates = { s.templates with entered := [] } := by
  obtain ⟨a, ha⟩ : ∃ a, a = (s.reportEnd g fault.isSome).recordFault g fault := ⟨_, rfl⟩
  obtain ⟨b, hb⟩ : ∃ b, b = freed (a.emptyStack g.face) := ⟨_, rfl⟩
  have taken : s.endTaken g fault = (b.queueEnd g.face g.cell (endOf g fault)).takeoverEnd g.face := by rw [hb, ha]; rfl
  have outside : s.SameOutsideFaces a := ha ▸ (modFace_outside s _ _).trans (recordFault_sameEnd _ g fault).1
  have after : b.SameOutsideFaces (s.endTaken g fault) :=
    taken ▸ (queueEnd_outside b _ _ _).trans (takeoverEnd_sameEnd _ g.face).1
  have stack : (a.face g.face).queue.stack = [] := by
    rw [ha, recordFault_stack, reportEnd_face]
    exact bare
  have emptied : b.templates = { a.templates with entered := [] } := by
    rw [hb]
    show { (a.returnUses (a.face g.face).queue.stack).templates with entered := [] } = { a.templates with entered := [] }
    rw [stack]
    rfl
  rw [after, emptied, outside]

/-- The context of a WAIT_FRAME whose queue has no stop request: it is WAITING (R90, R91). -/
theorem endedContext_waiting {c : FaceContext} {g : Segment} (kind : g.kind = some .waitFrame) (card : g.card = none)
    (routed : g.routed = false) (pulsed : g.pulsed = false) (stop : c.queue.stop = false) (bare : c.queue.stack = []) (on : Bool) :
    endedContext c g none on false = { c with snapshot := none, queue := { c.queue with state := .waiting } } := by
  have ends : endOf g none = ⟨none, false, true⟩ := by simp [endOf, kind, pulsed]
  have ending : endingQueue c.queue g none = c.queue := by
    unfold endingQueue recordAfter
    rw [← bare]
  have waits : c.queue.afterEnd ⟨none, false, true⟩ = { c.queue with state := .waiting } := by simp [Queue.afterEnd, stop]
  simp [endedContext, reportedContext, ends, ending, waits, card, routed, latchedIf, Queue.notifies]

/-- A WAIT_FRAME's end, with nothing waiting for it: the queue WAITING, the engine free, and EA's decision (R91, R107). -/
theorem segmentEnd_waiting {g : Segment} (kind : g.kind = some .waitFrame) (card : g.card = none) (routed : g.routed = false)
    (pulsed : g.pulsed = false) (stop : (s.face g.face).queue.stop = false) (bare : (s.face g.face).queue.stack = [])
    (normal : s.evac.state = .normal) (undeferred : s.update.state ≠ .deferred)
    (unheld : (s.face g.face).port.inProgress ≠ some .resetFace) : ∃ t : State, s.segmentEnd g none = t ∧
      t = { s with
        faces := t.faces, arbiter := ⟨none, s.arbiter.lastServed, t.grantDecision⟩, engine := ⟨none, [], false⟩
        templates := { s.templates with entered := [] } } ∧
      t.face g.face = { s.face g.face with snapshot := none, queue := { (s.face g.face).queue with state := .waiting } } ∧
      ∀ h : Face, h ≠ g.face → t.face h = s.face h := by
  obtain ⟨outside, -, -, others⟩ := endTaken_changes s g none
  have table := congrArg TemplateStore.table (endTaken_templates bare none)
  have ended := endTaken_face s g none
  have plain := segmentEnd_plain none undeferred unheld
  obtain ⟨v, hv⟩ : ∃ v, v = s.endTaken g none := ⟨_, rfl⟩
  rw [← hv] at outside table ended others plain
  rw [table] at outside
  have calm : decide (s.evac.state = .takeover) = false := by rw [normal]; rfl
  rw [calm, endedContext_waiting kind card routed pulsed stop bare] at ended
  have undecided : v.arbiter = ⟨none, s.arbiter.lastServed, none⟩ := by rw [outside]
  rw [arbitrate_of_undecided (by rw [undecided]) (by rw [undecided])] at plain
  refine ⟨_, plain, ?_, ended, fun h other => others h (Ne.symm other)⟩
  rw [grantDecision_setDecision]
  obtain ⟨faces, rfl⟩ : ∃ faces, v = { s with
      faces := faces, arbiter := ⟨none, s.arbiter.lastServed, none⟩, engine := ⟨none, [], false⟩
      templates := { s.templates with entered := [] } } := ⟨_, outside⟩
  rfl

/-- A grant's state, apart from the segment's work: the faces, the arbiter and the engine are new (R86, R107 to R109). -/
theorem granted_eq (s : State) (f : Face) (claims : List Face) (r : ActiveRange) : ∃ (u : State) (faces : Vector FaceContext 4),
    granted s f claims (grantedSegment s f r) = u ∧
    u = { s with
      faces := faces, arbiter := ⟨some (.face f), some f, none⟩, engine := ⟨some (grantedSegment s f r), [], false⟩ } ∧
    u.face f = { s.face f with waitCount := 0, queue := { (s.face f).queue with state := .running } } ∧
    ∀ h : Face, h ≠ f → u.face h = { s.face h with waitCount := waitCountAfter f claims h (s.face h).waitCount } :=
  ⟨_, _, rfl, rfl, granted_face s f claims _, fun _ other => granted_face_ne s other claims _⟩

/-- Settles O37. -/
theorem faceGrantBeginsSegment : Obligations.FaceGrantBeginsSegment := by
  refine ⟨fun c k => ?kinds, fun m i => rfl, fun c k seg layer combine boxed layers combines boxes => ?reads,
    fun e n m own => ?snapshot, fun s f claims r cell count free decision range own counts =>
      ⟨fun moving => ?begins, fun waits unstopped bare normal undeferred unheld => ?waits⟩⟩
  case kinds => exact (cellKind_iff c k).trans (by cases k <;> rfl)
  case reads => exact parseSeg_iff k seg layers combines boxes
  case snapshot =>
    subst own
    unfold Entry.snapshot
    simp only [imgOpenMark_eq, imgName_eq]
    rfl
  case begins =>
    subst own
    obtain ⟨u, faces, grants, hu, context, context_ne⟩ := granted_eq s f claims r
    obtain ⟨t, begins⟩ : ∃ t, u.startCell f (cellOf (s.face f).queue.ring r.next) = t := ⟨_, rfl⟩
    have runs := exec_faceGrant free decision
    rw [faceGrant_eq range, if_neg moving, grants, begins] at runs
    have left : leftBy f t = leftBy f u := begins ▸ leftBy_startCell u f _
    have segment : u.engine.segment = some (grantedSegment s f r) := by rw [hu]
    have idle : u.engine.jobs = [] := by rw [hu]
    obtain ⟨g, after, kept⟩ := segment_of_left left segment
    have own := context_of_left left
    rw [context] at own
    refine ⟨t, g, runs, ?outside, fun h other => ?others, ?state, ?waitCount, ?range, ?ring, ?latch, after,
      ?glyph, ?face, ?cell, ?kind, ?language, ?pulsed, failed_of_badKind segment begins after, ?barred, ?outOfRange,
      ?shapes, ?calls, ?cards, ?erases, ?undrawn, ?clears⟩
    case outside => rw [outside_of_left left, hu]
    case others => rw [face_ne_of_left left other, context_ne h other, counts, waitCountAfter_eq]
    case state => exact congrArg (fun c : FaceContext => c.queue.state) own
    case waitCount => exact congrArg (fun c : FaceContext => c.waitCount) own
    case range => exact (congrArg (fun c : FaceContext => c.queue.range) own).trans range
    case ring => exact (congrArg (fun c : FaceContext => c.queue.ring) own :)
    case latch => exact (congrArg (fun c : FaceContext => c.latch) own :)
    case glyph => rw [glyphHeld_of_left left, hu]
    case face => exact congrArg Segment.face kept
    case cell => exact congrArg Segment.cell kept
    case kind => exact congrArg Segment.kind kept
    case language => exact congrArg Segment.language kept
    case pulsed => exact congrArg Segment.pulsed kept
    case barred =>
      intro kinds
      rcases kinds with kind | kind | kind | kind <;> exact failed_of_barred segment begins after kind rfl
    case outOfRange =>
      exact fun k kind text select goto endLevel =>
        failed_of_range segment begins after kind (atQueueLevel_of_ne text select goto endLevel)
    case shapes =>
      intro k seg l m shape box fits kind parses plain
      have drawn := begins_plain segment idle begins after kind parses plain
      rwa [context] at drawn
    case calls =>
      intro tpl x y kind parses bare
      have enters := begins_call segment begins after kind parses (by rw [context]; exact bare)
      subst hu
      exact enters
    case cards =>
      intro n slot tpl box kind parses
      have enters := begins_card segment begins after kind parses
      rw [context] at enters
      subst hu
      exact enters
    case erases =>
      intro v kinds route drawn
      have erases := begins_erase segment begins after kinds (by rw [context]; exact route) drawn
      rw [context] at erases
      subst hu
      exact erases
    case undrawn =>
      intro undrawn
      have still : ∀ v, (u.face f).route = some v → v.state = .drawing ∨ v.state = .gone ∨ v.state = .disturbed := by
        rw [context]
        exact undrawn
      refine ⟨begins_clearRoute segment begins after idle still, fun n colour width kind parses => ?_⟩
      have draws := begins_route segment begins after idle still kind parses
      rw [context] at draws
      subst hu
      exact draws
    case clears =>
      intro slot colour kind parses
      have clears := begins_clearSlot segment begins after idle kind parses
      rwa [context] at clears
  case waits =>
    subst own
    obtain ⟨u, faces, grants, hu, context, context_ne⟩ := granted_eq s f claims r
    obtain ⟨t, ends, outside, own, others⟩ := segmentEnd_waiting (s := u) (g := grantedSegment s f r) waits rfl rfl rfl
      (by rw [grantedSegment, context]; exact unstopped) (by rw [grantedSegment, context]; exact bare) (by rw [hu]; exact normal)
      (by rw [hu]; exact undeferred) (by rw [grantedSegment, context]; exact unheld)
    have runs := exec_faceGrant free decision
    rw [faceGrant_eq range, if_pos waits, grants, ends] at runs
    refine ⟨t, runs, ?_, ?_, fun h other => ?_⟩
    · subst hu
      exact outside
    · refine own.trans ?_
      rw [grantedSegment, context]
    · rw [others h other, context_ne h other, counts, waitCountAfter_eq]

end Sys2Proof.Machine.DrawQueues
end

section
/-! PROOFS. The grant decision (R106 to R108): who claims, and the first in rotation of the faces of the lowest effective level. -/

namespace Sys2Proof.Machine.DrawEngine

open Sys2Proof Sys2Proof.Machine Sys2Proof.Machine.NameOrder

/-! ### The first of a list -/

/-- Of a list in order, a search answers the first that it looks for: whatever else it looks for comes after. -/
theorem find?_first {α : Type} {r : α → α → Prop} {p : α → Bool} {l : List α} (ordered : l.Pairwise r) {a b : α}
    (found : l.find? p = some a) (mem : b ∈ l) (sought : p b = true) : a = b ∨ r a b := by
  obtain ⟨-, before, after, rfl, skipped⟩ := List.find?_eq_some_iff_append.mp found
  obtain ⟨-, later, -⟩ := List.pairwise_append.mp ordered
  rcases List.mem_append.mp mem with inBefore | inRest
  · have skips := skipped b inBefore
    rw [sought] at skips
    cases skips
  · rcases List.mem_cons.mp inRest with rfl | inAfter
    · exact .inl rfl
    · exact .inr ((List.pairwise_cons.mp later).1 b inAfter)

/-! ### The rotation -/

/-- The face at which the rotation starts: after the last one served, or face 0 (R108). -/
def rotationStart : Option Face → Face
  | none => 0
  | some l => l + 1

theorem mem_rotation (last : Option Face) (f : Face) : f ∈ rotation last := by
  revert last f
  decide

theorem rotation_pairwise (last : Option Face) :
    (rotation last).Pairwise (fun f g => (f - rotationStart last).val < (g - rotationStart last).val) := by
  revert last
  decide

/-- The face chosen claims, no claimant has a lower level, and none of its own level comes before it in rotation (R108). -/
theorem chooseFace_spec {s : State} {claims : List Face} {f : Face} (chosen : s.chooseFace claims = some f) :
    f ∈ claims ∧ ∀ g ∈ claims, s.effectiveLevel f ≤ s.effectiveLevel g ∧
      (s.effectiveLevel g = s.effectiveLevel f →
        (f - rotationStart s.arbiter.lastServed).val ≤ (g - rotationStart s.arbiter.lastServed).val) := by
  have holds := List.find?_some chosen
  simp only [Bool.and_eq_true, List.contains_iff_mem, List.all_eq_true, decide_eq_true_eq] at holds
  obtain ⟨claimed, least⟩ := holds
  refine ⟨claimed, fun g hg => ⟨least g hg, fun same => ?_⟩⟩
  rcases find?_first (rotation_pairwise s.arbiter.lastServed) chosen (mem_rotation _ g) (by
    simpa [same] using ⟨hg, least⟩) with rfl | before
  · exact le_rfl
  · exact before.le

/-! ### The decision -/

theorem purgeClaims_iff (s : State) : s.purgeClaims = true ↔ s.update.purging = true ∧ s.arbiter.holder ≠ some .purge := by
  simp [State.purgeClaims, State.purgeHolds]

theorem ecClaims_iff (s : State) : s.ecClaims = true ↔ s.evac.state = .takeover ∧ s.arbiter.holder ≠ some .ec := by
  simp [State.ecClaims]

theorem mem_claims_iff {s : State} {f : Face} : f ∈ s.claims ↔ (s.face f).queue.state = .pending := mem_claims

theorem grantDecision_of_purge {s : State} (purge : s.purgeClaims = true) : s.grantDecision = some ⟨.purge, s.claims⟩ :=
  if_pos purge

theorem grantDecision_of_ec {s : State} (noPurge : ¬s.purgeClaims = true) (ec : s.ecClaims = true) :
    s.grantDecision = some ⟨.ec, s.claims⟩ := by
  rw [State.grantDecision, if_neg noPurge, if_pos ec]

theorem grantDecision_out {s : State} (noPurge : ¬s.purgeClaims = true) (noEc : ¬s.ecClaims = true)
    (out : s.evac.state ≠ .normal) : s.grantDecision = none := by
  rw [State.grantDecision, if_neg noPurge, if_neg noEc, if_pos out]

theorem grantDecision_normal {s : State} (noPurge : ¬s.purgeClaims = true) (normal : s.evac.state = .normal) :
    s.grantDecision = (s.chooseFace s.claims).map (fun f => ⟨.face f, s.claims⟩) := by
  have noEc : ¬s.ecClaims = true := by rw [ecClaims_iff, normal]; simp
  rw [State.grantDecision, if_neg noPurge, if_neg noEc, if_neg (not_not.mpr normal)]
  cases s.chooseFace s.claims <;> rfl

/-- Settles O36: by the claims in R107's order, and among the faces by `chooseFace_spec`. -/
theorem grantFollowsItsOrder : Obligations.GrantFollowsItsOrder := by
  intro s level first levels start
  obtain rfl : level = s.effectiveLevel := funext levels
  obtain rfl : first = rotationStart s.arbiter.lastServed := by rw [start]; cases s.arbiter.lastServed <;> rfl
  refine ⟨fun purging free => grantDecision_of_purge ((purgeClaims_iff s).mpr ⟨purging, free⟩), fun purged => ?_⟩
  have noPurge : ¬s.purgeClaims = true := by
    rw [purgeClaims_iff]
    rintro ⟨purging, free⟩
    rcases purged with idle | held
    · rw [purging] at idle; cases idle
    · exact free held
  refine ⟨fun takeover free => grantDecision_of_ec noPurge ((ecClaims_iff s).mpr ⟨takeover, free⟩), fun shows => ?_,
    fun normal nobody => ?_, fun normal ⟨g, pending⟩ => ?_⟩
  · have noEc : ¬s.ecClaims = true := by
      rw [ecClaims_iff]
      rcases shows with state | state <;> simp [state]
    exact grantDecision_out noPurge noEc (by rcases shows with state | state <;> simp [state])
  · have empty : s.chooseFace s.claims = none := by
      cases chosen : s.chooseFace s.claims with
      | none => rfl
      | some f => exact absurd (mem_claims_iff.mp (chooseFace_spec chosen).1) (nobody f)
    rw [grantDecision_normal noPurge normal, empty]
    rfl
  · obtain ⟨f, chosen⟩ := Option.isSome_iff_exists.mp (chooseFace_isSome (mem_claims_iff.mpr pending))
    obtain ⟨claimed, best⟩ := chooseFace_spec chosen
    refine ⟨f, ?_, mem_claims_iff.mp claimed, fun g hg => best g (mem_claims_iff.mpr hg)⟩
    rw [grantDecision_normal noPurge normal, chosen]
    rfl

end Sys2Proof.Machine.DrawEngine
end

section
/-! PROOFS. The end of a route's erase (R130, R131): the slot emptied, and the snapshot that a ROUTE then takes. -/

namespace Sys2Proof.Machine.DrawEngine

open Sys2Proof Sys2Proof.Machine Sys2Proof.Machine.UpdateTransactions Sys2Proof.Machine.DrawQueues

variable {s : State} {g : Segment}

/-! ### The ROUTE snapshot -/

/-- The snapshot of an entry that is not LIVE fails (R130). -/
theorem routeSnapshot_of_dead {n : Nat} (segment : s.engine.segment = some g) (dead : (s.entry n).state ≠ .live) (f : Face)
    (colour : Colour) (width : Nat) : s.routeSnapshot f n colour width =
      { s with engine := { s.engine with segment := some { g with stage := .failed .notLive } } } := by
  have fails : s.routeSnapshot f n colour width = s.setStage (.failed .notLive) := if_pos dead
  rw [fails, setStage_of_segment segment]

/-- The snapshot of a LIVE entry: the slot in DRAWING with its own copy, and the route set to be drawn (R130). -/
theorem routeSnapshot_of_live {n : Nat} (segment : s.engine.segment = some g) (live : (s.entry n).state = .live) {f : Face}
    {colour : Colour} {width : Nat} {jobs : List Job}
    (work : jobs = routeJob f (s.face f).window s.settings.orientation[f] colour width (s.routeOf (s.entry n))) :
    s.routeSnapshot f n colour width = State.modFace { s with engine := { s.engine with
        jobs := jobs
        segment := some { g with routed := true, stage := if jobs = [] then .finished else .routing } } } f
      (fun c => { c with route := some ⟨.drawing, n, (s.entry n).generation, colour, width, s.routeOf (s.entry n)⟩ }) := by
  have draws : s.routeSnapshot f n colour width =
      ((s.modFace f (fun c =>
        { c with route := some ⟨.drawing, n, (s.entry n).generation, colour, width, s.routeOf (s.entry n)⟩ })).setJobs jobs).modSegment
        (fun g => { g with routed := true, stage := if jobs.isEmpty then .finished else .routing }) := by
    rw [work]
    exact if_neg (not_not.mpr live)
  rw [draws]
  simp only [State.modSegment, setJobs_segment, modFace_engine, segment, Option.map_some, List.isEmpty_iff]
  rfl

/-! ### The end of the erase -/

theorem exec_routeEraseDone (segment : s.engine.segment = some g) (erasing : g.stage = .erasing) (done : s.engine.jobs = []) :
    exec .routeEraseDone s = .next (s.eraseDone g) := by
  show execRouteEraseDone s = _
  simp only [execRouteEraseDone, segment, erasing, done, List.isEmpty_nil, and_self, if_true]

/-- The state with the route slot of a face emptied (R130). -/
def routeEmptied (s : State) (f : Face) : State := s.modFace f (fun c => { c with route := none })

theorem routeEmptied_window (s : State) (f : Face) : ((routeEmptied s f).face f).window = (s.face f).window := by
  rw [routeEmptied, modFace_face_same]

/-- A change of the emptied face, with the engine moved on, is one change of the face. -/
theorem modFace_routeEmptied (s : State) (e : Engine) (f : Face) (u : FaceContext → FaceContext) :
    State.modFace { routeEmptied s f with engine := e } f u =
      State.modFace { s with engine := e } f (fun c => u { c with route := none }) :=
  modFace_modFace { s with engine := e } f (fun c => { c with route := none }) u

theorem eraseDone_clearRoute (kind : g.kind = some .clearRoute) : s.eraseDone g = (routeEmptied s g.face).setStage .finished := by
  simp only [State.eraseDone, kind]
  rfl

theorem eraseDone_route {n width : Nat} {colour : Colour} (kind : g.kind = some .route)
    (parses : parseSeg .route (cellOf (s.face g.face).queue.ring g.cell) = some (.route n colour width)) :
    s.eraseDone g = (routeEmptied s g.face).routeSnapshot g.face n colour width := by
  have read : parseSeg .route ((s.face g.face).queue.cell g.cell) = some (.route n colour width) := parses
  simp only [State.eraseDone, kind, read]
  rfl

/-- Settles O43: the slot is emptied, and what follows is the stage `finished` or the snapshot of the emptied state. -/
theorem eraseEndLeavesNone : Obligations.EraseEndLeavesNone := by
  intro s g segment erasing done
  have emptied : (routeEmptied s g.face).engine.segment = some g := segment
  rw [exec_routeEraseDone segment erasing done]
  refine ⟨fun kind => ?_, fun n colour width kind parses => ⟨fun dead => ?_, fun live jobs work => ?_⟩⟩
  · rw [eraseDone_clearRoute kind, setStage_of_segment emptied]
    rfl
  · rw [eraseDone_route kind parses, routeSnapshot_of_dead emptied dead]
    rfl
  · rw [← routeEmptied_window s g.face] at work
    rw [eraseDone_route kind parses, routeSnapshot_of_live emptied live work]
    exact congrArg Host.Outcome.next (modFace_routeEmptied s _ g.face _)

end Sys2Proof.Machine.DrawEngine
end

section
/-! PROOFS. The view of an evacuation plan (R171, R175, R177 to R179, R181, R201), and the grant that starts it. -/

namespace Sys2Proof.Machine.DrawEngine

open Sys2Proof Sys2Proof.Machine

/-! ### The fields of a plan -/

theorem planMessage_eq (m : Mem) (l : Fin 4) : planMessage m l =
    if m.num (60 + 61 * l.val) = 0 then none
    else some ((List.range (m.num (60 + 61 * l.val))).map (fun i => m.num16 (61 + 61 * l.val + 2 * i))) := by
  have start : messageOffset l + 1 = 61 + 61 * l.val := by
    unfold messageOffset
    omega
  unfold planMessage Mem.codes
  rw [start]
  rfl

theorem planPalette_get (m : Mem) (i : Fin 16) :
    (planPalette m)[i] = m.read (12 + 3 * i.val) ++ m.read (13 + 3 * i.val) ++ m.read (14 + 3 * i.val) := by
  simp [planPalette, planColour]

/-- The marker holds the pixels of the face from 16 before the window's centre to 15 after it (R178 step 4). -/
theorem mem_markerRect (w : MapWindow) (x y : Nat) :
    ((markerRect w).x ≤ x ∧ x < (markerRect w).x + (markerRect w).w ∧ (markerRect w).y ≤ y ∧
        y < (markerRect w).y + (markerRect w).h) ↔
      x ≤ 1079 ∧ y ≤ 1919 ∧ w.cx ≤ x + 16 ∧ x ≤ w.cx + 15 ∧ w.cy ≤ y + 16 ∧ y ≤ w.cy + 15 := by
  simp only [markerRect]
  omega

theorem firstMessage_eq_some (m : Mem) (l : Fin 4) :
    firstMessage m = some l ↔ (planMessage m l).isSome = true ∧ ∀ j : Fin 4, j < l → planMessage m j = none := by
  have least {k j : Fin 4} (found : firstMessage m = some k) (holds : (planMessage m j).isSome = true) : k ≤ j := by
    rcases find?_first (List.pairwise_lt_finRange 4) found (List.mem_finRange j) holds with rfl | before
    · exact le_rfl
    · exact before.le
  have found_holds {k : Fin 4} (found : firstMessage m = some k) : (planMessage m k).isSome = true :=
    List.find?_some (p := fun l => (planMessage m l).isSome) found
  constructor
  · intro found
    refine ⟨found_holds found, fun j before => ?_⟩
    by_contra holds
    exact absurd (least found (Option.isSome_iff_ne_none.mpr holds)) (not_le.mpr before)
  · rintro ⟨holds, none⟩
    obtain ⟨k, found⟩ : ∃ k, firstMessage m = some k :=
      Option.isSome_iff_exists.mp (List.find?_isSome.mpr ⟨l, List.mem_finRange l, holds⟩)
    have here := found_holds found
    have notBefore : ¬k < l := fun before => by
      rw [none k before] at here
      cases here
    have same : k = l := le_antisymm (least found holds) (not_lt.mp notBefore)
    rw [← same]
    exact found

/-! ### The view -/

theorem bandJobs_firstMessage (m : Mem) (f : Face) : bandJobs m (firstMessage m) f =
    .plot ⟨f, .card, .replace, .solid 1, ⟨0, 0, 1080, 240⟩, 0⟩ :: messageLine m (firstMessage m) f := by
  unfold bandJobs messageLine
  cases firstMessage m with
  | none => rfl
  | some l =>
    dsimp only
    cases planMessage m l <;> rfl

/-- A route of no waypoint has no route set to draw (R128). -/
theorem routeJob_nil (f : Face) (w : MapWindow) (o : Orientation) (colour : Colour) (width : Nat) :
    routeJob f w o colour width [] = [] := rfl

theorem routeJob_exitRoute (s : State) (m : Mem) (f : Face) (o : Orientation) :
    routeJob f (planWindow m) o 3 8 (s.exitRoute m) =
      match planExit m with
      | some n => if (s.entry n).state = .live then routeJob f (planWindow m) o 3 8 (s.routeOf (s.entry n)) else []
      | none => [] := by
  unfold State.exitRoute
  cases planExit m with
  | none => rfl
  | some n => 
    by_cases live : (s.entry n).state = .live
    · simp only [live, if_true]
    · simp only [live, if_false, routeJob_nil]

/-- The palette that a view gives (R142, R177). -/
def viewPalette : Option Mem → Vector Rgb 16
  | some m => planPalette m
  | none => defaultPalette

theorem viewPalette_eq (plan : Option Mem) : (plan.map planPalette).getD defaultPalette = viewPalette plan := by
  cases plan <;> rfl

/-- The palette state of a face after a view has given its palette (R141, R177). -/
def paletteGiven (on : Bool) (p : Vector Rgb 16) (c : PaletteState) : PaletteState :=
  if on = true then { c with evacuation := p, source := .evacuation } else c

theorem givePalette_face (s : State) (p : Vector Rgb 16) (f : Face) :
    (s.givePalette p).face f = { s.face f with palette := paletteGiven (s.enabled f) p (s.face f).palette } := by
  rw [State.givePalette, mapFaces_face]
  unfold paletteGiven
  split <;> rfl

theorem startView_face (s : State) (f : Face) : s.startView.face f =
    { s.face f with palette := paletteGiven (s.enabled f) (viewPalette s.evac.plans[s.shownZone]) (s.face f).palette } := by
  rw [← viewPalette_eq]
  exact givePalette_face s _ f

/-- What the start of a view does outside the faces (R177, R181). -/
theorem startView_outside (s : State) : s.startView = { s with
    faces := s.startView.faces
    engine := { s.engine with jobs := s.enabledFaces.flatMap (s.viewJobs s.evac.plans[s.shownZone]) }
    evac := { s.evac with
      drawnZone := some s.shownZone, language := s.evac.plans[s.shownZone].bind firstMessage, redraw := false
      drawing := some .view, cycle := .stopped } } := rfl

/-! ### The grant -/

/-- The state that EC's grant leaves to its view: the engine held, the slots emptied and the cut-off stopped (R109, R153, R177). -/
def ecGranted (s : State) : State :=
  ((s.grantTo .ec).mapFaces (fun _ c => c.clearSlots)).modEvac (fun e => { e with cutoff := .stopped })

theorem ecGranted_face (s : State) (f : Face) : (ecGranted s).face f = (s.face f).clearSlots := by
  rw [ecGranted, modEvac_face, mapFaces_face, grantTo_face]

theorem exec_ecGrant {s : State} {claims : List Face} (free : s.arbiter.holder = none)
    (decision : s.arbiter.decision = some ⟨.ec, claims⟩) : exec .ecGrant s = .next (ecGranted s).startView := by
  show execEcGrant s = _
  rw [execEcGrant, if_pos ⟨free, by rw [decision]; rfl⟩]
  rfl

/-- Settles O53: the view is `State.viewJobs`, and EC's grant starts it on `ecGranted`, whose zone, plan and entries are the state's. -/
theorem ecGrantStartsTheView : Obligations.EcGrantStartsTheView := by
  refine ⟨planMessage_eq, fun f layer m shape box => rfl, fun m => rfl, planPalette_get, ?_, ?_⟩
  · rintro w box x y rfl
    exact mem_markerRect w x y
  intro s plan view hplan views
  obtain rfl : view = s.viewJobs plan := by
    funext f
    rw [views f]
    cases plan with
    | none => rfl
    | some m =>
      simp only [State.viewJobs, bandJobs_firstMessage, routeJob_exitRoute]
      rfl
  refine ⟨by unfold State.shownZone; cases s.evac.trunkZone <;> rfl, firstMessage_eq_some, fun claims free decision => ?_, ?_⟩
  · refine ⟨_, exec_ecGrant free decision, ?_, fun f => ?_⟩
    · subst hplan
      exact startView_outside (ecGranted s)
    · rw [startView_face, ecGranted_face, hplan]
      rfl
  · rintro t rfl
    refine ⟨?_, fun f => ?_⟩
    · subst hplan
      exact startView_outside s
    · rw [startView_face, hplan]
      rfl

end Sys2Proof.Machine.DrawEngine
end

section
/-! PROOFS. The pixel path (R115, R117, R118, R123, R128, R133, R134): the bits of Plane Memory, the colour of a pixel after a write,
and a run of pixels combined by XOR (R129). -/

namespace Sys2Proof.Machine.DrawEngine

open Sys2Proof Sys2Proof.Machine

/-! ### The bits of Plane Memory -/

theorem mask_bit {i j : Nat} (hj : j < 8) : (1#8 <<< i).getLsbD j = decide (i = j) := by
  rw [BitVec.getLsbD_shiftLeft, BitVec.getLsbD_one]
  by_cases same : i = j
  · simp [same, hj]
  · simp only [same, decide_false, hj, decide_true, Bool.true_and, Bool.and_eq_false_iff, Bool.not_eq_false', decide_eq_true_eq,
      decide_eq_false_iff_not]
    omega

/-- A bit read after a bit is written: the value written at its place, the old bit at every other. -/
theorem bit_writeBit (m : Mem) (a b : Nat) {i j : Nat} (hi : i < 8) (hj : j < 8) (v : Bool) :
    (m.writeBit a i v).bit b j = if a = b ∧ i = j then v else m.bit b j := by
  unfold Mem.bit Mem.writeBit
  rw [Mem.read_write]
  by_cases byte : a = b
  · subst byte
    by_cases bit : i = j
    · subst bit
      cases v <;> simp only [Bool.false_eq_true, if_true, if_false, BitVec.getLsbD_or, BitVec.getLsbD_and, BitVec.getLsbD_not,
        mask_bit hi, decide_true, Bool.or_true, Bool.not_true, Bool.and_false, and_self]
    · cases v <;> simp only [Bool.false_eq_true, if_true, if_false, BitVec.getLsbD_or, BitVec.getLsbD_and, BitVec.getLsbD_not,
        mask_bit hj, bit, hj, decide_true, decide_false, Bool.or_false, Bool.not_false, Bool.and_true, and_false]
  · simp [byte]

theorem pixelBit_lt (x y : Nat) : pixelBit x y < 8 := by
  unfold pixelBit
  omega

/-- Two pixels of the faces share a bit of a plane only if they are the same (R133). -/
theorem pixel_place_iff {f g : Face} {x y x' y' : Nat} (hx : x < 1080) (hy : y < 1920) (hx' : x' < 1080) (hy' : y' < 1920) :
    (pixelByte f x y = pixelByte g x' y' ∧ pixelBit x y = pixelBit x' y') ↔ f = g ∧ x = x' ∧ y = y' := by
  simp only [pixelByte, pixelBit, Config.faceRegion, Config.faceWidth, Fin.ext_iff]
  omega

theorem planeBit_putPlaneBit (planes : Vector Mem 4) (p q : Fin 4) {f g : Face} {x y x' y' : Nat} (hx : x < 1080) (hy : y < 1920)
    (hx' : x' < 1080) (hy' : y' < 1920) (v : Bool) :
    planeBit (putPlaneBit planes p f x y v) q g x' y' =
      if p = q ∧ f = g ∧ x = x' ∧ y = y' then BitVec.ofBool v else planeBit planes q g x' y' := by
  unfold planeBit putPlaneBit
  by_cases plane : p = q
  · subst plane
    simp only [Fin.getElem_fin, Vector.getElem_set_self, bit_writeBit _ _ _ (pixelBit_lt x y) (pixelBit_lt x' y'),
      pixel_place_iff hx hy hx' hy', true_and]
    split <;> rfl
  · have other : p.val ≠ q.val := fun same => plane (Fin.ext same)
    simp [plane, other]

/-! ### The colour of a pixel -/

theorem colour_of_bits (v : Colour) : BitVec.ofBool (v.getLsbD 1) ++ BitVec.ofBool (v.getLsbD 0) = v := by
  revert v
  decide

/-- A pixel's colour after a write: the colour written at its own pixel and layer, the old one at every other (R115 stage 4). -/
theorem layerColour_putColour (planes : Vector Mem 4) (l l' : Layer) {f g : Face} {x y x' y' : Nat} (hx : x < 1080) (hy : y < 1920)
    (hx' : x' < 1080) (hy' : y' < 1920) (v : Colour) :
    layerColour (putColour planes l f x y v) l' g x' y' =
      if l = l' ∧ f = g ∧ x = x' ∧ y = y' then v else layerColour planes l' g x' y' := by
  unfold layerColour putColour
  simp only [planeBit_putPlaneBit _ _ _ hx hy hx' hy']
  by_cases pixel : f = g ∧ x = x' ∧ y = y'
  · cases l <;> cases l' <;> simp only [pixel, Layer.planes, and_self, and_true, if_true, if_false, reduceCtorEq, Fin.reduceEq,
      colour_of_bits]
  · simp [pixel]

/-! ### One pixel of a plot -/

section
variable (p : Plot) (buffer : Mem) {c r : Nat}

/-- A pixel that the mask keeps out is not written (R115). -/
theorem plotPixel_of_masked (planes : Vector Mem 4) (masked : p.source buffer c r = none) :
    plotPixel p buffer planes c r = planes := by
  rw [plotPixel, masked]

/-- A pixel that the mask admits takes the source combined with its colour, and every other pixel keeps its own (R115). -/
theorem layerColour_plotPixel (planes : Vector Mem 4) {src : Colour} (admitted : p.source buffer c r = some src)
    (column : p.box.x + c < 1080) (row : p.box.y + r < 1920) (l : Layer) (f : Face) {x y : Nat} (hx : x < 1080) (hy : y < 1920) :
    layerColour (plotPixel p buffer planes c r) l f x y =
      if l = p.layer ∧ f = p.face ∧ x = p.box.x + c ∧ y = p.box.y + r then p.combine.apply src (layerColour planes l f x y)
      else layerColour planes l f x y := by
  rw [plotPixel, admitted]
  dsimp only
  rw [layerColour_putColour _ _ _ column row hx hy]
  by_cases here : l = p.layer ∧ f = p.face ∧ x = p.box.x + c ∧ y = p.box.y + r
  · obtain ⟨rfl, rfl, rfl, rfl⟩ := here
    simp only [and_self, if_true]
  · rw [if_neg here, if_neg (fun ⟨layer, face, left, top⟩ => here ⟨layer.symm, face.symm, left.symm, top.symm⟩)]

/-! ### The sources -/

theorem source_solid {col : Colour} (shape : p.shape = .solid col) : p.source buffer c r = some col := by
  rw [Plot.source, shape]

/-- An outline covers the pixels within its thickness of an edge of the box (R117). -/
theorem source_outline {t : Nat} {col : Colour} (shape : p.shape = .outline t col) : p.source buffer c r =
    if c < t ∨ (p.box.w : Int) - t ≤ c ∨ r < t ∨ (p.box.h : Int) - t ≤ r then some col else none := by
  rw [Plot.source, shape]
  refine if_congr ?_ rfl rfl
  omega

/-- An image's pixel is two bits of the buffer, not drawn where it is keyed and 0 (R118). -/
theorem source_image {o : Nat} {keyed : Bool} (shape : p.shape = .image o keyed) {b : Byte} {i : Nat}
    (byte : b = buffer.read (o + (r * p.box.w + c) / 4)) (place : i = (r * p.box.w + c) % 4) : p.source buffer c r =
      if keyed = true ∧ b.extractLsb' (6 - 2 * i) 2 = 0 then none else some (b.extractLsb' (6 - 2 * i) 2) := by
  subst byte place
  rw [Plot.source, shape]
  exact if_congr (by rw [Bool.and_eq_true, decide_eq_true_iff]; rfl) rfl rfl

/-- A route set covers the pixels that a consecutive pair of its waypoints adds (R128). -/
theorem source_route {points : List Placed} {w : Nat} {col : Colour} (shape : p.shape = .route points w col) : p.source buffer c r =
    if routeCovers w points (p.box.x + c) (p.box.y + r) = true then some col else none := by
  rw [Plot.source, shape]

end

/-! ### A run combined by XOR -/

/-- Under XOR a pixel of a plot turns each colour over by the same bits, whatever the planes hold (R129). -/
theorem plotPixel_flips (p : Plot) (buffer : Mem) {c r : Nat} (xor : p.combine = .xor) (column : p.box.x + c < 1080)
    (row : p.box.y + r < 1920) (l : Layer) (f : Face) {x y : Nat} (hx : x < 1080) (hy : y < 1920) :
    ∃ d : Colour, ∀ planes, layerColour (plotPixel p buffer planes c r) l f x y = d ^^^ layerColour planes l f x y := by
  cases source : p.source buffer c r with
  | none => exact ⟨0, fun planes => by rw [plotPixel_of_masked p buffer planes source]; exact (BitVec.zero_xor ..).symm⟩
  | some src =>
    by_cases here : l = p.layer ∧ f = p.face ∧ x = p.box.x + c ∧ y = p.box.y + r
    · refine ⟨src, fun planes => ?_⟩
      rw [layerColour_plotPixel p buffer planes source column row l f hx hy, if_pos here, xor]
      rfl
    · refine ⟨0, fun planes => ?_⟩
      rw [layerColour_plotPixel p buffer planes source column row l f hx hy, if_neg here]
      exact (BitVec.zero_xor ..).symm

theorem plotRun_flips (p : Plot) (buffer : Mem) (n : Nat) {c r : Nat} (xor : p.combine = .xor) (columns : p.box.x + c + n ≤ 1080)
    (row : p.box.y + r < 1920) (l : Layer) (f : Face) {x y : Nat} (hx : x < 1080) (hy : y < 1920) :
    ∃ d : Colour, ∀ planes, layerColour (plotRun p buffer n c r planes) l f x y = d ^^^ layerColour planes l f x y := by
  induction n generalizing c with
  | zero => exact ⟨0, fun planes => (BitVec.zero_xor ..).symm⟩
  | succ n ih =>
    obtain ⟨first, flipsFirst⟩ := plotPixel_flips p buffer (c := c) xor (by omega) row l f hx hy
    obtain ⟨rest, flipsRest⟩ := ih (c := c + 1) (by omega)
    refine ⟨rest ^^^ first, fun planes => ?_⟩
    rw [plotRun, flipsRest, flipsFirst, BitVec.xor_assoc]

/-- A run combined by XOR twice leaves every pixel as it was (R129). -/
theorem plotRun_twice (p : Plot) (buffer : Mem) (n c r : Nat) (planes : Vector Mem 4) (xor : p.combine = .xor)
    (columns : p.box.x + c + n ≤ 1080) (row : p.box.y + r < 1920) (l : Layer) (f : Face) (x y : Nat) (hx : x < 1080)
    (hy : y < 1920) : layerColour (plotRun p buffer n c r (plotRun p buffer n c r planes)) l f x y = layerColour planes l f x y := by
  obtain ⟨d, flips⟩ := plotRun_flips p buffer n xor columns row l f hx hy
  rw [flips, flips, ← BitVec.xor_assoc, BitVec.xor_self, BitVec.zero_xor]

end Sys2Proof.Machine.DrawEngine
end

section
/-! PROOFS. The layout of text (R121, R122), the placing of waypoints (R127), and the box of a route set (R128, R129; log 5). -/

namespace Sys2Proof.Machine.DrawEngine

open Sys2Proof Sys2Proof.Machine Sys2Proof.Machine.DrawQueues

/-! ### Text -/

theorem cutCodes_length (p : Nat) (ellipsis : Option Nat) (codes : List Nat) :
    (cutCodes p ellipsis codes).length = min codes.length p := by
  unfold cutCodes
  split
  · omega
  · cases ellipsis with
    | none => simp; omega
    | some e => by_cases empty : p = 0 <;> simp [empty]; omega

/-- A position that the cut leaves alone holds the string's own code (R122). -/
theorem cutCodes_kept {p i : Nat} {ellipsis : Option Nat} {codes : List Nat}
    (kept : codes.length ≤ p ∨ ellipsis = none ∨ i + 1 < p) (here : i < (cutCodes p ellipsis codes).length) :
    (cutCodes p ellipsis codes)[i]? = codes[i]? := by
  rw [cutCodes_length] at here
  unfold cutCodes
  split
  · rfl
  · next long =>
    cases ellipsis with
    | none => exact List.getElem?_take_of_lt (by omega)
    | some e =>
      have before : i < p - 1 := by
        rcases kept with fits | none | before
        · exact absurd fits long
        · cases none
        · omega
      dsimp only
      rw [List.getElem?_append_left (by rw [List.length_take]; omega), List.getElem?_take_of_lt before]

/-- The last position of a string that is cut holds the ellipsis (R122). -/
theorem cutCodes_last {p i e : Nat} {codes : List Nat} (long : p < codes.length) (last : i + 1 = p) :
    (cutCodes p (some e) codes)[i]? = some e := by
  have length : (codes.take (p - 1)).length = i := by rw [List.length_take]; omega
  rw [cutCodes, if_neg (by omega), if_neg (by omega), List.getElem?_append_right (by omega), length, Nat.sub_self]
  rfl

theorem layoutText_getElem? {rtl : Bool} {ellipsis : Option Nat} {x m g i code edge : Nat} {codes : List Nat}
    (position : (layoutText rtl ellipsis x m g codes)[i]? = some (code, edge)) :
    (cutCodes (m / g) ellipsis codes)[i]? = some code ∧ edge = glyphEdge rtl x m g i := by
  simp only [layoutText, List.getElem?_map, List.getElem?_zipIdx, Option.map_map, Option.map_eq_some_iff, Function.comp_apply,
    Prod.mk.injEq, Nat.zero_add] at position
  obtain ⟨k, here, rfl, rfl⟩ := position
  exact ⟨here, rfl⟩

/-! ### Placing -/

/-- A division rounded down (R127). -/
theorem fdiv_bounds (a : Int) {n : Nat} (pos : 1 ≤ n) : Int.fdiv a n * n ≤ a ∧ a < (Int.fdiv a n + 1) * n := by
  rw [Int.fdiv_eq_ediv_of_nonneg a (Int.natCast_nonneg n)]
  exact ⟨Int.ediv_mul_le a (by omega), Int.lt_ediv_add_one_mul_self a (by omega)⟩

theorem placeWaypoint_bounds (win : MapWindow) (o : Orientation) (w : Waypoint) (scale : 1 ≤ win.scale) {rx ry : Int}
    (turned : (rx, ry) = o.turn ((Waypoint.x w : Int) - win.mx, (Waypoint.y w : Int) - win.my)) :
    let q := placeWaypoint win o w
    (q.x - win.cx) * win.scale ≤ rx ∧ rx < (q.x - win.cx + 1) * win.scale ∧
      (q.y - win.cy) * win.scale ≤ ry ∧ ry < (q.y - win.cy + 1) * win.scale := by
  intro q
  have across : q.x - win.cx = Int.fdiv rx win.scale := by
    simp only [q, placeWaypoint, ← turned]
    omega
  have down : q.y - win.cy = Int.fdiv ry win.scale := by
    simp only [q, placeWaypoint, ← turned]
    omega
  rw [across, down]
  obtain ⟨left, right⟩ := fdiv_bounds rx scale
  obtain ⟨top, bottom⟩ := fdiv_bounds ry scale
  exact ⟨left, right, top, bottom⟩

/-! ### The box of a route set -/

/-- A box, as its left, right, top and bottom, holds a pixel; no box holds none. -/
def BoxHolds (box : Option (Int × Int × Int × Int)) (x y : Nat) : Prop :=
  ∃ l r t b, box = some (l, r, t, b) ∧ l ≤ x ∧ x ≤ r ∧ t ≤ y ∧ y ≤ b

/-- The nearest whole number to k d / n lies between any two whole numbers that k d / n lies between. -/
theorem isStep_bounds {k n : Nat} {d c low high : Int} (pos : 0 < n) (step : isStep k d n c) (least : n * low ≤ k * d)
    (most : k * d ≤ n * high) : low ≤ c ∧ c ≤ high := by
  obtain ⟨below, above⟩ := step.2 (by omega)
  have twice : (0 : Int) ≤ 2 * n := by omega
  have n0 : (0 : Int) < n := by omega
  have after : 2 * (n : Int) * low < 2 * n * (c + 1) := by linarith
  have before : 2 * (n : Int) * c < 2 * n * (high + 1) := by linarith
  have := lt_of_mul_lt_mul_left after twice
  have := lt_of_mul_lt_mul_left before twice
  omega

/-- A step of a line stays between its ends (R128). -/
theorem isStep_between {k n : Nat} {d c : Int} (within : k ≤ n) (step : isStep k d n c) : min 0 d ≤ c ∧ c ≤ max 0 d := by
  rcases Nat.eq_zero_or_pos n with none | pos
  · have := step.1 none
    omega
  · have fraction : (k : Int) ≤ n := by omega
    have forward : (0 : Int) ≤ k := by omega
    rcases le_total 0 d with up | down
    · rw [min_eq_left up, max_eq_right up]
      exact isStep_bounds pos step (by simpa using mul_nonneg forward up) (mul_le_mul_of_nonneg_right fraction up)
    · rw [min_eq_right down, max_eq_left down]
      exact isStep_bounds pos step (mul_le_mul_of_nonpos_right fraction down)
        (by simpa using mul_nonpos_of_nonneg_of_nonpos forward down)

theorem pairBox_holds {w : Nat} {p q : Placed} {x y : Nat} (adds : pairAdds w p q x y) : BoxHolds (pairBox w p q) x y := by
  obtain ⟨pl, px, py⟩ := p
  obtain ⟨ql, qx, qy⟩ := q
  cases pl <;> cases ql
  · exact adds.elim
  · obtain ⟨left, right, top, bottom⟩ := adds
    exact ⟨_, _, _, _, rfl, left, right, top, bottom⟩
  · obtain ⟨left, right, top, bottom⟩ := adds
    exact ⟨_, _, _, _, rfl, left, right, top, bottom⟩
  · obtain ⟨n, k, a, b, -, within, across, down, left, right, top, bottom⟩ := adds
    have := isStep_between within across
    have := isStep_between within down
    refine ⟨_, _, _, _, rfl, ?_, ?_, ?_, ?_⟩ <;> dsimp only at * <;> omega

theorem joinBox_holds {a b : Option (Int × Int × Int × Int)} {x y : Nat} (holds : BoxHolds a x y ∨ BoxHolds b x y) :
    BoxHolds (joinBox a b) x y := by
  cases a with
  | none =>
    rcases holds with ⟨_, _, _, _, absent, -⟩ | inside
    · cases absent
    · exact inside
  | some u =>
    obtain ⟨l, r, t, d⟩ := u
    cases b with
    | none =>
      rcases holds with inside | ⟨_, _, _, _, absent, -⟩
      · exact inside
      · cases absent
    | some v =>
      obtain ⟨l', r', t', d'⟩ := v
      refine ⟨_, _, _, _, rfl, ?_⟩
      rcases holds with ⟨_, _, _, _, same, inside⟩ | ⟨_, _, _, _, same, inside⟩ <;> cases same <;> omega

/-- The extent of a route holds every pixel of its route set (R128). -/
theorem routeExtent_holds {w : Nat} {points : List Placed} {x y : Nat} (covers : routeCovers w points x y = true) :
    BoxHolds (routeExtent w points) x y := by
  induction points with
  | nil => cases covers
  | cons p rest ih =>
    cases rest with
    | nil => cases covers
    | cons q rest =>
      rw [routeCovers, Bool.or_eq_true, pairCovers_iff] at covers
      exact joinBox_holds (covers.imp pairBox_holds ih)

/-- A box cut to the face lies on it and holds what the box holds of it (R128). -/
theorem clipBox_of_some {l r t b : Int} {box : Rect} (cut : clipBox l r t b = some box) :
    1 ≤ box.w ∧ 1 ≤ box.h ∧ box.x + box.w ≤ 1080 ∧ box.y + box.h ≤ 1920 ∧
    ∀ x y : Nat, x < 1080 → y < 1920 → l ≤ x → x ≤ r → t ≤ y → y ≤ b →
      box.x ≤ x ∧ x < box.x + box.w ∧ box.y ≤ y ∧ y < box.y + box.h := by
  unfold clipBox at cut
  dsimp only at cut
  split at cut
  · cases cut
    refine ⟨?_, ?_, ?_, ?_, fun x y _ _ _ _ _ _ => ?_⟩ <;> dsimp only <;> omega
  · cases cut

theorem clipBox_of_none {l r t b : Int} (off : clipBox l r t b = none) {x y : Nat} (hx : x < 1080) (hy : y < 1920) :
    ¬(l ≤ x ∧ x ≤ r ∧ t ≤ y ∧ y ≤ b) := by
  unfold clipBox at off
  dsimp only at off
  split at off
  · cases off
  · omega

/-- The work of a route set: none where no pixel of the face is in it, or one plot whose box lies on the face and holds them all (R128,
R129; log 5). -/
theorem routeJob_cases (face : Face) (win : MapWindow) (o : Orientation) (colour : Colour) (width : Nat) {copy : List Waypoint}
    {points : List Placed} (placed : points = copy.map (placeWaypoint win o)) :
    (routeJob face win o colour width copy = [] ∧ ∀ x y, x < 1080 → y < 1920 → ¬routeCovers width points x y = true) ∨
    (∃ box : Rect, routeJob face win o colour width copy = [.plot ⟨face, .map, .xor, .route points width colour, box, 0⟩] ∧
      box.x + box.w ≤ 1080 ∧ box.y + box.h ≤ 1920 ∧
      ∀ x y, x < 1080 → y < 1920 → routeCovers width points x y = true →
        box.x ≤ x ∧ x < box.x + box.w ∧ box.y ≤ y ∧ y < box.y + box.h) := by
  subst placed
  unfold routeJob
  dsimp only
  have holds {x y : Nat} := routeExtent_holds (w := width) (points := copy.map (placeWaypoint win o)) (x := x) (y := y)
  cases extent : routeExtent width (copy.map (placeWaypoint win o)) with
  | none =>
    refine .inl ⟨rfl, fun x y _ _ covers => ?_⟩
    obtain ⟨_, _, _, _, box, -⟩ := holds covers
    cases extent.symm.trans box
  | some edges =>
    obtain ⟨l, r, t, b⟩ := edges
    have inside {x y : Nat} (covers : routeCovers width (copy.map (placeWaypoint win o)) x y = true) :
        l ≤ x ∧ x ≤ r ∧ t ≤ y ∧ y ≤ b := by
      obtain ⟨_, _, _, _, box, inside⟩ := holds covers
      cases extent.symm.trans box
      exact inside
    dsimp only
    cases cut : clipBox l r t b with
    | none => exact .inl ⟨rfl, fun x y hx hy covers => clipBox_of_none cut hx hy (inside covers)⟩
    | some box =>
      obtain ⟨wide, high, right, bottom, keeps⟩ := clipBox_of_some cut
      refine .inr ⟨box, plotJob_of_pos wide high _ _ _, right, bottom, fun x y hx hy covers => ?_⟩
      obtain ⟨left, right, top, bottom⟩ := inside covers
      exact keeps x y hx hy left right top bottom

/-! ### The statement -/

/-- Settles O40: each clause is the lemma of its operation. -/
theorem pixelPathWritesItsPixel : Obligations.PixelPathWritesItsPixel := by
  refine ⟨fun p buffer planes c r column row => ⟨fun l f x y hx hy => ?pixel, fun col => source_solid p buffer,
      fun t col shape _ _ => source_outline p buffer shape, fun o keyed shape b i => source_image p buffer shape, ?glyph, ?route⟩,
    plotRun_twice, ?text, ?placing, ?box⟩
  case pixel =>
    cases source : p.source buffer c r with
    | none => rw [plotPixel_of_masked p buffer planes source]; exact (ite_self _).symm
    | some src =>
      rw [layerColour_plotPixel p buffer planes source column row l f hx hy]
      cases p.combine <;> rfl
  case glyph =>
    intro glyph scale col shape
    rw [Plot.source, shape]
    rfl
  case route =>
    intro points w col shape
    rw [source_route p buffer shape]
    refine ⟨fun adds => if_pos ((routeCovers_iff ..).mpr adds), fun none => if_neg fun covers => ?_⟩
    obtain ⟨i, a, b, first, second, adds⟩ := (routeCovers_iff ..).mp covers
    exact none i a b first second adds
  case text =>
    rintro rtl ellipsis x m g codes positions - rfl
    refine ⟨by rw [layoutText, List.length_map, List.length_zipIdx, cutCodes_length], fun i code edge position => ?_⟩
    obtain ⟨here, edges⟩ := layoutText_getElem? position
    refine ⟨edges, fun kept => ?_, fun e long ell last => ?_⟩
    · rw [← here, cutCodes_kept kept (List.getElem?_eq_some_iff.mp here).1]
    · rw [ell, cutCodes_last long last] at here
      exact (Option.some.inj here).symm
  case placing =>
    rintro win o w q dx dy rx ry scale rfl rfl rfl turned
    refine ⟨decide_eq_true_iff, placeWaypoint_bounds win o w scale (turned.trans ?_)⟩
    cases o <;> rfl
  case box =>
    intro face win o colour width copy points inSet placed set
    have covers (x y : Nat) : inSet x y ↔ x < 1080 ∧ y < 1920 ∧ routeCovers width points x y = true := by
      rw [set, routeCovers_iff]
    rcases routeJob_cases face win o colour width placed with ⟨none, empty⟩ | ⟨box, plot, right, bottom, holds⟩
    · exact .inl ⟨none, fun x y inside => by
        obtain ⟨hx, hy, here⟩ := (covers x y).mp inside
        exact empty x y hx hy here⟩
    · exact .inr ⟨box, plot, right, bottom, fun x y inside => by
        obtain ⟨hx, hy, here⟩ := (covers x y).mp inside
        exact holds x y hx hy here⟩

end Sys2Proof.Machine.DrawEngine
end

section
/-! PROOFS. The pixel value (R133, R134): where its bits stand in Plane Memory, and the entry of the shown palette that it selects. -/

namespace Sys2Proof.Machine.DisplayPlanes

open Sys2Proof Sys2Proof.Machine Sys2Proof.Machine.DrawEngine

/-! ### The bits as numbers -/

theorem planeBit_toNat (planes : Vector Mem 4) (p : Fin 4) (f : Face) (x y : Nat) :
    (planeBit planes p f x y).toNat = if Mem.bit planes[p] (pixelByte f x y) (pixelBit x y) = true then 1 else 0 := by
  unfold planeBit
  cases Mem.bit planes[p] (pixelByte f x y) (pixelBit x y) <;> rfl

/-- Two fields side by side: the low one, and the high one above its bits. -/
theorem append_toNat {m n : Nat} (high : BitVec m) (low : BitVec n) : (high ++ low).toNat = low.toNat + 2 ^ n * high.toNat := by
  rw [BitVec.toNat_append, ← Nat.shiftLeft_add_eq_or_of_lt low.isLt, Nat.shiftLeft_eq, Nat.mul_comm, Nat.add_comm]

theorem layerColour_toNat (planes : Vector Mem 4) (l : Layer) (f : Face) (x y : Nat) :
    (layerColour planes l f x y).toNat =
      (planeBit planes l.planes.1 f x y).toNat + 2 * (planeBit planes l.planes.2 f x y).toNat := append_toNat _ _

theorem pixelValue_toNat (planes : Vector Mem 4) (f : Face) (x y : Nat) :
    (pixelValue planes f x y).toNat = (layerColour planes .map f x y).toNat + 4 * (layerColour planes .card f x y).toNat :=
  append_toNat _ _

/-! ### A colour written into its layer -/

theorem planeBit_putPlaneBit_same (planes : Vector Mem 4) (p : Fin 4) (f : Face) (x y : Nat) (v : Bool) :
    planeBit (putPlaneBit planes p f x y v) p f x y = BitVec.ofBool v := by
  simp [planeBit, putPlaneBit, bit_writeBit _ _ _ (pixelBit_lt x y) (pixelBit_lt x y)]

theorem putPlaneBit_get_ne (planes : Vector Mem 4) {p q : Fin 4} (other : p ≠ q) (f : Face) (x y : Nat) (v : Bool) :
    (putPlaneBit planes p f x y v)[q] = planes[q] := by
  have place : p.val ≠ q.val := fun same => other (Fin.ext same)
  simp [putPlaneBit, place]

theorem planeBit_putPlaneBit_ne (planes : Vector Mem 4) {p q : Fin 4} (other : p ≠ q) (f : Face) (x y : Nat) (v : Bool) :
    planeBit (putPlaneBit planes p f x y v) q f x y = planeBit planes q f x y := by
  unfold planeBit
  rw [putPlaneBit_get_ne planes other]

theorem planes_ne (l : Layer) : l.planes.2 ≠ l.planes.1 := by
  cases l <;> decide

theorem layerColour_putColour_same (planes : Vector Mem 4) (l : Layer) (f : Face) (x y : Nat) (v : Colour) :
    layerColour (putColour planes l f x y v) l f x y = v := by
  unfold layerColour putColour
  rw [planeBit_putPlaneBit_same, planeBit_putPlaneBit_ne _ (planes_ne l), planeBit_putPlaneBit_same]
  exact colour_of_bits v

/-- A write to a layer sets no plane of the other (R134). -/
theorem putColour_get_ne (planes : Vector Mem 4) (l : Layer) {p : Fin 4} (low : l.planes.1 ≠ p) (high : l.planes.2 ≠ p) (f : Face)
    (x y : Nat) (v : Colour) : (putColour planes l f x y v)[p] = planes[p] := by
  rw [putColour, putPlaneBit_get_ne _ high, putPlaneBit_get_ne _ low]

/-! ### The shown colour -/

theorem shownColour_of_value {s : State} {f : Face} {x y : Nat} {i : Fin 16} (value : i.val = (pixelValue s.planes f x y).toNat) :
    s.shownColour f x y = (s.face f).palette.shown[i] := by
  have index : (pixelValue s.planes f x y).toFin = i := Fin.ext value.symm
  exact congrArg (fun entry : Fin 16 => (s.face f).palette.shown[entry]) index

/-- The default palette (R142): a card colour from 1 to 3 hides the map, and card colour 0 shows it. -/
theorem defaultPalette_get (map card : Colour) : defaultPalette[(card ++ map).toFin] =
    if card.toNat = 1 then 0xFFFFFF else if card.toNat = 2 then 0x2E3135 else if card.toNat = 3 then 0xF2661C
    else if map.toNat = 0 then 0xE6DFCF else if map.toNat = 1 then 0xCFD1D3 else if map.toNat = 2 then 0x8E9296 else 0x1F3C73 := by
  revert map card
  decide

/-- Settles O42: the value's bits as numbers, and a write to a layer plane by plane. -/
theorem pixelValueIndexesThePalette : Obligations.PixelValueIndexesThePalette := by
  refine ⟨?place, fun s f x y bit bits => ⟨?map, ?card, pixelValue_toNat _ _ _ _, fun i value => shownColour_of_value value,
    fun v => ⟨layerColour_putColour_same _ _ _ _ _ _, ?cardKept, layerColour_putColour_same _ _ _ _ _ _, ?mapKept⟩, ?default⟩⟩
  case place =>
    rintro m f x y n rfl
    exact ⟨rfl, rfl, rfl⟩
  case map => rw [layerColour_toNat, planeBit_toNat, planeBit_toNat, bits 0, bits 1]; rfl
  case card => rw [layerColour_toNat, planeBit_toNat, planeBit_toNat, bits 2, bits 3]; rfl
  case cardKept => rintro p (rfl | rfl) <;> exact putColour_get_ne _ _ (by decide) (by decide) _ _ _ _
  case mapKept => rintro p (rfl | rfl) <;> exact putColour_get_ne _ _ (by decide) (by decide) _ _ _ _
  case default =>
    rintro shown map card rfl rfl
    rw [State.shownColour, shown]
    exact defaultPalette_get _ _

end Sys2Proof.Machine.DisplayPlanes
end

section
/-! PROOFS. The scan-out of one pixel time (R136, R137, R143; log 6). -/

namespace Sys2Proof.Machine.DisplayPlanes

open Sys2Proof Sys2Proof.Machine

/-! ### The next moment of a scan -/

section
variable {colour : Nat → Nat → Rgb} {x y : Nat} {col : Rgb}

theorem next_within_row (within : x < 1079) : (Scan.pixel x y col).next colour = .pixel (x + 1) y (colour (x + 1) y) :=
  if_pos (show x + 1 < 1080 by omega)

theorem next_after_row (last : x = 1079) (above : y < 1919) : (Scan.pixel x y col).next colour = .rowGap y := by
  have below : y + 1 < Config.faceHeight := show y + 1 < 1920 by omega
  rw [Scan.next, if_neg (by subst last; decide), if_pos below]

theorem next_after_frame (last : x = 1079) (bottom : y = 1919) : (Scan.pixel x y col).next colour = .frameGap := by
  subst last bottom
  rfl

end

theorem step_of_idle {s : State} (idle : s.pending = []) : step s = .next s.scanTick := by
  rw [step, idle]

theorem scanTick_face (s : State) (f : Face) :
    s.scanTick.face f = { s.face f with scan := (s.face f).scan.next (s.shownColour f) } := by
  rw [State.scanTick, mapFaces_face]

theorem scanTick_scan (s : State) (f : Face) : (s.scanTick.face f).scan = (s.face f).scan.next (s.shownColour f) := by
  rw [scanTick_face]

/-! ### The pins -/

theorem pins_of_scan {s : State} {f : Face} {scan : Scan} (phase : (s.face f).scan = scan) :
    s.pxVs f = scan.vs ∧ s.pxDe f = scan.de ∧ s.pxData f = scan.data := by
  rw [State.pxVs, State.pxDe, State.pxData, phase]
  exact ⟨rfl, rfl, rfl⟩

/-- Settles O2: the next moment of each phase of a scan, and its pins. -/
theorem idleStepScansOnePixel : Obligations.IdleStepScansOnePixel := by
  refine ⟨fun s idle => ⟨s.scanTick, step_of_idle idle, mapFaces_outside s _, fun f => ?_⟩, fun s f => ⟨?_, ?_, ?_, ?_⟩⟩
  · rw [scanTick_scan]
    refine ⟨scanTick_face s f, fun sync => ?_, fun x y col pixel => ?_, fun y gap => ?_, fun gap => ?_, fun blank => ?_⟩
    · rw [sync]; rfl
    · rw [pixel]; exact ⟨next_within_row, next_after_row, next_after_frame⟩
    · rw [gap]; rfl
    · rw [gap]; rfl
    · rw [blank]; rfl
  · intro sync
    obtain ⟨vs, de, -⟩ := pins_of_scan sync
    exact ⟨vs, de⟩
  · intro x y col pixel
    exact pins_of_scan pixel
  · rintro (⟨y, gap⟩ | gap)
    all_goals
      obtain ⟨vs, de, -⟩ := pins_of_scan gap
      exact ⟨vs, de⟩
  · exact pins_of_scan

end Sys2Proof.Machine.DisplayPlanes
end

section
/-! PROOFS. The configuration load (R192, R193, R195): its course, and what its end leaves. -/

namespace Sys2Proof.Machine.DisplayPlanes

open Sys2Proof Sys2Proof.Machine

variable {s : State}

/-! ### The end of the load -/

theorem loadEnd_face (s : State) (f : Face) :
    s.loadEnd.face f = (s.face f).intoService s.loader.taken s.loader.taken.enabled[f] := by
  calc s.loadEnd.face f
      = (s.mapFaces (fun f c => c.intoService s.loader.taken s.loader.taken.enabled[f])).face f := rfl
    _ = _ := mapFaces_face s _ f

theorem tryLoadEnd_of_due (phase : s.loader.phase = .clearing) (clear : s.loader.clearing = false) : s.tryLoadEnd = s.loadEnd :=
  if_pos ⟨phase, by rw [clear]; rfl⟩

theorem tryLoadEnd_of_other (phase : s.loader.phase ≠ .clearing) : s.tryLoadEnd = s := if_neg (fun due => phase due.1)

theorem tryLoadEnd_of_clearing (clearing : s.loader.clearing = true) : s.tryLoadEnd = s :=
  if_neg (fun due => by simp [clearing] at due)

/-- All that a look at the load's two conditions does (R192). -/
theorem tryLoadEnd_loader (s : State) : s.tryLoadEnd.loader =
    { s.loader with phase := if s.loader.phase = .clearing ∧ s.loader.clearing = false then .ended else s.loader.phase } := by
  by_cases phase : s.loader.phase = .clearing
  · cases clearing : s.loader.clearing with
    | false => rw [tryLoadEnd_of_due phase clearing, if_pos ⟨phase, rfl⟩]; rfl
    | true => rw [tryLoadEnd_of_clearing clearing, if_neg (by simp)]
  · rw [tryLoadEnd_of_other phase, if_neg (fun due => phase due.1)]

theorem tryLoadEnd_planes (s : State) : s.tryLoadEnd.planes = s.planes := by
  unfold State.tryLoadEnd
  split <;> rfl

/-! ### The end of the read -/

/-- The state in which a read has ended, before the load's end. -/
def readDone (s : State) (st : LoaderState) (taken : Settings) : State :=
  { s with loader := { s.loader with state := st, phase := .clearing, limit := .stopped, taken := taken } }

theorem readEnd_of_reading (st : LoaderState) (taken : Settings) (reading : s.loader.phase = .reading) :
    s.readEnd st taken = (readDone s st taken).tryLoadEnd := if_pos reading

theorem readEnd_of_other (st : LoaderState) (taken : Settings) (other : s.loader.phase ≠ .reading) : s.readEnd st taken = s :=
  if_neg other

theorem readEnd_loader (st : LoaderState) (taken : Settings) (reading : s.loader.phase = .reading) :
    (s.readEnd st taken).loader =
      ⟨st, if s.loader.clearing then .clearing else .ended, .stopped, s.loader.clearing, taken⟩ := by
  rw [readEnd_of_reading st taken reading, tryLoadEnd_loader]
  cases clearing : s.loader.clearing <;> simp [readDone, clearing]

theorem configKeyOk_iff (bytes : Vector Byte 32) : configKeyOk bytes = true ↔ bytes[0] = 0x48 ∧ bytes[1] = 0x43 := by
  rw [configKeyOk, Bool.and_eq_true, decide_eq_true_iff, decide_eq_true_iff]

theorem exec_configReadComplete (bytes : Vector Byte 32) (s : State) : exec (.configReadComplete bytes) s = .next
    (s.readEnd (if bytes[0] = 0x48 ∧ bytes[1] = 0x43 then .loaded else .defaulted)
      (if bytes[0] = 0x48 ∧ bytes[1] = 0x43 then configSettings bytes else Settings.default)) := by
  show execConfigReadComplete bytes s = _
  unfold execConfigReadComplete
  by_cases key : bytes[0] = 0x48 ∧ bytes[1] = 0x43
  · rw [if_pos ((configKeyOk_iff bytes).mpr key), if_pos key, if_pos key]
  · rw [if_neg (fun ok => key ((configKeyOk_iff bytes).mp ok)), if_neg key, if_neg key]

/-! ### The clearing of Plane Memory -/

/-- The state in which Plane Memory is clear, before the load's end. -/
def planesCleared (s : State) : State :=
  { s with planes := Vector.replicate 4 [], loader := { s.loader with clearing := false } }

theorem exec_planeClearDone (clearing : s.loader.clearing = true) : exec .planeClearDone s = .next (planesCleared s).tryLoadEnd := by
  show execPlaneClearDone s = _
  rw [execPlaneClearDone, if_pos clearing]
  rfl

/-- Settles O5: the loader after each command of the load. -/
theorem loadRunsToItsEnd : Obligations.LoadRunsToItsEnd := by
  refine ⟨rfl, fun s held => ?_, fun s reading => ⟨fun bytes => ?_, ?_⟩, fun s clearing => ?_⟩
  · exact congrArg Host.Outcome.next (if_pos held)
  · exact ⟨_, exec_configReadComplete bytes s, readEnd_loader _ _ reading⟩
  · rintro c (rfl | rfl) <;> exact ⟨_, rfl, readEnd_loader _ _ reading⟩
  · refine ⟨_, exec_planeClearDone clearing, fun p => ?_, ?_, ?_⟩
    · rw [tryLoadEnd_planes]
      exact Vector.getElem_replicate _
    · rw [tryLoadEnd_loader]
      rfl
    · rw [tryLoadEnd_loader]
      simp [planesCleared]

end Sys2Proof.Machine.DisplayPlanes
end

section
/-! PROOFS. What few commands write: Plane Memory, the settings, the loader and the supervisor records (R133, R170, R192, R193), and the
operations on faces that leave them. -/

namespace Sys2Proof.Machine.DisplayPlanes

open Sys2Proof Sys2Proof.Machine Sys2Proof.Machine.UpdateTransactions

/-- What few commands write: Plane Memory, what is in force from the configuration, the loader, and the supervisor records. -/
structure Lasting where
  planes : Vector Mem 4
  settings : Settings
  loader : Loader
  supervisor : Face → Supervisor

def lasting (s : State) : Lasting where
  planes := s.planes
  settings := s.settings
  loader := s.loader
  supervisor := fun f => (s.face f).supervisor

variable {s t : State}

/-! ### Changes of faces -/

theorem lasting_of_outside (outside : s.SameOutsideFaces t) (faces : ∀ f, (t.face f).supervisor = (s.face f).supervisor) :
    lasting t = lasting s := by
  have supervisor : (lasting t).supervisor = (lasting s).supervisor := funext faces
  calc lasting t = { lasting s with supervisor := (lasting t).supervisor } := by rw [outside]; rfl
    _ = lasting s := by rw [supervisor]

theorem lasting_modFace (s : State) (f : Face) (g : FaceContext → FaceContext)
    (same : (g (s.face f)).supervisor = (s.face f).supervisor) : lasting (s.modFace f g) = lasting s := by
  refine lasting_of_outside (modFace_outside s f g) (fun h => ?_)
  rw [modFace_face]
  split
  · next own => subst own; exact same
  · rfl

theorem lasting_mapFaces (s : State) (g : Face → FaceContext → FaceContext)
    (same : ∀ f, (g f (s.face f)).supervisor = (s.face f).supervisor) : lasting (s.mapFaces g) = lasting s :=
  lasting_of_outside (mapFaces_outside s g) (fun f => by rw [mapFaces_face]; exact same f)

@[simp] theorem lasting_modQueue (s : State) (f : Face) (u : Queue → Queue) : lasting (s.modQueue f u) = lasting s :=
  lasting_modFace s f _ rfl

@[simp] theorem lasting_raise (s : State) (f : Face) (e : Event) : lasting (s.raise f e) = lasting s := by
  rw [raise_eq]
  exact lasting_modFace s f _ rfl

@[simp] theorem lasting_raiseIf (s : State) (b : Bool) (f : Face) (e : Event) : lasting (s.raiseIf b f e) = lasting s := by
  cases b with
  | true => exact lasting_raise s f e
  | false => rfl

@[simp] theorem lasting_raiseAll (s : State) (e : Event) : lasting (s.raiseAll e) = lasting s :=
  lasting_of_outside (raiseAll_outside s e) (fun f => by rw [raiseAll_face])

theorem lasting_ite {u : State} {p : Prop} [Decidable p] (yes : p → lasting t = lasting s) (no : ¬p → lasting u = lasting s) :
    lasting (if p then t else u) = lasting s := by
  split
  · next holds => exact yes holds
  · next fails => exact no fails

/-- A command whose event cannot happen leaves the state (log 2). -/
theorem lasting_if {p : Prop} [Decidable p] (same : p → lasting t = lasting s) : lasting (if p then t else s) = lasting s :=
  lasting_ite same (fun _ => rfl)

/-! ### Ports -/

@[simp] theorem lasting_answer (s : State) (f : Face) (code : ReplyCode) (request : Byte) (results : Bytes) :
    lasting (s.answer f code request results) = lasting s := by
  rw [answer_eq]
  exact lasting_modFace s f _ rfl

/-- An owner that changes its face outside the supervisor record and answers. -/
theorem lasting_set (s : State) (f : Face) (g : FaceContext → FaceContext) (same : ∀ c, (g c).supervisor = c.supervisor)
    (code : ReplyCode) (request : Byte) (results : Bytes) :
    lasting ((s.modFace f g).answer f code request results) = lasting s := by
  rw [lasting_answer, lasting_modFace s f g (same _)]

theorem lasting_hold (s : State) (f : Face) (h : HeldRequest) : lasting (s.hold f h) = lasting s := lasting_modFace s f _ rfl

theorem lasting_shiftOut (s : State) (f : Face) (bs : Bytes) : lasting (s.shiftOut f bs) = lasting s := lasting_modFace s f _ rfl

theorem lasting_takeRequest (s : State) (f : Face) : lasting (s.takeRequest f) = lasting s := lasting_modFace s f _ rfl

theorem lasting_fillReply (s : State) (f : Face) (code : ReplyCode) (request : Byte) (results : Bytes) :
    lasting (s.fillReply f code request results) = lasting s := by
  unfold State.fillReply
  rw [lasting_raise]
  exact lasting_modFace s f _ rfl

/-- A request whose owner writes none of it writes none of it (R74). -/
theorem lasting_request (s : State) (f : Face) (code : Byte) (known : Bool) (x : Transfer) {own : State → State}
    (owner : ∀ u, lasting (own u) = lasting u) : lasting (s.request f code known x own) = lasting s := by
  have shift : lasting (s.requestShift f x) = lasting s := lasting_shiftOut s f _
  obtain ⟨-, h⟩ | ⟨-, -, h⟩ | ⟨-, -, ⟨r, -, h⟩ | ⟨-, h⟩⟩ := request_cases s f code known x own <;> rw [h]
  · rw [lasting_fillReply, shift]
  · exact shift
  · rw [lasting_fillReply, shift]
  · rw [owner, lasting_takeRequest, shift]

@[simp] theorem lasting_applyReset (s : State) (f : Face) : lasting (s.applyReset f) = lasting s :=
  lasting_set s f FaceContext.resetFace (fun _ => rfl) _ _ _

theorem lasting_answerRequest (s : State) (f : Face) (h : HeldRequest) : lasting (s.answerRequest f h) = lasting s := by
  cases h with
  | resetFace => exact lasting_applyReset s f
  | _ => exact lasting_answer s f _ _ _

theorem lasting_query (s : State) (f : Face) (code : Byte) (q : Option HeldRequest) : lasting (s.query f code q) = lasting s := by
  cases q with
  | none => exact lasting_answer s f _ _ _
  | some h => exact lasting_ite (fun _ => lasting_hold s f h) (fun _ => lasting_answerRequest s f h)

theorem lasting_takeSlotRead (s : State) (f : Face) (h : HeldRequest) : lasting (s.takeSlotRead f h) = lasting s :=
  lasting_ite (fun _ => lasting_hold s f h) (fun _ => lasting_answerRequest s f h)

theorem lasting_answerAllHeld (s : State) (which : HeldRequest → Bool) : lasting (s.answerAllHeld which) = lasting s := by
  refine lasting_of_outside (answerAllHeld_outside s which) (fun f => ?_)
  rw [answerAllHeld_face]
  cases held : (s.face f).port.inProgress with
  | none => rw [answerHeld_of_none which held]
  | some h =>
    rw [answerHeld_of_some which held]
    have same : lasting (if which h = true then s.answerRequest f h else s) = lasting s := lasting_if (fun _ => lasting_answerRequest s f h)
    exact congrArg (fun l => l.supervisor f) same

end Sys2Proof.Machine.DisplayPlanes
end

section
/-! PROOFS. The operations of the arbiter, the queues, the Evacuation Controller and the Update Controller write none of it. -/

namespace Sys2Proof.Machine.DisplayPlanes

open Sys2Proof Sys2Proof.Machine Sys2Proof.Machine.UpdateTransactions Sys2Proof.Machine.NameOrder

/-! ### The arbiter and the queues -/

@[simp] theorem lasting_arbitrate (s : State) : lasting s.arbitrate = lasting s := by
  rw [arbitrate_eq]; rfl

theorem lasting_stopQueue (s : State) (f : Face) : lasting (s.stopQueue f) = lasting s := by
  unfold State.stopQueue
  split <;> simp

theorem lasting_haltQueues (s : State) (r : HaltReason) : lasting (s.haltQueues r) = lasting s :=
  lasting_mapFaces s _ (fun _ => rfl)

theorem lasting_waitFrameDone (s : State) (f : Face) : lasting (s.waitFrameDone f) = lasting s := by
  unfold State.waitFrameDone
  dsimp only
  split <;> simp

theorem lasting_frameStart (s : State) (f : Face) : lasting (s.frameStart f) = lasting s := by
  unfold State.frameStart
  rw [lasting_arbitrate, lasting_waitFrameDone]
  exact lasting_modFace s f _ rfl

/-! ### Evacuation -/

theorem lasting_takeover (s : State) : lasting s.takeover = lasting s := by
  unfold State.takeover
  rw [lasting_arbitrate]
  exact lasting_haltQueues s _

theorem lasting_givePalette (s : State) (p : Vector Rgb 16) : lasting (s.givePalette p) = lasting s :=
  lasting_mapFaces s _ (fun f => by split <;> rfl)

theorem lasting_startView (s : State) : lasting s.startView = lasting s := lasting_givePalette s _

theorem lasting_startRelease (s : State) : lasting s.startRelease = lasting s := rfl

theorem lasting_redrawCause (s : State) : lasting s.redrawCause = lasting s := by
  unfold State.redrawCause
  split
  · exact lasting_startView s
  · rfl

theorem lasting_lookSources (s : State) : lasting s.lookSources = lasting s := by
  unfold State.lookSources
  split
  · exact lasting_if (fun _ => lasting_takeover s)
  · exact lasting_if (fun _ => rfl)
  · exact lasting_ite (fun _ => lasting_if (fun _ => lasting_redrawCause s)) (fun _ => lasting_if (fun _ => lasting_startRelease s))
  · rfl

theorem lasting_shownCommit (s : State) : lasting s.shownCommit = lasting s := by
  unfold State.shownCommit
  split
  · exact lasting_if (fun _ => rfl)
  · exact lasting_redrawCause s
  · rfl
  · rfl

theorem lasting_noticeEntry (s : State) (n : Nat) : lasting (s.noticeEntry n) = lasting s := by
  unfold State.noticeEntry
  split
  · exact lasting_if (fun _ => lasting_shownCommit s)
  · rfl

theorem lasting_noticePlan (s : State) (z : Nat) : lasting (s.noticePlan z) = lasting s :=
  lasting_if (fun _ => lasting_shownCommit s)

theorem lasting_ecGrant (s : State) : lasting s.ecGrant = lasting s := by
  unfold State.ecGrant
  rw [lasting_startView]
  exact lasting_mapFaces (s.grantTo .ec) _ (fun _ => rfl)

theorem lasting_afterDrawing (s : State) : lasting s.afterDrawing = lasting s :=
  lasting_ite (fun _ => lasting_startRelease s) (fun _ => lasting_ite (fun _ => lasting_startView s) (fun _ => rfl))

theorem lasting_viewEnd (s : State) : lasting s.viewEnd = lasting s := by
  unfold State.viewEnd
  refine lasting_ite (fun _ => ?_) (fun _ => lasting_afterDrawing _)
  rw [lasting_afterDrawing, lasting_raiseAll]
  rfl

theorem lasting_cycleExpiry (s : State) : lasting s.cycleExpiry = lasting s := by
  unfold State.cycleExpiry
  split <;> rfl

theorem lasting_blankEnd (s : State) : lasting s.blankEnd = lasting s := by
  have own : lasting (s.mapFaces (fun f c => if s.enabled f then { c with palette := { c.palette with source := .face } } else c)) =
      lasting s := lasting_mapFaces s _ (fun f => by split <;> rfl)
  have ended (u : State) (g : Evac → Evac) : lasting ((u.release.raiseAll .evacOff).modEvac g) = lasting u :=
    lasting_raiseAll u.release .evacOff
  unfold State.blankEnd
  dsimp only
  split
  · rw [lasting_takeover, ended, own]
  · rw [lasting_arbitrate, ended, own]

/-! ### Commits -/

@[simp] theorem lasting_commitDone (s : State) : lasting s.commitDone = lasting s := by
  unfold State.commitDone
  split <;> rfl

theorem lasting_templateCommit (s : State) (x : Txn) : lasting (s.templateCommit x) = lasting s := by
  by_cases op : x.op = .load
  · rw [templateCommit_load op]; rfl
  · rw [templateCommit_of_not_load op, lasting_raiseAll, lasting_commitDone]; rfl

theorem lasting_releaseDeferred (s : State) : lasting s.releaseDeferred = lasting s := by
  unfold State.releaseDeferred
  split
  · exact lasting_if (fun _ => lasting_templateCommit s _)
  · rfl

theorem lasting_commitNotice (s : State) (n : Nat) (new : EntryState) : lasting (s.commitNotice n new) = lasting s := by
  have latched (c : FaceContext) (b : Bool) (e : Event) : (c.latchIf b e).supervisor = c.supervisor := by cases b <;> rfl
  exact lasting_mapFaces s _ (fun f => by simp only [FaceContext.notice, latched])

theorem lasting_entryCommit (s : State) (x : Txn) : lasting (s.entryCommit x) = lasting s := by
  unfold State.entryCommit
  dsimp only
  rw [lasting_noticeEntry, lasting_raiseAll, lasting_commitNotice]
  rfl

theorem lasting_glyphCommit (s : State) (x : Txn) : lasting (s.glyphCommit x) = lasting s := by
  unfold State.glyphCommit
  split
  · rfl
  · rw [lasting_raiseAll, lasting_commitDone]; rfl

theorem lasting_languageCommit (s : State) (x : Txn) : lasting (s.languageCommit x) = lasting s := by
  unfold State.languageCommit
  dsimp only
  rw [lasting_raiseAll, lasting_commitDone]
  rfl

theorem lasting_planCommit (s : State) (x : Txn) : lasting (s.planCommit x) = lasting s := by
  unfold State.planCommit
  dsimp only
  rw [lasting_noticePlan, lasting_commitDone]
  rfl

theorem lasting_startCommit (s : State) (x : Txn) : lasting (s.startCommit x) = lasting s := by
  unfold State.startCommit
  split
  · exact lasting_entryCommit _ x
  · exact lasting_templateCommit _ x
  · exact lasting_glyphCommit _ x
  · exact lasting_languageCommit _ x
  · exact lasting_planCommit _ x

theorem lasting_glyphCopied (s : State) (p : Nat) : lasting (s.glyphCopied p) = lasting s := by
  have answered (u : State) : lasting u.answerGlyph = lasting u := by
    unfold State.answerGlyph
    refine lasting_if (fun _ => ?_)
    split <;> rfl
  unfold State.glyphCopied
  dsimp only
  rw [answered, lasting_raiseAll, lasting_commitDone]
  rfl

theorem lasting_templateCopied (s : State) (k : Nat) : lasting (s.templateCopied k) = lasting s := by
  unfold State.templateCopied
  dsimp only
  rw [lasting_raiseAll, lasting_commitDone]
  rfl

theorem lasting_purgeEnd (s : State) : lasting s.purgeEnd = lasting s := by
  rw [purgeEnd_eq, lasting_arbitrate, lasting_answerAllHeld]
  have faces (f : Face) : ((purgedState s).face f).supervisor = (s.face f).supervisor := by
    rw [purgedState_face]
    rfl
  calc lasting (purgedState s) = { lasting s with supervisor := (lasting (purgedState s)).supervisor } := rfl
    _ = lasting s := congrArg (fun v => { lasting s with supervisor := v }) (funext faces)

/-! ### Trunk frames -/

/-- A trunk command whose action writes none of it writes none of it. -/
theorem lasting_trunkFrame (s : State) (feed : Feed) (mine : Byte → Bool) {act : State → Bytes → State × TrunkReply}
    (action : ∀ u data, lasting (act u data).1 = lasting u) : lasting (s.trunkFrame feed mine act) = lasting s := by
  unfold State.trunkFrame
  split
  · rfl
  · exact lasting_if (fun _ => lasting_ite (fun _ => action { s with trunk := _ } _) (fun _ => action { s with trunk := _ } _))

theorem lasting_withLength {n : Nat} {act : State → Bytes → State × TrunkReply} (s : State) (data : Bytes)
    (action : lasting (act s data).1 = lasting s) : lasting (withLength n act s data).1 = lasting s := by
  obtain same | acts := withLength_state n act s data
  · rw [same]
  · rw [acts]; exact action

theorem lasting_endTxn (s : State) (o : TxnOutcome) : lasting (s.endTxn o) = lasting s := by
  unfold State.endTxn
  split <;> rfl

theorem lasting_openChecked (s : State) (data : Bytes) : lasting (s.openChecked data).1 = lasting s := by
  unfold State.openChecked
  dsimp only
  split
  · split_ifs <;> rfl
  · rfl

theorem lasting_openTxn (s : State) (data : Bytes) : lasting (s.openTxn data).1 = lasting s := by
  have displaced : lasting (if s.update.state = .staging then s.endTxn .displaced else s) = lasting s :=
    lasting_if (fun _ => lasting_endTxn s _)
  unfold State.openTxn
  dsimp only
  split
  · exact displaced
  · split
    · exact displaced
    · exact displaced
    · exact (lasting_openChecked _ data).trans displaced
    · exact (lasting_openChecked _ data).trans displaced

theorem lasting_chunk (s : State) (data : Bytes) : lasting (s.chunk data).1 = lasting s := by
  unfold State.chunk
  split_ifs
  · rw [nakState_state]
  · rfl
  · split
    · rfl
    · split <;> rfl

theorem lasting_stageFrame (s : State) (data : Bytes) : lasting (s.stageFrame data).1 = lasting s := by
  unfold State.stageFrame
  split_ifs
  · rw [nakState_state]
  · rfl
  · rfl
  · rfl
  · split
    · rfl
    · exact lasting_endTxn s _

theorem lasting_close (s : State) (data : Bytes) : lasting (s.close data).1 = lasting s := by
  unfold State.close
  split
  · split_ifs
    · rfl
    · exact lasting_endTxn s _
    · exact lasting_endTxn s _
    · rfl
    · exact lasting_startCommit s _
  · rw [nakState_state]

theorem lasting_abandon (s : State) : lasting s.abandon.1 = lasting s := by
  unfold State.abandon
  split
  · exact lasting_endTxn s _
  · exact lasting_endTxn s _
  · rw [nakState_state]
  · rw [nakState_state]

theorem lasting_purge (s : State) : lasting s.purge.1 = lasting s := by
  obtain same | ⟨-, -, -, accepts⟩ := purge_cases s
  · rw [same]
  · rw [accepts, State.acceptPurge, lasting_arbitrate]
    exact lasting_endTxn s _

theorem lasting_alarm (s : State) (data : Bytes) : lasting (s.alarm data).1 = lasting s := by
  unfold State.alarm
  split
  · rfl
  · split
    · rfl
    · exact lasting_lookSources _

theorem lasting_allClear (s : State) : lasting s.allClear.1 = lasting s := by
  unfold State.allClear
  split
  · rfl
  · exact lasting_lookSources _

end Sys2Proof.Machine.DisplayPlanes
end

section
/-! PROOFS. The work of a segment writes none of it but Plane Memory, and that at pixel groups alone (R113, R133). -/

namespace Sys2Proof.Machine.DisplayPlanes

open Sys2Proof Sys2Proof.Machine Sys2Proof.Machine.UpdateTransactions Sys2Proof.Machine.NameOrder Sys2Proof.Machine.DrawQueues

variable {s t : State}

/-! ### Cells -/

/-- What a queue-level cell's work leaves as it is holds all of it. -/
theorem lasting_leftBy (f : Face) (s : State) : lasting (leftBy f s) = lasting s := lasting_modFace s f bareContext rfl

theorem lasting_of_left {f : Face} (same : leftBy f t = leftBy f s) : lasting t = lasting s := by
  rw [← lasting_leftBy f t, same, lasting_leftBy]

@[simp] theorem lasting_setStack (s : State) (f : Face) (ls : List Level) : lasting (s.setStack f ls) = lasting s :=
  lasting_modQueue s f _

theorem lasting_enterTemplate (s : State) (f : Face) (k x y : Nat) (ret : Option (Fin 16)) :
    lasting (s.enterTemplate f k x y ret) = lasting s := lasting_of_left (leftBy_enterTemplate s f k x y ret)

theorem lasting_resumePush (s : State) : lasting s.resumePush = lasting s := by
  unfold State.resumePush
  split
  · next g _ =>
    split
    · split
      · rfl
      · exact lasting_of_left (leftBy_pushLevel s g.face _ _ _ _)
    · rfl
  · rfl

theorem lasting_gotoCell (s : State) (f : Face) (cell : Fin 16) : lasting (s.gotoCell f cell) = lasting s := by
  unfold State.gotoCell
  split <;> simp

theorem lasting_nextCell (s : State) (f : Face) : lasting (s.nextCell f) = lasting s := by
  unfold State.nextCell
  split <;> simp

theorem lasting_popLevel (s : State) (f : Face) : lasting (s.popLevel f) = lasting s := by
  unfold State.popLevel
  split
  · exact lasting_setStack s f _
  · exact lasting_setStack s f _
  · rfl

theorem lasting_plainDraw {f : Face} {x y : Nat} {seg : Seg} (draws : s.plainDraw f x y seg = some (.ok t)) :
    lasting t = lasting s := by
  obtain ⟨l, m, shape, r, rfl⟩ := plainDraw_drawn draws
  exact lasting_of_left (leftBy_drawShape s f l m shape r)

theorem lasting_textWork (s : State) (f : Face) (l : Fin 4) (n : Snapshot) (field : TextSource) (m : Combine) (col : Colour)
    (scale x y width : Nat) : lasting (s.textWork f l n field m col scale x y width) = lasting s := by
  unfold State.textWork
  split
  · rfl
  · split
    · exact lasting_nextCell s f
    · rfl

theorem lasting_templateWork (s : State) (f : Face) (language : Fin 4) (top : Level) (seg : Seg) :
    lasting (s.templateWork f language top seg) = lasting s := by
  cases seg with
  | fill | frame | image =>
    unfold State.templateWork
    dsimp only
    split
    · next draws => exact lasting_plainDraw draws
    · rfl
    · rfl
  | call k x y => exact lasting_enterTemplate s f _ _ _ _
  | textField =>
    unfold State.templateWork
    dsimp only
    split
    · exact lasting_textWork s f _ _ _ _ _ _ _ _ _
    · rfl
  | select =>
    unfold State.templateWork
    dsimp only
    split
    · exact lasting_gotoCell s f _
    · rfl
  | goto cell => exact lasting_gotoCell s f cell
  | endLevel => exact lasting_popLevel s f
  | card | route | clearRoute | clearSlot | waitFrame => rfl

theorem lasting_templateStep (s : State) (g : Segment) (top : Level) (below : List Level) :
    lasting (s.templateStep g top below) = lasting s := by
  have spent (ls : List Level) (r : FaultReason) : lasting ((s.setStack g.face ls).failSegment r) = lasting s :=
    lasting_setStack s g.face ls
  unfold State.templateStep
  refine lasting_ite (fun _ => rfl) (fun _ => ?_)
  dsimp only
  split
  · exact spent _ _
  · split
    · exact spent _ _
    · split
      · exact spent _ _
      · rw [lasting_templateWork, lasting_setStack]

theorem lasting_eraseDone (s : State) (g : Segment) : lasting (s.eraseDone g) = lasting s := by
  have emptied : lasting (s.modFace g.face (fun c => { c with route := none })) = lasting s := lasting_modFace s g.face _ rfl
  unfold State.eraseDone
  dsimp only
  split
  · split
    · exact (lasting_of_left (leftBy_routeSnapshot _ g.face _ _ _)).trans emptied
    · exact emptied
  · exact emptied

/-! ### Pixel groups -/

theorem lasting_workDone (s : State) (g : Segment) : lasting (s.workDone g) = lasting s := by
  unfold State.workDone
  split
  · exact lasting_nextCell s g.face
  · rfl
  · rfl
  · next slot _ => exact lasting_modFace s g.face (fun c => c.setCard slot none) rfl
  all_goals rfl

theorem lasting_writeGroup (s : State) (count : Nat) :
    lasting (s.writeGroup count) = { lasting s with planes := (s.writeGroup count).planes } := by
  unfold State.writeGroup
  split <;> rfl

/-- A pixel group writes Plane Memory and none of the rest (R113). -/
theorem lasting_pixelGroup (s : State) (count : Nat) :
    lasting (s.pixelGroup count) = { lasting s with planes := (s.pixelGroup count).planes } := by
  have same : lasting (s.pixelGroup count) = lasting (s.writeGroup count) := by
    unfold State.pixelGroup
    refine lasting_if (fun _ => ?_)
    split
    · exact lasting_workDone _ _
    · rfl
  have planes : (s.pixelGroup count).planes = (s.writeGroup count).planes := congrArg Lasting.planes same
  rw [same, planes, lasting_writeGroup]

/-! ### Ends and grants -/

theorem lasting_endTaken (s : State) (g : Segment) (fault : Option FaultReason) : lasting (s.endTaken g fault) = lasting s := by
  obtain ⟨outside, -, own, others⟩ := endTaken_changes s g fault
  have faces (f : Face) : ((s.endTaken g fault).face f).supervisor = (s.face f).supervisor := by
    by_cases face : g.face = f
    · subst face
      rw [own]
    · rw [others f face]
  calc lasting (s.endTaken g fault) = { lasting s with supervisor := (lasting (s.endTaken g fault)).supervisor } := by
        rw [outside]; rfl
    _ = lasting s := congrArg (fun v => { lasting s with supervisor := v }) (funext faces)

theorem lasting_segmentEnd (s : State) (g : Segment) (fault : Option FaultReason) : lasting (s.segmentEnd g fault) = lasting s := by
  have reset (u : State) (f : Face) : lasting (u.applyHeldReset f) = lasting u := lasting_if (fun _ => lasting_applyReset u f)
  rw [State.segmentEnd, lasting_arbitrate, reset, lasting_releaseDeferred, lasting_endTaken]

theorem lasting_granted (s : State) (f : Face) (claims : List Face) (g : Segment) : lasting (granted s f claims g) = lasting s :=
  (lasting_modFace (s.mapFaces (fun h c => { c with waitCount := waitCountAfter f claims h c.waitCount })) f
    (fun c => { c with queue := { c.queue with state := .running } }) rfl).trans (lasting_mapFaces s _ (fun _ => rfl))

theorem lasting_faceGrant (s : State) (f : Face) (claims : List Face) : lasting (s.faceGrant f claims) = lasting s := by
  obtain same | ⟨g, -, ends | ⟨cell, begins⟩⟩ := faceGrant_cases s f claims
  · rw [same]
  · rw [ends, lasting_segmentEnd, lasting_granted]
  · rw [begins, lasting_of_left (leftBy_startCell _ f cell), lasting_granted]

end Sys2Proof.Machine.DisplayPlanes
end

section
/-! PROOFS. Which command writes what: Plane Memory, the settings, the loader and the supervisor records (R133, R170, R192, R193). -/

namespace Sys2Proof.Machine.DisplayPlanes

open Sys2Proof Sys2Proof.Machine Sys2Proof.Machine.UpdateTransactions Sys2Proof.Machine.NameOrder Sys2Proof.Machine.FacePorts

variable {s t : State}

/-! ### The commands that write none of it -/

/-- A request other than KICK (R74, R163). -/
theorem request_lasting {c : Instr} {f : Face} {code : Byte} {x : Transfer} (asks : requestOf c = some (f, code, x))
    (still : movesSupervisor c = false) (next : exec c s = .next t) : lasting t = lasting s := by
  have answered (u : State) (f : Face) (code : ReplyCode) (request : Byte) (results : Bytes) :
      lasting (u.answer f code request results) = lasting u := lasting_answer u f code request results
  cases c with
  | kick f x => cases still
  | status f x => cases next; exact lasting_request s f _ _ x (fun u => answered u f _ _ _)
  | readEvents f x => cases next; exact lasting_request s f _ _ x (fun u => lasting_modFace u f _ rfl)
  | setMask f x => cases next; exact lasting_request s f _ _ x (fun u => by simp [lasting_modFace])
  | readEntry f x => cases next; exact lasting_request s f _ _ x (fun u => lasting_query u f _ _)
  | listWindow f x => cases next; exact lasting_request s f _ _ x (fun u => lasting_query u f _ _)
  | findPrefix f x => cases next; exact lasting_request s f _ _ x (fun u => lasting_query u f _ _)
  | readFault f x => cases next; exact lasting_request s f _ _ x (fun u => answered u f _ _ _)
  | readSlots f x => cases next; exact lasting_request s f _ _ x (fun u => lasting_takeSlotRead u f _)
  | hitTest f x =>
    cases next
    exact lasting_request s f _ _ x (fun u => lasting_ite (fun _ => answered u f _ _ _) (fun _ => lasting_takeSlotRead u f _))
  | stop f x =>
    cases next
    exact lasting_request s f _ _ x (fun u => by rw [lasting_arbitrate, answered, lasting_stopQueue])
  | resetFace f x =>
    cases next
    exact lasting_request s f _ _ x (fun u => lasting_ite (fun _ => lasting_hold u f _)
      (fun _ => (lasting_arbitrate _).trans (lasting_applyReset u f)))
  | setPalette f x => cases next; exact lasting_request s f _ _ x (fun u => by split_ifs <;> simp [lasting_modFace])
  | setMap f x => cases next; exact lasting_request s f _ _ x (fun u => by split_ifs <;> simp [lasting_modFace])
  | writeImage f x => cases next; exact lasting_request s f _ _ x (fun u => by split_ifs <;> simp [lasting_modFace])
  | setLanguage f x => cases next; exact lasting_request s f _ _ x (fun u => by split <;> simp [lasting_modFace])
  | writeCells f x =>
    cases next
    refine lasting_request s f _ _ x (fun u => ?_)
    split
    · exact answered u f _ _ _
    · split <;> simp
  | start f x =>
    cases next
    refine lasting_request s f _ _ x (fun u => ?_)
    split
    · split_ifs <;> simp
    · exact answered u f _ _ _
  | append f x =>
    cases next
    refine lasting_request s f _ _ x (fun u => ?_)
    split
    · exact answered u f _ _ _
    · refine lasting_ite (fun _ => answered u f _ _ _) (fun _ => ?_)
      split
      · exact answered u f _ _ _
      · split <;> simp
  | _ => cases asks

/-- The frames of the trunk, whether or not one is taken. -/
theorem trunk_lasting {c : Instr}
    (trunk : c matches .openFrame .. | .chunkFrame .. | .waypointsFrame .. | .closeFrame .. | .abandonFrame .. | .purgeFrame ..
      | .alarmFrame .. | .allClearFrame .. | .pollFrame .. | .unknownFrameKind .. | .trunkFrameDropped .. | .trunkFrameTimeout ..)
    (next : exec c s = .next t) : lasting t = lasting s := by
  cases c with
  | openFrame feed => cases next; exact lasting_trunkFrame s feed _ lasting_openTxn
  | chunkFrame feed => cases next; exact lasting_trunkFrame s feed _ lasting_chunk
  | waypointsFrame feed => cases next; exact lasting_trunkFrame s feed _ lasting_stageFrame
  | closeFrame feed => cases next; exact lasting_trunkFrame s feed _ lasting_close
  | abandonFrame feed => cases next; exact lasting_trunkFrame s feed _ (fun u data => lasting_withLength u data (lasting_abandon u))
  | purgeFrame feed => cases next; exact lasting_trunkFrame s feed _ (fun u data => lasting_withLength u data (lasting_purge u))
  | alarmFrame feed => cases next; exact lasting_trunkFrame s feed _ (fun u data => lasting_withLength u data (lasting_alarm u data))
  | allClearFrame feed => cases next; exact lasting_trunkFrame s feed _ (fun u data => lasting_withLength u data (lasting_allClear u))
  | pollFrame feed =>
    cases next
    exact lasting_trunkFrame s feed _ (fun u data => lasting_withLength u data (by rw [poll_state]))
  | unknownFrameKind feed => cases next; exact lasting_trunkFrame s feed _ (fun _ _ => rfl)
  | trunkFrameDropped feed => cases next; split <;> rfl
  | trunkFrameTimeout feed => cases next; split <;> rfl
  | _ => cases trunk

/-- The steps of the engine but its pixel groups. -/
theorem engine_lasting {c : Instr}
    (engine : c matches .faceGrant | .templateCellStep | .routeEraseDone | .segmentCompletion | .segmentFault | .cutoffExpiry)
    (next : exec c s = .next t) : lasting t = lasting s := by
  cases c with
  | faceGrant =>
    cases next
    split
    · exact lasting_faceGrant s _ _
    · rfl
  | templateCellStep =>
    cases next
    split
    · refine lasting_if (fun _ => ?_)
      split
      · exact lasting_templateStep s _ _ _
      · rfl
    · rfl
  | routeEraseDone =>
    cases next
    split
    · exact lasting_if (fun _ => lasting_eraseDone s _)
    · rfl
  | segmentCompletion =>
    cases next
    split
    · exact lasting_if (fun _ => lasting_segmentEnd s _ _)
    · rfl
  | segmentFault =>
    cases next
    split
    · split
      · exact lasting_segmentEnd s _ _
      · rfl
    · rfl
  | cutoffExpiry =>
    cases next
    refine lasting_if (fun _ => ?_)
    dsimp only
    split
    · exact lasting_segmentEnd (s.modEvac (fun e => { e with cutoff := .stopped })) _ _
    · rfl
  | _ => cases engine

/-- A command that may write neither Plane Memory nor a supervisor record, and does not begin the load, writes none of it. -/
theorem exec_lasting {c : Instr} (dry : writesPlanes c = false) (still : movesSupervisor c = false) (released : c ≠ .resetRelease)
    (next : exec c s = .next t) : lasting t = lasting s := by
  cases c with
  | fullReset | planeClearDone | pixelGroupWrite => cases dry
  | configReadComplete | configNoAcknowledge | configLimitExpiry | kick | waitTimeExpiry | pulseTimeExpiry
  | recoveryWindowExpiry => cases still
  | resetRelease => exact absurd rfl released
  | status | readEvents | setMask | readEntry | listWindow | findPrefix | writeCells | start | append | stop | readFault | writeImage
  | setMap | setLanguage | setPalette | readSlots | hitTest | resetFace => exact request_lasting rfl rfl next
  | openFrame | chunkFrame | waypointsFrame | closeFrame | abandonFrame | purgeFrame | alarmFrame | allClearFrame | pollFrame
  | unknownFrameKind | trunkFrameDropped | trunkFrameTimeout => exact trunk_lasting rfl next
  | faceGrant | templateCellStep | routeEraseDone | segmentCompletion | segmentFault | cutoffExpiry => exact engine_lasting rfl next
  | turnaroundEnd => cases next; exact lasting_if (fun _ => rfl)
  | replyEnd => cases next; exact lasting_if (fun _ => rfl)
  | fetch f clocked =>
    cases next
    exact lasting_ite (fun _ => (lasting_takeRequest _ f).trans (lasting_shiftOut s f _)) (fun _ => lasting_shiftOut s f _)
  | unknownRequestCode f code x => cases next; exact lasting_request s f _ _ x (fun _ => rfl)
  | repositionDone =>
    cases next
    split
    · rw [lasting_answerAllHeld, lasting_commitDone]; rfl
    · rfl
  | glyphCopyDone =>
    cases next
    split
    · exact lasting_glyphCopied s _
    · rfl
  | templateCopyDone =>
    cases next
    split
    · rw [lasting_resumePush, lasting_templateCopied]
    · rfl
  | purgeGrant => cases next; exact lasting_if (fun _ => lasting_haltQueues (s.grantTo .purge) _)
  | purgeEnd => cases next; exact lasting_if (fun _ => lasting_purgeEnd s)
  | frameStart f => cases next; exact lasting_if (fun _ => lasting_frameStart s f)
  | evacLineChange => cases next; rfl
  | lineDebounceExpiry =>
    cases next
    exact lasting_if (fun _ => lasting_ite (fun _ => rfl) (fun _ => lasting_lookSources _))
  | ecGrant => cases next; exact lasting_if (fun _ => lasting_ecGrant s)
  | viewDrawingEnd => cases next; exact lasting_if (fun _ => lasting_viewEnd s)
  | cycleTimerExpiry => cases next; exact lasting_if (fun _ => lasting_cycleExpiry s)
  | bandDrawingEnd => cases next; exact lasting_if (fun _ => lasting_afterDrawing _)
  | blankDrawingEnd => cases next; exact lasting_if (fun _ => lasting_blankEnd s)

/-! ### The commands that write a part of it -/

theorem pixelGroupWrite_lasting {count : Nat} (next : exec (.pixelGroupWrite count) s = .next t) :
    lasting t = { lasting s with planes := t.planes } := by
  cases next
  split
  · rfl
  · exact lasting_pixelGroup s count

/-- KICK and the supervisor's expiries (R163 to R167). -/
theorem supervision_lasting {c : Instr} (moves : movesSupervisor c = true) (serves : movesSettings c = false)
    (next : exec c s = .next t) : lasting t = { lasting s with supervisor := (lasting t).supervisor } := by
  cases c with
  | kick f x =>
    rw [(portCommandsStayOnTheirFace _ f s t rfl next).1]
    rfl
  | waitTimeExpiry f =>
    cases next
    split
    · unfold State.withdraw
      rw [lasting_arbitrate]
      rfl
    · rfl
  | pulseTimeExpiry f => cases next; split <;> rfl
  | recoveryWindowExpiry f =>
    cases next
    split
    · unfold State.windowExpired
      dsimp only
      split <;> rfl
    · rfl
  | fullReset | configReadComplete | configNoAcknowledge | configLimitExpiry | planeClearDone => cases serves
  | _ => cases moves

theorem readEnd_planes (s : State) (st : LoaderState) (taken : Settings) : (s.readEnd st taken).planes = s.planes := by
  by_cases reading : s.loader.phase = .reading
  · rw [readEnd_of_reading st taken reading, tryLoadEnd_planes]; rfl
  · rw [readEnd_of_other st taken reading]

/-- The commands of the read write no plane. -/
theorem read_planes {c : Instr} (ends : endsLoad c = true) (dry : writesPlanes c = false) (next : exec c s = .next t) :
    t.planes = s.planes := by
  cases c with
  | configReadComplete bytes =>
    cases (exec_configReadComplete bytes s).symm.trans next
    exact readEnd_planes s _ _
  | configNoAcknowledge => cases next; exact readEnd_planes s _ _
  | configLimitExpiry => cases next; exact readEnd_planes s _ _
  | planeClearDone => cases dry
  | _ => cases ends

theorem resetRelease_lasting (next : exec .resetRelease s = .next t) : lasting t = { lasting s with loader := t.loader } := by
  cases next
  split <;> rfl

/-- Settles O8: what each command leaves of `lasting`. -/
theorem onlyTheirCommandsWrite : Obligations.OnlyTheirCommandsWrite := by
  intro c s t next
  have wrote {l : Lasting} (same : lasting t = l) :
      t.planes = l.planes ∧ (∀ f, (t.face f).supervisor = l.supervisor f) ∧ t.settings = l.settings := by
    rw [← same]
    exact ⟨rfl, fun _ => rfl, rfl⟩
  cases c with
  | fullReset | planeClearDone => exact ⟨nofun, nofun, nofun⟩
  | configReadComplete | configNoAcknowledge | configLimitExpiry => exact ⟨fun _ => read_planes rfl rfl next, nofun, nofun⟩
  | resetRelease =>
    obtain ⟨planes, supervisor, settings⟩ := wrote (resetRelease_lasting next)
    exact ⟨fun _ => planes, fun _ => supervisor, fun _ => settings⟩
  | pixelGroupWrite =>
    obtain ⟨-, supervisor, settings⟩ := wrote (pixelGroupWrite_lasting next)
    exact ⟨nofun, fun _ => supervisor, fun _ => settings⟩
  | kick | waitTimeExpiry | pulseTimeExpiry | recoveryWindowExpiry =>
    obtain ⟨planes, -, settings⟩ := wrote (supervision_lasting rfl rfl next)
    exact ⟨fun _ => planes, nofun, fun _ => settings⟩
  | _ =>
    obtain ⟨planes, supervisor, settings⟩ := wrote (exec_lasting rfl rfl (by simp) next)
    exact ⟨fun _ => planes, fun _ => supervisor, fun _ => settings⟩

end Sys2Proof.Machine.DisplayPlanes
end

section
/-! PROOFS. The end of the load (R136, R143, R162, R185, R192, R195; logs 6, 18): the one step that ends it, and what it serves. -/

namespace Sys2Proof.Machine.DisplayPlanes

open Sys2Proof Sys2Proof.Machine

variable {s t : State}

/-! ### The step that ends the load -/

theorem loadEnded_iff (s : State) : s.loadEnded = true ↔ s.loader.phase = .ended := decide_eq_true_iff

/-- A command that is no part of start-up leaves the loader (R192). -/
theorem exec_loader {c : Instr} (serves : movesSettings c = false) (released : c ≠ .resetRelease) (next : exec c s = .next t) :
    t.loader = s.loader := by
  by_cases moves : movesSupervisor c = true
  · exact congrArg Lasting.loader (supervision_lasting moves serves next)
  · cases c with
    | pixelGroupWrite count => exact congrArg Lasting.loader (pixelGroupWrite_lasting next)
    | fullReset | configReadComplete | configNoAcknowledge | configLimitExpiry | planeClearDone => cases serves
    | _ => exact congrArg Lasting.loader (exec_lasting rfl (Bool.eq_false_iff.mpr moves) released next)

theorem tryLoadEnd_ends {u : State} (before : u.loader.phase ≠ .ended) (ended : u.tryLoadEnd.loader.phase = .ended) :
    u.tryLoadEnd = u.loadEnd := by
  by_cases due : u.loader.phase = .clearing ∧ u.loader.clearing = false
  · exact tryLoadEnd_of_due due.1 due.2
  · rw [tryLoadEnd_loader, if_neg due] at ended
    exact absurd ended before

theorem readEnd_ends {st : LoaderState} {taken : Settings} (before : s.loader.phase ≠ .ended)
    (ended : (s.readEnd st taken).loader.phase = .ended) : s.readEnd st taken = (readDone s st taken).loadEnd := by
  by_cases reading : s.loader.phase = .reading
  · rw [readEnd_of_reading st taken reading] at ended ⊢
    exact tryLoadEnd_ends (by simp [readDone]) ended
  · rw [readEnd_of_other st taken reading] at ended
    exact absurd ended before

/-- The step that ends the load is the load's end in a state with the faces and the EVAC line as they stood (R192, R195). -/
theorem exec_ends_load {c : Instr} (before : s.loader.phase ≠ .ended) (next : exec c s = .next t) (ended : t.loader.phase = .ended) :
    ∃ u : State, u.faces = s.faces ∧ u.evac = s.evac ∧ t = u.loadEnd := by
  cases c with
  | fullReset => cases next; cases ended
  | resetRelease =>
    cases next
    split at ended
    · cases ended
    · exact absurd ended before
  | configReadComplete bytes =>
    cases (exec_configReadComplete bytes s).symm.trans next
    exact ⟨readDone s _ _, rfl, rfl, readEnd_ends before ended⟩
  | configNoAcknowledge => cases next; exact ⟨readDone s _ _, rfl, rfl, readEnd_ends before ended⟩
  | configLimitExpiry => cases next; exact ⟨readDone s _ _, rfl, rfl, readEnd_ends before ended⟩
  | planeClearDone =>
    cases clearing : s.loader.clearing with
    | true =>
      cases (exec_planeClearDone clearing).symm.trans next
      exact ⟨planesCleared s, rfl, rfl, tryLoadEnd_ends before ended⟩
    | false =>
      have still : exec .planeClearDone s = .next s := congrArg Host.Outcome.next (if_neg (by simp [clearing]))
      cases still.symm.trans next
      exact absurd ended before
  | _ =>
    rw [exec_loader rfl (by simp) next] at ended
    exact absurd ended before

/-! ### The blocks in service -/

theorem firstSupervisor_eq (c : Settings) :
    c.firstSupervisor = if c.waitMs = none then ⟨.off, .stopped, 0⟩ else ⟨.recovery, .running c.windowMs, 0⟩ := by
  unfold Settings.firstSupervisor
  cases c.waitMs <;> rfl

theorem loadEnd_face_enabled {f : Face} (enabled : s.loadEnd.enabled f = true) :
    s.loadEnd.face f = { (s.face f).frameStart with supervisor := s.loadEnd.settings.firstSupervisor } :=
  (loadEnd_face s f).trans (if_pos enabled)

theorem loadEnd_face_disabled {f : Face} (disabled : s.loadEnd.enabled f = false) :
    s.loadEnd.face f = { s.face f with
      port := { (s.face f).port with reply := none }, latch := 0, scan := .blank, supervisor := ⟨.off, .stopped, 0⟩ } :=
  (loadEnd_face s f).trans (if_neg (Bool.eq_false_iff.mp disabled))

theorem portState_of_enabled {f : Face} (ended : s.loadEnded = true) (enabled : s.enabled f = true) :
    s.portState f = if (s.face f).port.inProgress ≠ none then .working
      else if (s.face f).port.reply ≠ none then .replyWaiting else .ready := by
  simp only [State.portState, ended, enabled, Bool.not_true, Bool.false_eq_true, if_false, ← Option.isSome_iff_ne_none]

theorem portState_of_disabled {f : Face} (ended : s.loadEnded = true) (disabled : s.enabled f = false) : s.portState f = .absent := by
  simp [State.portState, ended, disabled]

/-- Settles O6: the step is the load's end (`exec_ends_load`), which puts each context into service. -/
theorem loadEndServes : Obligations.LoadEndServes := by
  intro c s t before next ended
  have unended : s.loader.phase ≠ .ended := fun phase => by
    rw [(loadEnded_iff s).mpr phase] at before
    cases before
  obtain ⟨u, faces, evac, rfl⟩ := exec_ends_load unended next ((loadEnded_iff t).mp ended)
  have face (f : Face) : s.face f = u.face f := congrArg (fun v : Vector FaceContext 4 => v[f]) faces.symm
  refine ⟨rfl, rfl, if_pos ended, if_pos ended, ?_, fun f => ⟨fun enabled => ?_, fun disabled => ?_⟩⟩
  · rw [← evac]; rfl
  · obtain ⟨vs, de, -⟩ := pins_of_scan (s := u.loadEnd) (f := f) (scan := .sync) (by rw [loadEnd_face_enabled enabled]; rfl)
    rw [portState_of_enabled ended enabled, loadEnd_face_enabled enabled, face, ← firstSupervisor_eq]
    exact ⟨rfl, rfl, rfl, vs, de, rfl, rfl⟩
  · obtain ⟨vs, de, data⟩ := pins_of_scan (s := u.loadEnd) (f := f) (scan := .blank) (by rw [loadEnd_face_disabled disabled])
    have quiet : u.loadEnd.attn f = false := by simp [State.attn, disabled]
    rw [portState_of_disabled ended disabled, loadEnd_face_disabled disabled]
    exact ⟨rfl, rfl, rfl, vs, de, data, rfl, rfl, quiet⟩

end Sys2Proof.Machine.DisplayPlanes
end

section
/-! PROOFS. What the notice of a commit does to the slots of a face, and the events it raises (R148, R149, R158). -/

namespace Sys2Proof.Machine.CardSlots

open Sys2Proof Sys2Proof.Machine Sys2Proof.Machine.UpdateTransactions

/-! ### The marking of one slot -/

theorem cardMarked_iff (n : Nat) (v : Option Card) : cardMarked n v = true ↔
    ∃ card, v = some card ∧ card.entry = n ∧ (card.state = .drawing ∨ card.state = .current ∨ card.state = .stale) := by
  cases v <;> simp [cardMarked]

/-- The table of R148. -/
theorem cardNotice_eq (n : Nat) (new : EntryState) (v : Option Card) : cardNotice n new v = v.map (fun card =>
    if card.entry = n ∧ (card.state = .drawing ∨ card.state = .current ∨ card.state = .stale) then
      { card with state := if new = .live then .stale else .gone }
    else card) := by
  cases v with
  | none => rfl
  | some card =>
    simp only [cardNotice, cardMarked, decide_eq_true_eq, Option.map_some]
    split <;> rfl

theorem any_cardMarked_iff (n : Nat) (cards : Vector (Option Card) 12) : cards.toList.any (cardMarked n) = true ↔
    ∃ (i : Fin 12) (card : Card), cards[i] = some card ∧ card.entry = n ∧
      (card.state = .drawing ∨ card.state = .current ∨ card.state = .stale) := by
  simp only [List.any_eq_true, Vector.mem_toList_iff, Vector.mem_iff_getElem, cardMarked_iff]
  constructor
  · rintro ⟨_, ⟨i, inside, rfl⟩, marked⟩
    exact ⟨⟨i, inside⟩, marked⟩
  · rintro ⟨i, marked⟩
    exact ⟨_, ⟨i.val, i.isLt, rfl⟩, marked⟩

theorem routeMarked_iff (n : Nat) (new : EntryState) (v : Option RouteRecord) : routeMarked n new v = true ↔
    ∃ r, v = some r ∧ r.entry = n ∧
      (r.state = .drawing ∨ r.state = .drawn ∨ r.state = .stale ∨ (r.state = .disturbed ∧ new ≠ .live)) := by
  cases v <;> simp [routeMarked]

/-- The table of R149. -/
theorem routeNotice_eq (n : Nat) (new : EntryState) (v : Option RouteRecord) : routeNotice n new v =
    (match v with
     | none => none
     | some r =>
       if r.entry ≠ n then some r
       else match r.state, new with
         | .gone, _ => some r
         | .disturbed, .live => some r
         | _, .live => some { r with state := .stale }
         | _, _ => some { r with state := .gone }) := by
  cases v with
  | none => rfl
  | some r =>
    obtain ⟨state, entry, generation, colour, width, copy⟩ := r
    by_cases own : entry = n
    · cases state <;> cases new <;> simp [routeNotice, routeMarked, own]
    · simp [routeNotice, routeMarked, own]

/-! ### The notice at a face -/

/-- What a notice leaves of a context: the slots marked, and each slot event raised once where one of its slots is. -/
theorem notice_eq (c : FaceContext) (on : Bool) (n : Nat) (new : EntryState) : c.notice on n new = { c with
    cards := vmap (cardNotice n new) c.cards, route := routeNotice n new c.route
    latch := latchedIf (latchedIf c.latch on (c.cards.toList.any (cardMarked n)) .slotChanged) on (routeMarked n new c.route)
      .routeChanged } := by
  have latched (d : FaceContext) (b : Bool) (e : Event) : d.latchIf (on && b) e = { d with latch := latchedIf d.latch on b e } := by
    unfold FaceContext.latchIf latchedIf
    split <;> rfl
  unfold FaceContext.notice
  rw [latched, latched]

theorem commitNotice_face (s : State) (n : Nat) (new : EntryState) (f : Face) :
    (s.commitNotice n new).face f = (s.face f).notice (s.enabled f) n new := mapFaces_face s _ f

/-- Settles O19: the notice is `notice_eq` on every face, with the tables of R148 and R149 for the slots. -/
theorem commitNoticeMarksSlots : Obligations.CommitNoticeMarksSlots := by
  intro s n new f
  rw [commitNotice_face, notice_eq]
  refine ⟨rfl, fun c same => by rw [same], fun i => ?_, fun off => ?_, fun on => ?_, routeNotice_eq n new _⟩
  · rw [← cardNotice_eq]
    exact vmap_getElem _ _ i
  · simp only [latchedIf, off, Bool.false_and, Bool.false_eq_true, if_false]
  · simp only [on, latchedIf_on, any_cardMarked_iff, routeMarked_iff]
    rfl

end Sys2Proof.Machine.CardSlots
end

section
/-! PROOFS. What R150 reads of a state, and the operations that leave it alone. -/

namespace Sys2Proof.Machine.CardSlots

open Sys2Proof Sys2Proof.Machine Sys2Proof.Machine.UpdateTransactions Sys2Proof.Machine.NameOrder

/-! ### The view -/

/-- The slots of a face (R144, R145). -/
structure FaceSlots where
  cards : Vector (Option Card) 12
  route : Option RouteRecord

def faceSlots (c : FaceContext) : FaceSlots := ⟨c.cards, c.route⟩

/-- What R150 reads of a state: the directory and every face's slots. -/
structure Slots where
  directory : Sparse Entry
  face : Face → FaceSlots

def slots (s : State) : Slots := ⟨s.directory, fun f => faceSlots (s.face f)⟩

/-- A record's entry is LIVE with the recorded generation. -/
def Fresh (d : Sparse Entry) (n : Nat) (generation : Byte) : Prop :=
  (Sparse.read Entry.free d n).state = .live ∧ (Sparse.read Entry.free d n).generation = generation

/-- R150 for one card slot. -/
def CardFits (d : Sparse Entry) (v : Option Card) : Prop :=
  ∀ card, v = some card → card.state = .drawing ∨ card.state = .current → Fresh d card.entry card.generation

/-- R150 for one route slot. -/
def RouteFits (d : Sparse Entry) (v : Option RouteRecord) : Prop :=
  ∀ r, v = some r → r.state = .drawing ∨ r.state = .drawn → Fresh d r.entry r.generation

/-- R150 for the slots of one face. -/
structure FaceSlots.Fit (d : Sparse Entry) (v : FaceSlots) : Prop where
  cards : ∀ i : Fin 12, CardFits d v.cards[i]
  route : RouteFits d v.route

/-- R150 for every face. -/
def Slots.Sound (v : Slots) : Prop := ∀ f, (v.face f).Fit v.directory

variable {s t : State} {d : Sparse Entry}

theorem slotsSound_iff : s.SlotsSound ↔ (slots s).Sound :=
  ⟨fun h f => ⟨h.cards f, h.routes f⟩, fun h => ⟨fun f => (h f).cards, fun f => (h f).route⟩⟩

/-! ### Changes of faces -/

theorem slots_of_outside (outside : s.SameOutsideFaces t) (faces : ∀ f, faceSlots (t.face f) = faceSlots (s.face f)) :
    slots t = slots s := by
  have directory : t.directory = s.directory := by rw [outside]
  unfold slots
  rw [directory, funext faces]

theorem slots_modFace (s : State) (f : Face) (g : FaceContext → FaceContext)
    (same : faceSlots (g (s.face f)) = faceSlots (s.face f)) : slots (s.modFace f g) = slots s := by
  refine slots_of_outside (modFace_outside s f g) (fun h => ?_)
  rw [modFace_face]
  split
  · next own => subst own; exact same
  · rfl

@[simp] theorem slots_modFace_of_slots (s : State) (f : Face) (g : FaceContext → FaceContext)
    (cards : (g (s.face f)).cards = (s.face f).cards) (route : (g (s.face f)).route = (s.face f).route) :
    slots (s.modFace f g) = slots s :=
  slots_modFace s f g (by rw [faceSlots, cards, route]; rfl)

theorem slots_mapFaces (s : State) (g : Face → FaceContext → FaceContext)
    (same : ∀ f, faceSlots (g f (s.face f)) = faceSlots (s.face f)) : slots (s.mapFaces g) = slots s :=
  slots_of_outside (mapFaces_outside s g) (fun f => by rw [mapFaces_face]; exact same f)

@[simp] theorem slots_modQueue (s : State) (f : Face) (u : Queue → Queue) : slots (s.modQueue f u) = slots s :=
  slots_modFace s f _ rfl

@[simp] theorem slots_modSupervisor (s : State) (f : Face) (u : Supervisor → Supervisor) : slots (s.modSupervisor f u) = slots s :=
  slots_modFace s f _ rfl

@[simp] theorem slots_raise (s : State) (f : Face) (e : Event) : slots (s.raise f e) = slots s := by
  rw [raise_eq]
  exact slots_modFace s f _ rfl

@[simp] theorem slots_raiseIf (s : State) (b : Bool) (f : Face) (e : Event) : slots (s.raiseIf b f e) = slots s := by
  cases b with
  | true => exact slots_raise s f e
  | false => rfl

@[simp] theorem slots_raiseAll (s : State) (e : Event) : slots (s.raiseAll e) = slots s :=
  slots_of_outside (raiseAll_outside s e) (fun f => by rw [raiseAll_face]; rfl)

@[simp] theorem slots_answer (s : State) (f : Face) (code : ReplyCode) (request : Byte) (results : Bytes) :
    slots (s.answer f code request results) = slots s := by
  rw [answer_eq]
  exact slots_modFace s f _ rfl

@[simp] theorem slots_hold (s : State) (f : Face) (h : HeldRequest) : slots (s.hold f h) = slots s := slots_modFace s f _ rfl

theorem slots_shiftOut (s : State) (f : Face) (bs : Bytes) : slots (s.shiftOut f bs) = slots s := slots_modFace s f _ rfl

theorem slots_takeRequest (s : State) (f : Face) : slots (s.takeRequest f) = slots s := slots_modFace s f _ rfl

theorem slots_fillReply (s : State) (f : Face) (code : ReplyCode) (request : Byte) (results : Bytes) :
    slots (s.fillReply f code request results) = slots s := by
  unfold State.fillReply
  rw [slots_raise]
  exact slots_modFace s f _ rfl

/-- What holds of the view holds after a request whose owner keeps it (R74). -/
theorem request_slots {P : Slots → Prop} (f : Face) (code : Byte) (known : Bool) (x : Transfer) {own : State → State}
    (holds : P (slots s)) (owner : ∀ u, P (slots u) → P (slots (own u))) : P (slots (s.request f code known x own)) := by
  have shift : slots (s.requestShift f x) = slots s := slots_shiftOut s f _
  obtain ⟨-, h⟩ | ⟨-, -, h⟩ | ⟨-, -, ⟨r, -, h⟩ | ⟨-, h⟩⟩ := request_cases s f code known x own <;> rw [h]
  · rw [slots_fillReply, shift]; exact holds
  · rw [shift]; exact holds
  · rw [slots_fillReply, shift]; exact holds
  · refine owner _ ?_
    rw [slots_takeRequest, shift]
    exact holds

theorem slots_ite {p : Prop} [Decidable p] (same : p → slots t = slots s) : slots (if p then t else s) = slots s := by
  split
  · next holds => exact same holds
  · rfl

/-! ### The arbiter, the queues and the supervisors -/

@[simp] theorem slots_arbitrate (s : State) : slots s.arbitrate = slots s := by
  rw [arbitrate_eq]; rfl

theorem slots_stopQueue (s : State) (f : Face) : slots (s.stopQueue f) = slots s := by
  unfold State.stopQueue
  split <;> simp

theorem slots_haltQueues (s : State) (r : HaltReason) : slots (s.haltQueues r) = slots s := slots_mapFaces s _ (fun _ => rfl)

theorem slots_waitFrameDone (s : State) (f : Face) : slots (s.waitFrameDone f) = slots s := by
  unfold State.waitFrameDone
  dsimp only
  split <;> simp

theorem slots_frameStart (s : State) (f : Face) : slots (s.frameStart f) = slots s := by
  unfold State.frameStart
  rw [slots_arbitrate, slots_waitFrameDone]
  exact slots_modFace s f _ rfl

@[simp] theorem slots_notePulse (s : State) (f : Face) : slots (s.notePulse f) = slots s := rfl

theorem slots_withdraw (s : State) (f : Face) : slots (s.withdraw f) = slots s := by
  unfold State.withdraw
  rw [slots_arbitrate, slots_notePulse]
  exact slots_modFace s f _ rfl

theorem slots_windowExpired (s : State) (f : Face) : slots (s.windowExpired f) = slots s := by
  unfold State.windowExpired
  dsimp only
  split <;> simp

theorem slots_kicked (s : State) (f : Face) : slots (s.kicked f).1 = slots s := by
  unfold State.kicked State.readmit
  split <;> simp

/-! ### The load -/

theorem slots_loadEnd (s : State) : slots s.loadEnd = slots s := by
  have service (c : FaceContext) (settings : Settings) (on : Bool) : faceSlots (c.intoService settings on) = faceSlots c := by
    cases on <;> rfl
  exact slots_mapFaces s (fun f c => c.intoService s.loader.taken s.loader.taken.enabled[f]) (fun _ => service _ _ _)

theorem slots_tryLoadEnd (s : State) : slots s.tryLoadEnd = slots s := slots_ite (fun _ => slots_loadEnd s)

theorem slots_readEnd (s : State) (st : LoaderState) (taken : Settings) : slots (s.readEnd st taken) = slots s :=
  slots_ite (fun _ => slots_tryLoadEnd _)

/-! ### Evacuation -/

theorem slots_takeover (s : State) : slots s.takeover = slots s := by
  unfold State.takeover
  rw [slots_arbitrate]
  exact slots_haltQueues s _

theorem slots_startView (s : State) : slots s.startView = slots s :=
  slots_mapFaces s _ (fun f => by split <;> rfl)

theorem slots_redrawCause (s : State) : slots s.redrawCause = slots s := by
  unfold State.redrawCause
  split
  · exact slots_startView s
  · rfl

theorem slots_lookSources (s : State) : slots s.lookSources = slots s := by
  unfold State.lookSources
  split
  · exact slots_ite (fun _ => slots_takeover s)
  · exact slots_ite (fun _ => rfl)
  · split
    · exact slots_ite (fun _ => slots_redrawCause s)
    · exact slots_ite (fun _ => rfl)
  · rfl

theorem slots_shownCommit (s : State) : slots s.shownCommit = slots s := by
  unfold State.shownCommit
  split
  · exact slots_ite (fun _ => rfl)
  · exact slots_redrawCause s
  · rfl
  · rfl

theorem slots_noticeEntry (s : State) (n : Nat) : slots (s.noticeEntry n) = slots s := by
  unfold State.noticeEntry
  split
  · exact slots_ite (fun _ => slots_shownCommit s)
  · rfl

theorem slots_noticePlan (s : State) (z : Nat) : slots (s.noticePlan z) = slots s := slots_ite (fun _ => slots_shownCommit s)

theorem slots_afterDrawing (s : State) : slots s.afterDrawing = slots s := by
  unfold State.afterDrawing
  split
  · rfl
  · split
    · exact slots_startView s
    · rfl

theorem slots_viewEnd (s : State) : slots s.viewEnd = slots s := by
  unfold State.viewEnd
  dsimp only
  split
  · rw [slots_afterDrawing, slots_raiseAll]; rfl
  · rw [slots_afterDrawing]; rfl

theorem slots_cycleExpiry (s : State) : slots s.cycleExpiry = slots s := by
  unfold State.cycleExpiry
  split <;> rfl

theorem slots_blankEnd (s : State) : slots s.blankEnd = slots s := by
  have source : slots (s.mapFaces (fun f c => if s.enabled f then { c with palette := { c.palette with source := .face } } else c)) =
      slots s := slots_mapFaces s _ (fun f => by split <;> rfl)
  have ended (u : State) (g : Evac → Evac) : slots ((u.release.raiseAll .evacOff).modEvac g) = slots u :=
    slots_raiseAll u.release .evacOff
  unfold State.blankEnd
  dsimp only
  split
  · rw [slots_takeover, ended, source]
  · rw [slots_arbitrate, ended, source]

/-! ### Commits other than an entry's -/

@[simp] theorem slots_commitDone (s : State) : slots s.commitDone = slots s := by
  unfold State.commitDone
  split <;> rfl

theorem slots_templateCommit (s : State) (x : Txn) : slots (s.templateCommit x) = slots s := by
  by_cases op : x.op = .load
  · rw [templateCommit_load op]; rfl
  · rw [templateCommit_of_not_load op, slots_raiseAll, slots_commitDone]; rfl

theorem slots_releaseDeferred (s : State) : slots s.releaseDeferred = slots s := by
  unfold State.releaseDeferred
  split
  · exact slots_ite (fun _ => slots_templateCommit s _)
  · rfl

theorem slots_glyphCommit (s : State) (x : Txn) : slots (s.glyphCommit x) = slots s := by
  unfold State.glyphCommit
  split
  · rfl
  · rw [slots_raiseAll, slots_commitDone]; rfl

theorem slots_languageCommit (s : State) (x : Txn) : slots (s.languageCommit x) = slots s := by
  unfold State.languageCommit
  dsimp only
  rw [slots_raiseAll, slots_commitDone]
  rfl

theorem slots_planCommit (s : State) (x : Txn) : slots (s.planCommit x) = slots s := by
  unfold State.planCommit
  dsimp only
  rw [slots_noticePlan, slots_commitDone]
  rfl

theorem slots_answerGlyph (s : State) : slots s.answerGlyph = slots s := by
  refine slots_ite (fun _ => ?_)
  split <;> rfl

theorem slots_glyphCopied (s : State) (p : Nat) : slots (s.glyphCopied p) = slots s := by
  unfold State.glyphCopied
  dsimp only
  rw [slots_answerGlyph, slots_raiseAll, slots_commitDone]
  rfl

theorem slots_templateCopied (s : State) (k : Nat) : slots (s.templateCopied k) = slots s := by
  unfold State.templateCopied
  dsimp only
  rw [slots_raiseAll, slots_commitDone]
  rfl

/-! ### Trunk frames -/

theorem slots_endTxn (s : State) (o : TxnOutcome) : slots (s.endTxn o) = slots s := by
  unfold State.endTxn
  split <;> rfl

theorem slots_openChecked (s : State) (data : Bytes) : slots (s.openChecked data).1 = slots s := by
  unfold State.openChecked
  dsimp only
  split
  · split_ifs <;> rfl
  · rfl

theorem slots_openTxn (s : State) (data : Bytes) : slots (s.openTxn data).1 = slots s := by
  have displaced : slots (if s.update.state = .staging then s.endTxn .displaced else s) = slots s :=
    slots_ite (fun _ => slots_endTxn s _)
  unfold State.openTxn
  dsimp only
  split
  · exact displaced
  · split
    · exact displaced
    · exact displaced
    · exact (slots_openChecked _ data).trans displaced
    · exact (slots_openChecked _ data).trans displaced

theorem slots_chunk (s : State) (data : Bytes) : slots (s.chunk data).1 = slots s := by
  unfold State.chunk
  split_ifs
  · rw [nakState_state]
  · rfl
  · split
    · rfl
    · split <;> rfl

theorem slots_stageFrame (s : State) (data : Bytes) : slots (s.stageFrame data).1 = slots s := by
  unfold State.stageFrame
  split_ifs
  · rw [nakState_state]
  · rfl
  · rfl
  · rfl
  · split
    · rfl
    · exact slots_endTxn s _

theorem slots_abandon (s : State) : slots s.abandon.1 = slots s := by
  unfold State.abandon
  split
  · exact slots_endTxn s _
  · exact slots_endTxn s _
  · rw [nakState_state]
  · rw [nakState_state]

theorem slots_purge (s : State) : slots s.purge.1 = slots s := by
  obtain same | ⟨-, -, -, accepts⟩ := purge_cases s
  · rw [same]
  · rw [accepts, State.acceptPurge, slots_arbitrate]
    exact slots_endTxn s _

theorem slots_alarm (s : State) (data : Bytes) : slots (s.alarm data).1 = slots s := by
  unfold State.alarm
  split
  · rfl
  · split
    · rfl
    · exact slots_lookSources _

theorem slots_allClear (s : State) : slots s.allClear.1 = slots s := by
  unfold State.allClear
  split
  · rfl
  · exact slots_lookSources _

theorem slots_withLength {n : Nat} {act : State → Bytes → State × TrunkReply} (s : State) (data : Bytes)
    (action : slots (act s data).1 = slots s) : slots (withLength n act s data).1 = slots s := by
  obtain same | acts := withLength_state n act s data
  · rw [same]
  · rw [acts]; exact action

/-! ### The include stacks and the pixel groups -/

@[simp] theorem slots_setStack (s : State) (f : Face) (ls : List Level) : slots (s.setStack f ls) = slots s := slots_modQueue s f _

theorem slots_pushLevel (s : State) (f : Face) (k x y : Nat) (ret : Option (Fin 16)) : slots (s.pushLevel f k x y ret) = slots s :=
  slots_setStack s f _

theorem slots_enterTemplate (s : State) (f : Face) (k x y : Nat) (ret : Option (Fin 16)) :
    slots (s.enterTemplate f k x y ret) = slots s := by
  unfold State.enterTemplate
  split_ifs
  · rfl
  · rfl
  · rfl
  · exact slots_pushLevel s f k x y ret

theorem slots_resumePush (s : State) : slots s.resumePush = slots s := by
  unfold State.resumePush
  split
  · split
    · split
      · rfl
      · exact slots_pushLevel s _ _ _ _ _
    · rfl
  · rfl

theorem slots_gotoCell (s : State) (f : Face) (cell : Fin 16) : slots (s.gotoCell f cell) = slots s := by
  unfold State.gotoCell
  split <;> simp

theorem slots_nextCell (s : State) (f : Face) : slots (s.nextCell f) = slots s := by
  unfold State.nextCell
  split <;> simp

theorem slots_popLevel (s : State) (f : Face) : slots (s.popLevel f) = slots s := by
  unfold State.popLevel
  split
  · exact slots_setStack s f _
  · exact slots_setStack s f _
  · rfl

theorem slots_textWork (s : State) (f : Face) (l : Fin 4) (n : Snapshot) (field : TextSource) (m : Combine) (col : Colour)
    (scale x y width : Nat) : slots (s.textWork f l n field m col scale x y width) = slots s := by
  unfold State.textWork
  split
  · rfl
  · split
    · exact slots_nextCell s f
    · rfl

theorem slots_clearSlotWork (s : State) (f : Face) (slot : Fin 12) (colour : Colour) :
    slots (s.clearSlotWork f slot colour) = slots s := by
  unfold State.clearSlotWork
  split <;> rfl

theorem slots_writeGroup (s : State) (count : Nat) : slots (s.writeGroup count) = slots s := by
  unfold State.writeGroup
  split <;> rfl

end Sys2Proof.Machine.CardSlots
end

section
/-! PROOFS. What drawing, commits, takeover, purge and the resets do to the slots keeps R150 (R146 to R149, R153 to R155). -/

namespace Sys2Proof.Machine.CardSlots

open Sys2Proof Sys2Proof.Machine Sys2Proof.Machine.UpdateTransactions Sys2Proof.Machine.NameOrder Sys2Proof.Machine.DrawQueues

variable {s t : State} {d : Sparse Entry}

/-! ### One slot -/

theorem cardFits_empty : CardFits d none := nofun

theorem routeFits_none : RouteFits d none := nofun

/-- A card slot moved on from DRAWING keeps its record, so what the record fitted it fits (R146). -/
theorem CardFits.ended {v : Option Card} (h : CardFits d v) (next : CardState) : CardFits d (cardEnd next v) := by
  cases v with
  | none => exact h
  | some card =>
    unfold cardEnd
    dsimp only
    split
    · next drawing => rintro _ ⟨⟩ -; exact h card rfl (.inl drawing)
    · exact h

theorem CardFits.purged (v : Option Card) : CardFits d (cardPurged v) := by
  cases v with
  | none => exact cardFits_empty
  | some card => rintro _ ⟨⟩ fits; simp at fits

theorem RouteFits.ended {v : Option RouteRecord} (h : RouteFits d v) (faulted : Bool) : RouteFits d (routeEnd faulted v) := by
  cases v with
  | none => exact h
  | some r =>
    unfold routeEnd
    dsimp only
    split
    · next drawing =>
      split
      · exact routeFits_none
      · rintro _ ⟨⟩ -; exact h r rfl (.inl drawing)
    · exact h

theorem RouteFits.disturbed {v : Option RouteRecord} (h : RouteFits d v) : RouteFits d (routeDisturb v) := by
  cases v with
  | none => exact h
  | some r =>
    unfold routeDisturb
    dsimp only
    split
    · rintro _ ⟨⟩ fits; simp at fits
    · exact h

theorem RouteFits.purged (v : Option RouteRecord) : RouteFits d (routePurged v) := by
  cases v with
  | none => exact routeFits_none
  | some r => rintro _ ⟨⟩ fits; simp at fits

/-- A commit moves the present generation of its own entry alone. -/
theorem Fresh.written {n k : Nat} {g : Byte} (h : Fresh d k g) (other : k ≠ n) (e : Entry) :
    Fresh (Sparse.write Entry.free d n e) k g := by
  unfold Fresh
  rw [Sparse.read_write, if_neg (Ne.symm other)]
  exact h

/-- A card slot that a notice leaves in DRAWING or CURRENT records another entry than the committed one (R148, R150). -/
theorem CardFits.noticed {v : Option Card} (h : CardFits d v) (n : Nat) (new : EntryState) (e : Entry) :
    CardFits (Sparse.write Entry.free d n e) (cardNotice n new v) := by
  cases v with
  | none => exact cardFits_empty
  | some card =>
    rw [cardNotice_eq, Option.map_some]
    split
    · rintro _ ⟨⟩ fits
      cases new <;> simp at fits
    · next unmarked =>
      rintro _ ⟨⟩ fits
      refine (h card rfl fits).written (fun own => unmarked ⟨own, ?_⟩) e
      exact fits.imp_right .inl

/-- So does a route slot that a notice leaves in DRAWING or DRAWN (R149, R150). -/
theorem RouteFits.noticed {v : Option RouteRecord} (h : RouteFits d v) (n : Nat) (new : EntryState) (e : Entry) :
    RouteFits (Sparse.write Entry.free d n e) (routeNotice n new v) := by
  unfold routeNotice
  split
  · rintro _ marked fits
    obtain ⟨r, -, rfl⟩ := Option.map_eq_some_iff.mp marked
    cases new <;> simp at fits
  · next unmarked =>
    rintro r same fits
    refine (h r same fits).written (fun own => unmarked ((routeMarked_iff n new v).mpr ⟨r, same, own, ?_⟩)) e
    exact fits.imp_right .inl

/-! ### The slots of one face -/

theorem FaceSlots.Fit.emptied : FaceSlots.Fit d ⟨Vector.replicate 12 none, none⟩ where
  cards i := by
    have none : (Vector.replicate 12 none : Vector (Option Card) 12)[i] = none := by simp
    rw [none]
    exact cardFits_empty
  route := routeFits_none

theorem FaceSlots.Fit.setCard {v : FaceSlots} (h : v.Fit d) (slot : Fin 12) {card : Option Card} (fits : CardFits d card) :
    FaceSlots.Fit d ⟨v.cards.set slot card, v.route⟩ where
  cards i := by
    show CardFits d (v.cards.set slot card)[i.val]
    rw [Vector.getElem_set]
    split
    · exact fits
    · exact h.cards i
  route := h.route

theorem FaceSlots.Fit.setRoute {v : FaceSlots} (h : v.Fit d) {r : Option RouteRecord} (fits : RouteFits d r) :
    FaceSlots.Fit d ⟨v.cards, r⟩ := ⟨h.cards, fits⟩

/-! ### Changes of the slots of one face -/

theorem slotsSound_of_faces (h : (slots s).Sound) (directory : t.directory = s.directory)
    (faces : ∀ f, (faceSlots (s.face f)).Fit s.directory → (faceSlots (t.face f)).Fit s.directory) : (slots t).Sound := by
  intro f
  show (faceSlots (t.face f)).Fit t.directory
  rw [directory]
  exact faces f (h f)

theorem modFace_slotsSound (h : (slots s).Sound) (f : Face) (g : FaceContext → FaceContext)
    (fits : (faceSlots (s.face f)).Fit s.directory → (faceSlots (g (s.face f))).Fit s.directory) : (slots (s.modFace f g)).Sound := by
  refine slotsSound_of_faces h rfl (fun k own => ?_)
  rw [modFace_face]
  split
  · next same => subst same; exact fits own
  · exact own

theorem setRoute_slotsSound (h : (slots s).Sound) (f : Face) {r : Option RouteRecord} (fits : RouteFits s.directory r) :
    (slots (s.modFace f (fun c => { c with route := r }))).Sound := modFace_slotsSound h f _ (fun own => own.setRoute fits)

theorem ite_slotsSound {p : Prop} [Decidable p] (h : (slots s).Sound) (sound : p → (slots t).Sound) :
    (slots (if p then t else s)).Sound := by
  split
  · next holds => exact sound holds
  · exact h

/-! ### Resets, takeover and purge -/

theorem applyReset_slotsSound (h : (slots s).Sound) (f : Face) : (slots (s.applyReset f)).Sound := by
  unfold State.applyReset
  rw [slots_answer]
  exact modFace_slotsSound h f _ (fun _ => .emptied)

theorem answerRequest_slotsSound (h : (slots s).Sound) (f : Face) (r : HeldRequest) : (slots (s.answerRequest f r)).Sound := by
  cases r with
  | resetFace => exact applyReset_slotsSound h f
  | _ => exact (slots_answer s f _ _ _).symm ▸ h

theorem takeSlotRead_slotsSound (h : (slots s).Sound) (f : Face) (r : HeldRequest) : (slots (s.takeSlotRead f r)).Sound := by
  unfold State.takeSlotRead
  split
  · rw [slots_hold]; exact h
  · exact answerRequest_slotsSound h f r

theorem query_slotsSound (h : (slots s).Sound) (f : Face) (code : Byte) (q : Option HeldRequest) :
    (slots (s.query f code q)).Sound := by
  cases q with
  | none => exact (slots_answer s f _ _ _).symm ▸ h
  | some r =>
    show (slots (s.takeQuery f r)).Sound
    unfold State.takeQuery
    split
    · rw [slots_hold]; exact h
    · exact answerRequest_slotsSound h f r

theorem answerHeld_slotsSound (which : HeldRequest → Bool) (h : (slots s).Sound) (f : Face) :
    (slots (State.answerHeld which s f)).Sound := by
  unfold State.answerHeld
  split
  · exact ite_slotsSound h (fun _ => answerRequest_slotsSound h f _)
  · exact h

theorem answerAllHeld_slotsSound (h : (slots s).Sound) (which : HeldRequest → Bool) :
    (slots (s.answerAllHeld which)).Sound :=
  answerHeld_slotsSound which (answerHeld_slotsSound which (answerHeld_slotsSound which (answerHeld_slotsSound which h 0) 1) 2) 3

/-- At a takeover's grant every slot is emptied (R153). -/
theorem ecGrant_slotsSound (s : State) : (slots s.ecGrant).Sound := by
  unfold State.ecGrant
  rw [slots_startView]
  intro f
  show (faceSlots (((s.grantTo .ec).mapFaces (fun _ c => c.clearSlots)).face f)).Fit s.directory
  rw [mapFaces_face]
  exact .emptied

/-- After a purge every tracked slot is GONE, whatever it recorded (R154). -/
theorem purgeEnd_slotsSound (s : State) : (slots s.purgeEnd).Sound := by
  rw [purgeEnd_eq, slots_arbitrate]
  refine answerAllHeld_slotsSound (fun f => ?_) _
  show (faceSlots ((purgedState s).face f)).Fit (purgedState s).directory
  rw [purgedState_face]
  refine ⟨fun i => ?_, .purged _⟩
  show CardFits _ (vmap cardPurged (s.face f).cards)[i]
  rw [vmap_getElem]
  exact .purged _

theorem fullReset_slotsSound (pending : List Instr) (lineLow : Bool) : (slots (State.fullReset pending lineLow)).Sound := by
  intro f
  have reset : (State.fullReset pending lineLow).face f = FaceContext.reset := by simp [State.fullReset, State.face]
  show (faceSlots ((State.fullReset pending lineLow).face f)).Fit _
  rw [reset]
  exact .emptied

/-! ### An entry's commit -/

/-- The state in which an entry commit gives its notice: the entry is written, and every slot is as it was (R35). -/
theorem commitNotice_slotsSound {n : Nat} {e : Entry} (h : (slots s).Sound)
    (written : t.directory = Sparse.write Entry.free s.directory n e) (faces : t.faces = s.faces) (new : EntryState) :
    (slots (t.commitNotice n new)).Sound := by
  intro f
  have face : t.face f = s.face f := congrArg (fun v : Vector FaceContext 4 => v[f]) faces
  show (faceSlots ((t.commitNotice n new).face f)).Fit t.directory
  rw [commitNotice_face, notice_eq, face, written]
  refine ⟨fun i => ?_, (h f).route.noticed n new e⟩
  show CardFits _ (vmap (cardNotice n new) (s.face f).cards)[i]
  rw [vmap_getElem]
  exact ((h f).cards i).noticed n new e

theorem entryCommit_slotsSound (h : (slots s).Sound) (x : Txn) : (slots (s.entryCommit x)).Sound := by
  unfold State.entryCommit
  dsimp only
  rw [slots_noticeEntry, slots_raiseAll]
  exact commitNotice_slotsSound h (by rfl) (by rfl) _

theorem startCommit_slotsSound (h : (slots s).Sound) (x : Txn) : (slots (s.startCommit x)).Sound := by
  have committing : (slots s.committing).Sound := h
  unfold State.startCommit
  split
  · exact entryCommit_slotsSound committing x
  · rw [slots_templateCommit]; exact committing
  · rw [slots_glyphCommit]; exact committing
  · rw [slots_languageCommit]; exact committing
  · rw [slots_planCommit]; exact committing

theorem close_slotsSound (h : (slots s).Sound) (data : Bytes) : (slots (s.close data).1).Sound := by
  unfold State.close
  split
  · split_ifs
    · exact h
    · exact (slots_endTxn s _).symm ▸ h
    · exact (slots_endTxn s _).symm ▸ h
    · exact h
    · exact startCommit_slotsSound h _
  · rw [nakState_state]; exact h

/-! ### Drawing -/

theorem drawShape_slotsSound (h : (slots s).Sound) (f : Face) (l : Layer) (m : Combine) (shape : Shape) (r : Rect) :
    (slots (s.drawShape f l m shape r)).Sound := by
  show (slots (if l = .map then s.modFace f (fun c => { c with route := routeDisturb c.route }) else s)).Sound
  exact ite_slotsSound h (fun _ => modFace_slotsSound h f _ (fun own => own.setRoute own.route.disturbed))

theorem plainDraw_slotsSound {f : Face} {x y : Nat} {seg : Seg} (h : (slots s).Sound) (draws : s.plainDraw f x y seg = some (.ok t)) :
    (slots t).Sound := by
  obtain ⟨l, m, shape, r, rfl⟩ := plainDraw_drawn draws
  exact drawShape_slotsSound h f l m shape r

/-- The ROUTE snapshot records the generation that the LIVE entry has then (R130, R147). -/
theorem routeSnapshot_slotsSound (h : (slots s).Sound) (f : Face) (n : Nat) (colour : Colour) (width : Nat) :
    (slots (s.routeSnapshot f n colour width)).Sound := by
  unfold State.routeSnapshot
  dsimp only
  split
  · exact h
  · next live =>
    refine setRoute_slotsSound h f ?_
    rintro _ ⟨⟩ -
    exact ⟨not_not.mp live, rfl⟩

/-- So does the CARD snapshot (R124, R146). -/
theorem cardSnapshot_slotsSound (h : (slots s).Sound) (f : Face) (n : Nat) (slot : Fin 12) (k : Nat) (r : Rect) :
    (slots (s.cardSnapshot f n slot k r)).Sound := by
  unfold State.cardSnapshot
  dsimp only
  split
  · exact h
  · next live =>
    rw [slots_enterTemplate]
    have fits : CardFits s.directory (some ⟨.drawing, n, (s.entry n).generation, r⟩) := by
      rintro _ ⟨⟩ -
      exact ⟨not_not.mp live, rfl⟩
    exact modFace_slotsSound h f (fun c => { c.setCard slot (some ⟨.drawing, n, (s.entry n).generation, r⟩) with
      snapshot := some ((s.entry n).snapshot n) }) (fun own => own.setCard slot fits)

theorem routeWork_slotsSound (h : (slots s).Sound) (f : Face) (n : Nat) (colour : Colour) (width : Nat) :
    (slots (s.routeWork f n colour width)).Sound := by
  unfold State.routeWork
  split
  · exact h
  · exact routeSnapshot_slotsSound h f n colour width

theorem clearRouteWork_slotsSound (h : (slots s).Sound) (f : Face) : (slots (s.clearRouteWork f)).Sound := by
  unfold State.clearRouteWork
  split
  · exact h
  · exact setRoute_slotsSound h f routeFits_none

theorem queueWork_slotsSound (h : (slots s).Sound) (f : Face) (seg : Seg) : (slots (s.queueWork f seg)).Sound := by
  cases seg with
  | fill | frame | image =>
    unfold State.queueWork
    dsimp only
    split
    · next drawn draws =>
      have sound : (slots drawn).Sound := plainDraw_slotsSound h draws
      exact sound
    · exact h
    · exact h
  | call k x y => exact (slots_enterTemplate s f k x y none).symm ▸ h
  | card n slot k r =>
    unfold State.queueWork
    dsimp only
    split
    · exact cardSnapshot_slotsSound h f n slot k r
    · exact h
  | route n colour width => exact routeWork_slotsSound h f n colour width
  | clearRoute => exact clearRouteWork_slotsSound h f
  | clearSlot slot colour => exact (slots_clearSlotWork s f slot colour).symm ▸ h
  | _ => exact h

theorem startCell_slotsSound (h : (slots s).Sound) (f : Face) (cell : Bytes) : (slots (s.startCell f cell)).Sound := by
  unfold State.startCell
  split
  · exact h
  · split
    · exact h
    · split
      · exact h
      · exact queueWork_slotsSound h f _

theorem templateWork_slotsSound (h : (slots s).Sound) (f : Face) (language : Fin 4) (top : Level) (seg : Seg) :
    (slots (s.templateWork f language top seg)).Sound := by
  cases seg with
  | fill | frame | image =>
    unfold State.templateWork
    dsimp only
    split
    · next draws => exact plainDraw_slotsSound h draws
    · exact h
    · exact h
  | call k x y => exact (slots_enterTemplate s f _ _ _ _).symm ▸ h
  | textField =>
    unfold State.templateWork
    dsimp only
    split
    · rw [slots_textWork]; exact h
    · exact h
  | select =>
    unfold State.templateWork
    dsimp only
    split
    · rw [slots_gotoCell]; exact h
    · exact h
  | goto cell => exact (slots_gotoCell s f cell).symm ▸ h
  | endLevel => exact (slots_popLevel s f).symm ▸ h
  | _ => exact h

theorem templateStep_slotsSound (h : (slots s).Sound) (g : Segment) (top : Level) (below : List Level) :
    (slots (s.templateStep g top below)).Sound := by
  have spent (ls : List Level) : (slots (s.setStack g.face ls)).Sound := (slots_setStack s g.face ls).symm ▸ h
  unfold State.templateStep
  dsimp only
  split
  · exact h
  · split
    · exact spent _
    · split
      · exact spent _
      · split
        · exact spent _
        · exact templateWork_slotsSound (spent _) _ _ _ _

theorem workDone_slotsSound (h : (slots s).Sound) (g : Segment) : (slots (s.workDone g)).Sound := by
  unfold State.workDone
  split
  · rw [slots_nextCell]; exact h
  · exact h
  · exact h
  · next slot _ => exact modFace_slotsSound h g.face (fun c => c.setCard slot none) (fun own => own.setCard slot cardFits_empty)
  all_goals exact h

theorem pixelGroup_slotsSound (h : (slots s).Sound) (count : Nat) : (slots (s.pixelGroup count)).Sound := by
  have written : (slots (s.writeGroup count)).Sound := (slots_writeGroup s count).symm ▸ h
  refine ite_slotsSound written (fun _ => ?_)
  split
  · exact workDone_slotsSound written _
  · exact written

theorem eraseDone_slotsSound (h : (slots s).Sound) (g : Segment) : (slots (s.eraseDone g)).Sound := by
  have erased := setRoute_slotsSound h g.face routeFits_none
  unfold State.eraseDone
  dsimp only
  split
  · split
    · exact routeSnapshot_slotsSound erased _ _ _ _
    · exact erased
  · exact erased

/-! ### Ends and grants -/

/-- The end of a segment moves its own slot on from DRAWING (R146, R147). -/
theorem endTaken_slotsSound (h : (slots s).Sound) (g : Segment) (fault : Option FaultReason) : (slots (s.endTaken g fault)).Sound := by
  obtain ⟨outside, -, -, others⟩ := endTaken_changes s g fault
  refine slotsSound_of_faces h (by rw [outside]) (fun f own => ?_)
  by_cases face : g.face = f
  · subst face
    rw [endTaken_face]
    have routed : RouteFits s.directory
        (if g.routed = true then routeEnd fault.isSome (s.face g.face).route else (s.face g.face).route) := by
      split
      · exact own.route.ended _
      · exact own.route
    show FaceSlots.Fit s.directory ⟨match g.card with
      | some slot => (s.face g.face).cards.set slot (cardEnd (if fault.isSome then .broken else .current) (s.face g.face).cards[slot])
      | none => (s.face g.face).cards, _⟩
    cases g.card with
    | none => exact own.setRoute routed
    | some slot => exact (own.setCard slot ((own.cards slot).ended _)).setRoute routed
  · rw [others f face]; exact own

theorem segmentEnd_slotsSound (h : (slots s).Sound) (g : Segment) (fault : Option FaultReason) :
    (slots (s.segmentEnd g fault)).Sound := by
  have released : (slots (s.endTaken g fault).releaseDeferred).Sound :=
    (slots_releaseDeferred _).symm ▸ endTaken_slotsSound h g fault
  rw [State.segmentEnd, slots_arbitrate]
  exact ite_slotsSound released (fun _ => applyReset_slotsSound released g.face)

theorem slots_granted (s : State) (f : Face) (claims : List Face) (g : Segment) : slots (granted s f claims g) = slots s :=
  (slots_modFace (s.mapFaces (fun h c => { c with waitCount := waitCountAfter f claims h c.waitCount })) f
    (fun c => { c with queue := { c.queue with state := .running } }) rfl).trans (slots_mapFaces s _ (fun _ => rfl))

theorem faceGrant_slotsSound (h : (slots s).Sound) (f : Face) (claims : List Face) : (slots (s.faceGrant f claims)).Sound := by
  have granted (g : Segment) : (slots (granted s f claims g)).Sound := (slots_granted s f claims g).symm ▸ h
  obtain same | ⟨g, -, ends | ⟨cell, begins⟩⟩ := faceGrant_cases s f claims
  · rw [same]; exact h
  · rw [ends]; exact segmentEnd_slotsSound (granted g) g none
  · rw [begins]; exact startCell_slotsSound (granted g) f cell

end Sys2Proof.Machine.CardSlots
end

section
/-! PROOFS. Every step keeps each slot in DRAWING, CURRENT or DRAWN at its LIVE entry's present generation (R150). -/

namespace Sys2Proof.Machine.CardSlots

open Sys2Proof Sys2Proof.Machine Sys2Proof.Machine.UpdateTransactions Sys2Proof.Machine.NameOrder

variable {s t : State}

/-! ### The commands that leave the view -/

/-- A request whose owner leaves the view leaves it (R74). -/
theorem request_unslotted (f : Face) (code : Byte) (known : Bool) (x : Transfer) {own : State → State}
    (owner : ∀ u, slots (own u) = slots u) : slots (s.request f code known x own) = slots s :=
  request_slots (P := (· = slots s)) f code known x rfl (fun u same => (owner u).trans same)

/-- The requests of a face's context, its supervisor, its events and its queue. -/
theorem ownRequest_slots {c : Instr}
    (own : c matches .status .. | .kick .. | .readEvents .. | .setMask .. | .readFault .. | .writeImage .. | .setMap ..
      | .setLanguage .. | .setPalette .. | .writeCells .. | .start .. | .append .. | .stop .. | .unknownRequestCode ..)
    (next : exec c s = .next t) : slots t = slots s := by
  cases c with
  | status f x => cases next; exact request_unslotted f _ _ x (fun u => slots_answer u f _ _ _)
  | kick f x => cases next; exact request_unslotted f _ _ x (fun u => by rw [slots_answer, slots_kicked])
  | readEvents f x => cases next; exact request_unslotted f _ _ x (fun u => slots_modFace u f _ rfl)
  | setMask f x => cases next; exact request_unslotted f _ _ x (fun u => by simp)
  | readFault f x => cases next; exact request_unslotted f _ _ x (fun u => slots_answer u f _ _ _)
  | setLanguage f x => cases next; exact request_unslotted f _ _ x (fun u => by split <;> simp)
  | writeImage f x => cases next; exact request_unslotted f _ _ x (fun u => by split_ifs <;> simp)
  | setMap f x => cases next; exact request_unslotted f _ _ x (fun u => by split_ifs <;> simp)
  | setPalette f x => cases next; exact request_unslotted f _ _ x (fun u => by split_ifs <;> simp)
  | writeCells f x =>
    cases next
    refine request_unslotted f _ _ x (fun u => ?_)
    split
    · simp
    · split <;> simp
  | start f x =>
    cases next
    refine request_unslotted f _ _ x (fun u => ?_)
    split
    · split_ifs <;> simp
    · simp
  | append f x =>
    cases next
    refine request_unslotted f _ _ x (fun u => ?_)
    split
    · simp
    · split
      · simp
      · split
        · simp
        · split <;> simp
  | stop f x => cases next; exact request_unslotted f _ _ x (fun u => by rw [slots_arbitrate, slots_answer, slots_stopQueue])
  | unknownRequestCode f code x => cases next; exact request_unslotted f _ _ x (fun _ => rfl)
  | _ => cases own

/-- The commands of the load, of the trunk's pulses, of the copies, of the timers and of the view's drawings. -/
theorem blockCommand_slots {c : Instr}
    (block : c matches .resetRelease | .configReadComplete .. | .configNoAcknowledge | .configLimitExpiry | .planeClearDone
      | .trunkFrameDropped .. | .trunkFrameTimeout .. | .turnaroundEnd | .replyEnd | .fetch .. | .glyphCopyDone | .templateCopyDone
      | .purgeGrant | .frameStart .. | .waitTimeExpiry .. | .pulseTimeExpiry .. | .recoveryWindowExpiry .. | .evacLineChange
      | .lineDebounceExpiry | .viewDrawingEnd | .cycleTimerExpiry | .bandDrawingEnd | .blankDrawingEnd)
    (next : exec c s = .next t) : slots t = slots s := by
  cases c with
  | resetRelease => cases next; exact slots_ite (fun _ => rfl)
  | configReadComplete bytes => cases next; split <;> exact slots_readEnd s _ _
  | configNoAcknowledge => cases next; exact slots_readEnd s _ _
  | configLimitExpiry => cases next; exact slots_readEnd s _ _
  | planeClearDone => cases next; exact slots_ite (fun _ => slots_tryLoadEnd _)
  | trunkFrameDropped feed => cases next; split <;> rfl
  | trunkFrameTimeout feed => cases next; split <;> rfl
  | turnaroundEnd => cases next; exact slots_ite (fun _ => rfl)
  | replyEnd => cases next; exact slots_ite (fun _ => rfl)
  | fetch f clocked =>
    cases next
    split
    · exact (slots_takeRequest _ f).trans (slots_shiftOut s f _)
    · exact slots_shiftOut s f _
  | glyphCopyDone =>
    cases next
    split
    · exact slots_glyphCopied s _
    · rfl
  | templateCopyDone =>
    cases next
    split
    · rw [slots_resumePush, slots_templateCopied]
    · rfl
  | purgeGrant => cases next; exact slots_ite (fun _ => slots_haltQueues (s.grantTo .purge) _)
  | frameStart f => cases next; exact slots_ite (fun _ => slots_frameStart s f)
  | waitTimeExpiry f => cases next; exact slots_ite (fun _ => slots_withdraw s f)
  | pulseTimeExpiry f => cases next; exact slots_ite (fun _ => slots_modSupervisor s f _)
  | recoveryWindowExpiry f => cases next; exact slots_ite (fun _ => slots_windowExpired s f)
  | evacLineChange => cases next; rfl
  | lineDebounceExpiry =>
    cases next
    refine slots_ite (fun _ => ?_)
    dsimp only
    split
    · rfl
    · exact slots_lookSources _
  | viewDrawingEnd => cases next; exact slots_ite (fun _ => slots_viewEnd s)
  | cycleTimerExpiry => cases next; exact slots_ite (fun _ => slots_cycleExpiry s)
  | bandDrawingEnd => cases next; exact slots_ite (fun _ => slots_afterDrawing _)
  | blankDrawingEnd => cases next; exact slots_ite (fun _ => slots_blankEnd s)
  | _ => cases block

/-! ### The commands that may change a slot or an entry -/

/-- The reads of directory and slots, and RESET_FACE: a RESET_FACE is among what they may answer (R81). -/
theorem heldRequest_slotsSound {c : Instr} (h : (slots s).Sound)
    (held : c matches .readEntry .. | .listWindow .. | .findPrefix .. | .readSlots .. | .hitTest .. | .resetFace ..)
    (next : exec c s = .next t) : (slots t).Sound := by
  cases c with
  | readEntry f x => cases next; exact request_slots f _ _ x h (fun u sound => query_slotsSound sound f _ _)
  | listWindow f x => cases next; exact request_slots f _ _ x h (fun u sound => query_slotsSound sound f _ _)
  | findPrefix f x => cases next; exact request_slots f _ _ x h (fun u sound => query_slotsSound sound f _ _)
  | readSlots f x => cases next; exact request_slots f _ _ x h (fun u sound => takeSlotRead_slotsSound sound f _)
  | hitTest f x =>
    cases next
    refine request_slots f _ _ x h (fun u sound => ?_)
    split
    · rw [slots_answer]; exact sound
    · exact takeSlotRead_slotsSound sound f _
  | resetFace f x =>
    cases next
    refine request_slots f _ _ x h (fun u sound => ?_)
    split
    · rw [slots_hold]; exact sound
    · rw [slots_arbitrate]; exact applyReset_slotsSound sound f
  | _ => cases held

theorem trunkFrame_slotsSound (h : (slots s).Sound) (feed : Feed) (mine : Byte → Bool) {act : State → Bytes → State × TrunkReply}
    (action : ∀ u data, (slots u).Sound → (slots (act u data).1).Sound) : (slots (s.trunkFrame feed mine act)).Sound := by
  unfold State.trunkFrame
  split
  · exact h
  · next tr fr _ =>
    refine ite_slotsSound h (fun _ => ?_)
    have acted : (slots (act { s with trunk := tr } fr.data).1).Sound := action { s with trunk := tr } fr.data h
    unfold State.actOn
    dsimp only
    split
    · exact acted
    · exact acted

/-- The frames of the trunk: CLOSE alone may commit an entry (R35). -/
theorem trunk_slotsSound {c : Instr} (h : (slots s).Sound)
    (trunk : c matches .openFrame .. | .chunkFrame .. | .waypointsFrame .. | .closeFrame .. | .abandonFrame .. | .purgeFrame ..
      | .alarmFrame .. | .allClearFrame .. | .pollFrame .. | .unknownFrameKind ..)
    (next : exec c s = .next t) : (slots t).Sound := by
  have kept (feed : Feed) (mine : Byte → Bool) {act : State → Bytes → State × TrunkReply}
      (action : ∀ u data, slots (act u data).1 = slots u) : (slots (s.trunkFrame feed mine act)).Sound :=
    trunkFrame_slotsSound h feed mine (fun u data sound => (action u data).symm ▸ sound)
  cases c with
  | closeFrame feed => cases next; exact trunkFrame_slotsSound h feed _ (fun _ data sound => close_slotsSound sound data)
  | openFrame feed => cases next; exact kept feed _ slots_openTxn
  | chunkFrame feed => cases next; exact kept feed _ slots_chunk
  | waypointsFrame feed => cases next; exact kept feed _ slots_stageFrame
  | abandonFrame feed => cases next; exact kept feed _ (fun u data => slots_withLength u data (slots_abandon u))
  | purgeFrame feed => cases next; exact kept feed _ (fun u data => slots_withLength u data (slots_purge u))
  | alarmFrame feed => cases next; exact kept feed _ (fun u data => slots_withLength u data (slots_alarm u data))
  | allClearFrame feed => cases next; exact kept feed _ (fun u data => slots_withLength u data (slots_allClear u))
  | pollFrame feed => cases next; exact kept feed _ (fun u data => slots_withLength u data (by rw [poll_state]))
  | unknownFrameKind feed => cases next; exact kept feed _ (fun _ _ => rfl)
  | _ => cases trunk

/-- The steps of a segment, from its grant to its end. -/
theorem segment_slotsSound {c : Instr} (h : (slots s).Sound)
    (segment : c matches .faceGrant | .templateCellStep | .pixelGroupWrite .. | .routeEraseDone | .segmentCompletion | .segmentFault
      | .cutoffExpiry)
    (next : exec c s = .next t) : (slots t).Sound := by
  cases c with
  | faceGrant =>
    cases next
    split
    · exact faceGrant_slotsSound h _ _
    · exact h
  | templateCellStep =>
    cases next
    split
    · refine ite_slotsSound h (fun _ => ?_)
      split
      · exact templateStep_slotsSound h _ _ _
      · exact h
    · exact h
  | pixelGroupWrite count =>
    cases next
    split
    · exact h
    · exact pixelGroup_slotsSound h count
  | routeEraseDone =>
    cases next
    split
    · exact ite_slotsSound h (fun _ => eraseDone_slotsSound h _)
    · exact h
  | segmentCompletion =>
    cases next
    split
    · exact ite_slotsSound h (fun _ => segmentEnd_slotsSound h _ _)
    · exact h
  | segmentFault =>
    cases next
    split
    · split
      · exact segmentEnd_slotsSound h _ _
      · exact h
    · exact h
  | cutoffExpiry =>
    cases next
    have stopped : (slots (s.modEvac (fun e => { e with cutoff := .stopped }))).Sound := h
    refine ite_slotsSound h (fun _ => ?_)
    dsimp only
    split
    · exact segmentEnd_slotsSound stopped _ _
    · exact stopped
  | _ => cases segment

/-- Every command keeps R150. -/
theorem exec_slotsSound {c : Instr} (h : (slots s).Sound) (next : exec c s = .next t) : (slots t).Sound := by
  cases c with
  | fullReset => cases next; exact fullReset_slotsSound _ _
  | readEntry | listWindow | findPrefix | readSlots | hitTest | resetFace => exact heldRequest_slotsSound h rfl next
  | openFrame | chunkFrame | waypointsFrame | closeFrame | abandonFrame | purgeFrame | alarmFrame | allClearFrame | pollFrame
  | unknownFrameKind => exact trunk_slotsSound h rfl next
  | faceGrant | templateCellStep | pixelGroupWrite | routeEraseDone | segmentCompletion | segmentFault | cutoffExpiry =>
    exact segment_slotsSound h rfl next
  | repositionDone =>
    cases next
    split
    · refine answerAllHeld_slotsSound ?_ _
      rw [slots_commitDone]
      exact h
    · exact h
  | purgeEnd => cases next; exact ite_slotsSound h (fun _ => purgeEnd_slotsSound s)
  | ecGrant => cases next; exact ite_slotsSound h (fun _ => ecGrant_slotsSound s)
  | status | kick | readEvents | setMask | readFault | writeImage | setMap | setLanguage | setPalette | writeCells | start | append
  | stop | unknownRequestCode => rw [ownRequest_slots rfl next]; exact h
  | _ => rw [blockCommand_slots rfl next]; exact h

theorem slots_scanTick (s : State) : slots s.scanTick = slots s := slots_mapFaces s _ (fun _ => rfl)

/-- Settles O56: a slot enters DRAWING with its LIVE entry's present generation (`cardSnapshot_slotsSound`, `routeSnapshot_slotsSound`),
and what moves a generation, a commit, a purge or a full reset, takes every slot of that entry out of DRAWING, CURRENT and DRAWN. -/
theorem slotsSoundKept : Obligations.SlotsSoundKept := by
  intro s t h next
  have sound := slotsSound_iff.mp h
  refine slotsSound_iff.mpr ?_
  unfold step at next
  split at next
  · cases next
    rw [slots_scanTick]
    exact sound
  · next rest _ => exact exec_slotsSound (s := { s with pending := rest }) sound next

end Sys2Proof.Machine.CardSlots
end

section
/-! PROOFS. The Face Supervisor: withdrawal at the end of the wait time (R162, R165), the end of the recovery window (R167), and KICK
(R163, R168). -/

namespace Sys2Proof.Machine.Supervision

open Sys2Proof Sys2Proof.Machine Sys2Proof.Machine.UpdateTransactions Sys2Proof.Machine.FacePorts

variable {s : State} {f : Face} {x : Transfer}

/-! ### The timers -/

theorem waitTimer_of_off {c : Settings} (off : c.waitMs = none) : c.waitTimer = .stopped := by
  simp only [Settings.waitTimer, off]

theorem waitTimer_of_time {c : Settings} {ms : Nat} (time : c.waitMs = some ms) : c.waitTimer = .running ms := by
  simp only [Settings.waitTimer, time]

theorem supervises_of_running {st : SupState} {ms : Nat} (state : (s.face f).supervisor.state = st)
    (timer : (s.face f).supervisor.timer = .running ms) : s.supervises f st = true := by
  simp only [State.supervises, state, timer, decide_true, Bool.and_true]

theorem exec_waitTimeExpiry {ms : Nat} (state : (s.face f).supervisor.state = .watch)
    (timer : (s.face f).supervisor.timer = .running ms) : exec (.waitTimeExpiry f) s = .next (s.withdraw f) :=
  congrArg Host.Outcome.next (if_pos (supervises_of_running state timer))

theorem exec_recoveryWindowExpiry {ms : Nat} (state : (s.face f).supervisor.state = .recovery)
    (timer : (s.face f).supervisor.timer = .running ms) : exec (.recoveryWindowExpiry f) s = .next (s.windowExpired f) :=
  congrArg Host.Outcome.next (if_pos (supervises_of_running state timer))

/-! ### Withdrawal -/

/-- Outside the faces a withdrawal touches the flag of the running segment, and the decision that EA makes again (R165, logs 1, 30). -/
theorem withdraw_outside (s : State) (f : Face) : s.withdraw f =
    { s with faces := (s.withdraw f).faces, arbiter := { s.arbiter with decision := (s.withdraw f).arbiter.decision }
             engine := (s.notePulse f).engine } := by
  unfold State.withdraw
  conv_lhs => rw [arbitrate_eq]
  conv_rhs => rw [arbitrate_eq]
  rfl

@[simp] theorem notePulse_face (s : State) (f h : Face) : (s.notePulse f).face h = s.face h := rfl

theorem withdraw_face_same (s : State) (f : Face) : (s.withdraw f).face f = (s.face f).withdraw s.settings.pulseMs := by
  rw [State.withdraw, arbitrate_face, notePulse_face, modFace_face_same]

theorem withdraw_face_ne (s : State) {f h : Face} (other : f ≠ h) : (s.withdraw f).face h = s.face h := by
  rw [State.withdraw, arbitrate_face, notePulse_face, modFace_face_ne s other]

theorem withdraw_frst (s : State) (f : Face) : (s.withdraw f).frst f = true := by
  rw [State.frst, withdraw_face_same]
  rfl

theorem withdraw_withdrawn (s : State) (f : Face) : (s.withdraw f).withdrawn f = true := by
  rw [State.withdrawn, withdraw_face_same]
  rfl

/-! ### The end of the recovery window -/

theorem windowExpired_pulses (below : (s.face f).supervisor.pulses + 1 < s.settings.pulseLimit) :
    s.windowExpired f = (s.notePulse f).modFace f (fun c =>
      { c with supervisor := ⟨.pulse, .running s.settings.pulseMs, c.supervisor.pulses + 1⟩ }) :=
  if_pos below

theorem windowExpired_disables (reached : s.settings.pulseLimit ≤ (s.face f).supervisor.pulses + 1) :
    s.windowExpired f = s.modFace f (fun c => { c with supervisor := ⟨.disabled, .stopped, c.supervisor.pulses + 1⟩ }) :=
  if_neg (Nat.not_lt.mpr reached)

/-! ### What KICK does to its face -/

theorem kicked_off (state : (s.face f).supervisor.state = .off) : s.kicked f = (s, .ok) := by
  simp only [State.kicked, state]

theorem kicked_watch (state : (s.face f).supervisor.state = .watch) :
    s.kicked f = (s.modSupervisor f (fun v => { v with timer := s.settings.waitTimer }), .ok) := by
  simp only [State.kicked, state]

theorem kicked_pulse (state : (s.face f).supervisor.state = .pulse) : s.kicked f = (s, .state) := by
  simp only [State.kicked, state]

theorem kicked_readmits (state : (s.face f).supervisor.state = .recovery ∨ (s.face f).supervisor.state = .disabled) :
    s.kicked f = (s.readmit f, .ok) := by
  obtain state | state := state
  · simp only [State.kicked, state]
  · simp only [State.kicked, state]

/-- Readmission of an enabled face: WATCH with the full wait time and count 0, and RECOVERED latched (R168). -/
theorem readmit_eq (enabled : s.enabled f = true) : s.readmit f =
    s.modFace f (fun c => { c with supervisor := ⟨.watch, s.settings.waitTimer, 0⟩, latch := c.latch ||| 0x800 }) := by
  rw [State.readmit, State.modSupervisor, raise_eq, modFace_modFace, modFace_enabled, enabled]
  rfl

/-! ### KICK as a request -/

theorem taken_supervisor (s : State) (f : Face) (x : Transfer) : ((taken s f x).face f).supervisor = (s.face f).supervisor := by
  rw [taken, modFace_face_same]

/-- A withdrawn face takes KICK too, so that it reaches FS on every open port (R74, R163). -/
theorem exec_kick {u : State} {r : ReplyCode} (opened : s.portOpen f) (empty : x.bytes = [])
    (kicks : (taken s f x).kicked f = (u, r)) : exec (.kick f x) s = .next (u.answer f r 0x02 []) := by
  have asked : exec (.kick f x) s =
      .next (((taken s f x).kicked f).1.answer f ((taken s f x).kicked f).2 0x02 []) :=
    congrArg _ (request_taken_open _ opened (.inr (.inr (.inl rfl))) (by rw [empty]; rfl))
  rw [asked, kicks]

/-- A change of its face that KICK makes and answers, on an open port (R71). -/
theorem set_answer_taken_open (opened : s.portOpen f) (g : FaceContext → FaceContext) (code : ReplyCode) (request : Byte)
    (results : Bytes) : ((taken s f x).modFace f g).answer f code request results = s.modFace f (fun c =>
      answeredContext (g { c with port := ⟨none, none, s.requestOut f x⟩ }) true ⟨code, request, padResults request results⟩) := by
  obtain ⟨-, enabled, -⟩ := opened
  rw [answer_eq, modFace_enabled, show (taken s f x).enabled f = true from enabled, modFace_modFace]
  exact modFace_modFace s f _ _

theorem exec_kick_off (opened : s.portOpen f) (empty : x.bytes = []) (state : (s.face f).supervisor.state = .off) :
    exec (.kick f x) s = .next (s.modFace f (fun c => c.replied (s.requestOut f x) .ok 0x02 [])) := by
  rw [exec_kick opened empty (kicked_off (by rw [taken_supervisor]; exact state)), answer_taken_open opened]
  rfl

theorem exec_kick_watch (opened : s.portOpen f) (empty : x.bytes = []) (state : (s.face f).supervisor.state = .watch) :
    exec (.kick f x) s = .next (s.modFace f (fun c =>
      { c.replied (s.requestOut f x) .ok 0x02 [] with supervisor := { c.supervisor with timer := s.settings.waitTimer } })) := by
  rw [exec_kick opened empty (kicked_watch (by rw [taken_supervisor]; exact state)), State.modSupervisor, set_answer_taken_open opened]
  rfl

theorem exec_kick_pulse (opened : s.portOpen f) (empty : x.bytes = []) (state : (s.face f).supervisor.state = .pulse) :
    exec (.kick f x) s = .next (s.modFace f (fun c => c.replied (s.requestOut f x) .state 0x02 [])) := by
  rw [exec_kick opened empty (kicked_pulse (by rw [taken_supervisor]; exact state)), answer_taken_open opened]
  rfl

/-- A readmission latches RECOVERED and then, with the reply, REPLY_READY (R71, R168). -/
theorem exec_kick_readmits (opened : s.portOpen f) (empty : x.bytes = [])
    (state : (s.face f).supervisor.state = .recovery ∨ (s.face f).supervisor.state = .disabled) :
    exec (.kick f x) s = .next (s.modFace f (fun c =>
      { c.replied (s.requestOut f x) .ok 0x02 [] with
        supervisor := ⟨.watch, s.settings.waitTimer, 0⟩, latch := c.latch ||| 0x801 })) := by
  have enabled : (taken s f x).enabled f = true := by
    obtain ⟨-, enabled, -⟩ := opened
    exact enabled
  have events (latch : EventSet) : latch ||| 0x800 ||| 1 = latch ||| 0x801 := BitVec.or_assoc latch 0x800 1
  rw [exec_kick opened empty (kicked_readmits (by rw [taken_supervisor]; exact state)), readmit_eq enabled,
    set_answer_taken_open opened]
  refine congrArg _ (modFace_congr ?_)
  simp only [answeredContext, if_true, events]
  rfl

/-- Settles O50: each timer's start and expiry, and KICK by the supervisor's state, the state's own lemma in each case. -/
theorem supervisorFollowsItsTables : Obligations.SupervisorFollowsItsTables := by
  refine ⟨fun c => ⟨waitTimer_of_off, fun ms => waitTimer_of_time⟩,
    fun s f ms timer => ⟨fun watch => ?_, fun recovery => ⟨fun below => ?_, fun reached => ?_⟩⟩,
    fun s f x opened empty => ⟨exec_kick_off opened empty, exec_kick_watch opened empty, exec_kick_pulse opened empty,
      exec_kick_readmits opened empty⟩⟩
  · refine ⟨_, exec_waitTimeExpiry watch timer, withdraw_outside s f, fun h other => withdraw_face_ne s other.symm,
      withdraw_frst s f, withdraw_withdrawn s f, ?_⟩
    rw [withdraw_face_same]
    rfl
  · rw [exec_recoveryWindowExpiry recovery timer, windowExpired_pulses below]
    rfl
  · rw [exec_recoveryWindowExpiry recovery timer, windowExpired_disables reached]

end Sys2Proof.Machine.Supervision
end

section
/-! PROOFS. The sources of the Evacuation Controller (R171 to R174, R180, R181, R183): what its look at them does in each state, the
frames ALARM and ALL_CLEAR, and the debounced line. -/

namespace Sys2Proof.Machine.EvacuationMode

open Sys2Proof Sys2Proof.Machine Sys2Proof.Machine.UpdateTransactions

variable {s : State} {feed : Feed} {tr : Trunk} {fr : Frame} {data : Bytes}

/-! ### TAKEOVER -/

/-- What the start of TAKEOVER changes: the queues, EC, and the decision that EA makes (R107, R174). -/
theorem takeover_outside (s : State) : s.takeover = { s with
    faces := s.takeover.faces, arbiter := { s.arbiter with decision := s.takeover.arbiter.decision }
    evac := { s.evac with state := .takeover, cutoff := .running 40, drawnZone := none, language := none, redraw := false } } := by
  unfold State.takeover
  conv_lhs => rw [arbitrate_eq]
  conv_rhs => rw [arbitrate_eq]
  rfl

theorem takeover_evac (s : State) : s.takeover.evac =
    { s.evac with state := .takeover, cutoff := .running 40, drawnZone := none, language := none, redraw := false } :=
  congrArg State.evac (takeover_outside s)

theorem takeover_update (s : State) : s.takeover.update = s.update := by
  rw [takeover_outside]

theorem takeover_face (s : State) (f : Face) :
    s.takeover.face f = { s.face f with queue := (s.face f).queue.haltedBy .evac } := by
  rw [State.takeover, arbitrate_face, modEvac_face, State.haltQueues, mapFaces_face]
  rfl

theorem takeover_takenOver (s : State) : s.takenOver s.takeover := by
  unfold State.takenOver
  rw [takeover_evac]
  exact ⟨rfl, rfl, rfl, rfl, rfl, congrArg (fun t => t.arbiter.holder) (takeover_outside s), takeover_face s⟩

/-- EC starts TAKEOVER without a look at the trunk. -/
theorem takeover_modTrunk (s : State) (g : Trunk → Trunk) : (s.modTrunk g).takeover = s.takeover.modTrunk g :=
  arbitrate_modTrunk ((s.haltQueues .evac).modEvac (fun e =>
    { e with state := .takeover, cutoff := .running Config.cutoffMs, drawnZone := none, language := none, redraw := false })) g

/-! ### EC's look at the sources -/

theorem lookSources_takes_over (normal : s.evac.state = .normal) (wanted : s.evacWanted = true) : s.lookSources = s.takeover := by
  simp only [State.lookSources, normal, wanted, if_true]

theorem lookSources_stays_normal (normal : s.evac.state = .normal) (unwanted : s.evacWanted = false) : s.lookSources = s := by
  simp only [State.lookSources, normal, unwanted, Bool.false_eq_true, if_false]

/-- EC looks at its own state, its sources and the settings, and not at the trunk. -/
theorem lookSources_modTrunk (s : State) (g : Trunk → Trunk) : (s.modTrunk g).lookSources = s.lookSources.modTrunk g := by
  have looked := lookSources_looked s
  have lookedToo : (s.modTrunk g).SourcesLooked (s.modTrunk g).lookSources s.shownZone s.evacWanted := lookSources_looked (s.modTrunk g)
  cases state : s.evac.state with
  | normal =>
    cases wanted : s.evacWanted with
    | true => rw [lookSources_takes_over state wanted, lookSources_takes_over (s := s.modTrunk g) state wanted, takeover_modTrunk]
    | false => rw [lookSources_stays_normal state wanted, lookSources_stays_normal (s := s.modTrunk g) state wanted]
  | takeover =>
    rw [looked.takeover state, lookedToo.takeover state, apply_ite (fun u : State => u.modTrunk g)]
    rfl
  | showing =>
    rw [looked.showing state, lookedToo.showing state]
    simp only [apply_ite (fun u : State => u.modTrunk g)]
    rfl
  | releasing => rw [looked.releasing state, lookedToo.releasing state]

/-- EC's look leaves the Update Controller as it is. -/
theorem lookSources_update (s : State) : s.lookSources.update = s.update := by
  have looked := lookSources_looked s
  cases state : s.evac.state with
  | normal =>
    cases wanted : s.evacWanted with
    | true => rw [lookSources_takes_over state wanted, takeover_update]
    | false => rw [lookSources_stays_normal state wanted]
  | takeover =>
    rw [looked.takeover state]
    split <;> rfl
  | showing =>
    rw [looked.showing state]
    split_ifs <;> rfl
  | releasing => rw [looked.releasing state]

theorem lookSources_ack (s : State) : s.lookSources.ack = (s.lookSources, .ack s.replyTag s.update.state) := by
  unfold State.ack State.replyTag
  rw [lookSources_update]

/-! ### ALARM and ALL_CLEAR -/

theorem withLength_of_length {n : Nat} (act : State → Bytes → State × TrunkReply) (length : data.length = n) :
    withLength n act s data = act s data := if_pos length

theorem withLength_of_ne {n : Nat} (act : State → Bytes → State × TrunkReply) (length : data.length ≠ n) :
    withLength n act s data = s.nak .format := if_neg length

theorem alarm_refuses (out : 7 < num data 0) : s.alarm data = s.nak .range := by
  simp only [State.alarm, finOf_none out]

/-- An ALARM with the zone that the trunk source already has moves nothing (R173). -/
theorem alarm_repeats {z : Fin 8} (zone : num data 0 = z.val) (active : s.evac.trunkZone = some z) : s.alarm data = s.ack := by
  simp only [State.alarm, zone, finOf_val, active, if_true]

theorem alarm_looks {z : Fin 8} (zone : num data 0 = z.val) (other : s.evac.trunkZone ≠ some z) :
    s.alarm data = (s.modEvac (fun e => { e with trunkZone := some z })).lookSources.ack := by
  simp only [State.alarm, zone, finOf_val, other, if_false]

theorem allClear_repeats (inactive : s.evac.trunkZone = none) : s.allClear = s.ack := if_pos inactive

theorem allClear_looks (active : s.evac.trunkZone ≠ none) :
    s.allClear = (s.modEvac (fun e => { e with trunkZone := none })).lookSources.ack := if_neg active

/-- A frame that moves the trunk source: EC looks at the sources, and the ACK carries the tag and the UC state, which EC leaves. -/
theorem trunkFrame_looks {mine : Byte → Bool} {act : State → Bytes → State × TrunkReply} {e : Evac}
    (heard : s.heard feed = (tr, some fr)) (kind : mine fr.kind = true)
    (acts : act { s with trunk := tr } fr.data = (State.lookSources { s with evac := e, trunk := tr }).ack) :
    s.trunkFrame feed mine act =
      State.lookSources { s with evac := e, trunk := tr.answered fr.address (.ack s.replyTag s.update.state) } := by
  rw [trunkFrame_answers heard kind (acts.trans (lookSources_ack _)), ← lookSources_modTrunk]
  rfl

theorem exec_alarmFrame (feed : Feed) (s : State) :
    exec (.alarmFrame feed) s = .next (s.trunkFrame feed (· == 0x07) (withLength 1 State.alarm)) := rfl

theorem exec_allClearFrame (feed : Feed) (s : State) :
    exec (.allClearFrame feed) s = .next (s.trunkFrame feed (· == 0x08) (withLength 0 (fun t _ => t.allClear))) := rfl

theorem exec_unknownFrameKind (feed : Feed) (s : State) :
    exec (.unknownFrameKind feed) s = .next (s.trunkFrame feed (fun k => !trunkKinds.contains k) (fun t _ => t.nak .format)) := rfl

/-- The kinds of the head-end's frames are 01h to 09h (R202). -/
theorem trunkKinds_contains_iff (kind : Byte) : trunkKinds.contains kind = true ↔ 1 ≤ kind.toNat ∧ kind.toNat ≤ 9 := by
  simp only [trunkKinds, List.contains_eq_mem, List.mem_cons, List.not_mem_nil, or_false, decide_eq_true_eq]
  bv_omega

/-- With a zone given to the trunk source, that zone is shown and evacuation is wanted, whatever the line source is (R171). -/
theorem looked_of_zone {u : State} {z : Fin 8} (active : u.evac.trunkZone = some z) : u.SourcesLooked u.lookSources z true := by
  have zone : u.shownZone = z := by rw [State.shownZone, active]; rfl
  have wanted : u.evacWanted = true := by rw [State.evacWanted, active]; exact Bool.or_true _
  have looked := lookSources_looked u
  rwa [zone, wanted] at looked

/-- Without a trunk source the line's zone is shown, and evacuation is wanted as the line source says (R171). -/
theorem looked_of_no_zone {u : State} (inactive : u.evac.trunkZone = none) :
    u.SourcesLooked u.lookSources u.settings.lineZone u.evac.asserted := by
  have zone : u.shownZone = u.settings.lineZone := by rw [State.shownZone, inactive]; rfl
  have wanted : u.evacWanted = u.evac.asserted := by rw [State.evacWanted, inactive]; exact Bool.or_false _
  have looked := lookSources_looked u
  rwa [zone, wanted] at looked

/-- An ALARM of another zone: the trunk source takes it, and EC looks at the sources (R173). -/
theorem exec_alarmFrame_looks {z : Fin 8} (heard : s.heard feed = (tr, some fr)) (kind : fr.kind = 0x07) (length : fr.data.length = 1)
    (zone : num fr.data 0 = z.val) (other : s.evac.trunkZone ≠ some z) :
    exec (.alarmFrame feed) s = .next (State.lookSources { s with
      evac := { s.evac with trunkZone := some z }, trunk := tr.answered fr.address (.ack s.replyTag s.update.state) }) := by
  have mine : (fr.kind == 0x07) = true := by simp [kind]
  rw [exec_alarmFrame, trunkFrame_looks heard mine ((withLength_of_length _ length).trans (alarm_looks zone other))]

/-- An ALL_CLEAR while the trunk source is active: it ends, and EC looks at the sources (R173). -/
theorem exec_allClearFrame_looks (heard : s.heard feed = (tr, some fr)) (kind : fr.kind = 0x08) (empty : fr.data = [])
    (active : s.evac.trunkZone ≠ none) :
    exec (.allClearFrame feed) s = .next (State.lookSources { s with
      evac := { s.evac with trunkZone := none }, trunk := tr.answered fr.address (.ack s.replyTag s.update.state) }) := by
  have mine : (fr.kind == 0x08) = true := by simp [kind]
  have length : fr.data.length = 0 := by rw [empty]; rfl
  rw [exec_allClearFrame, trunkFrame_looks heard mine ((withLength_of_length _ length).trans (allClear_looks (by exact active)))]

/-- Settles O24: a frame that moves the trunk source is EC's look at the sources, with the zone and the want that R171 gives; any other
frame is acknowledged or refused. -/
theorem alarmFramesMoveTheSource : Obligations.AlarmFramesMoveTheSource := by
  refine ⟨trunkKinds_contains_iff, fun s feed tr fr heard => ⟨fun kind length => ⟨fun z zone => ⟨fun active => ?_, fun other u hu => ?_,
    fun normal inactive => ?_⟩, fun out => ?_⟩, fun kind empty => ⟨fun inactive => ?_, fun active u hu => ?_⟩,
    fun kind length => ?_, fun kind data => ?_, fun unknown => ?_⟩⟩
  · have mine : (fr.kind == 0x07) = true := by simp [kind]
    rw [exec_alarmFrame, trunkFrame_answers heard mine ((withLength_of_length _ length).trans (alarm_repeats zone active))]
    rfl
  · subst hu
    exact ⟨exec_alarmFrame_looks heard kind length zone other, looked_of_zone rfl⟩
  · have other : s.evac.trunkZone ≠ some z := by simp [inactive]
    refine ⟨_, exec_alarmFrame_looks heard kind length zone other, ?_⟩
    rw [lookSources_takes_over (by exact normal) (by exact Bool.or_true _)]
    exact ⟨takeover_takenOver _, congrArg Evac.trunkZone (takeover_evac _)⟩
  · have mine : (fr.kind == 0x07) = true := by simp [kind]
    rw [exec_alarmFrame, trunkFrame_refuses heard mine ((withLength_of_length _ length).trans (alarm_refuses out))]
  · have mine : (fr.kind == 0x08) = true := by simp [kind]
    rw [exec_allClearFrame, emptyFrame_answers heard mine empty (allClear_repeats inactive)]
    rfl
  · subst hu
    refine ⟨exec_allClearFrame_looks heard kind empty active, looked_of_no_zone rfl, fun normal quiet => ?_⟩
    exact lookSources_stays_normal normal ((Bool.or_false _).trans quiet)
  · have mine : (fr.kind == 0x07) = true := by simp [kind]
    rw [exec_alarmFrame, trunkFrame_refuses heard mine (withLength_of_ne _ length)]
  · have mine : (fr.kind == 0x08) = true := by simp [kind]
    rw [exec_allClearFrame, emptyFrame_length heard mine data]
  · have mine : (!trunkKinds.contains fr.kind) = true := by rw [unknown]; rfl
    rw [exec_unknownFrameKind, trunkFrame_refuses heard mine rfl]

/-! ### The debounced line -/

/-- The state at the expiry of the debounce timer, before EC looks: the line source has the pin's level (R172). -/
def lineSettled (s : State) : State := { s with evac := { s.evac with debounce := .stopped, asserted := s.evac.lineLow } }

theorem exec_lineDebounceExpiry {ms : Nat} (running : s.evac.debounce = .running ms) : exec .lineDebounceExpiry s =
    .next (if s.evac.asserted = s.evac.lineLow then lineSettled s else (lineSettled s).lookSources) := by
  show execLineDebounceExpiry s = _
  rw [execLineDebounceExpiry, if_pos (by rw [running]; rfl)]
  rfl

theorem exec_lineDebounceExpiry_of_change {ms : Nat} (running : s.evac.debounce = .running ms)
    (changed : s.evac.asserted ≠ s.evac.lineLow) : exec .lineDebounceExpiry s = .next (lineSettled s).lookSources := by
  rw [exec_lineDebounceExpiry running, if_neg changed]

/-- Where EC's look would move nothing, the expiry does no more than settle the source, changed or not. -/
theorem exec_lineDebounceExpiry_of_still {ms : Nat} (running : s.evac.debounce = .running ms)
    (still : (lineSettled s).lookSources = lineSettled s) : exec .lineDebounceExpiry s = .next (lineSettled s) := by
  rw [exec_lineDebounceExpiry running, still, ite_self]

theorem debounceOf_change (low : Bool) : debounceOf (!low) = .running (if low = true then 200 else 20) := by
  cases low <;> rfl

/-- Settles O52: the pin's change restarts the timer, and its expiry settles the source, which EC then looks at if it changed. -/
theorem lineSourceFollowsThePin : Obligations.LineSourceFollowsThePin := by
  refine ⟨fun s => ?_, fun s ms settled running hsettled => ?_⟩
  · rw [← debounceOf_change]
    rfl
  · obtain rfl : settled = lineSettled s := hsettled
    have looked := lookSources_looked (lineSettled s)
    refine ⟨fun same => ?_, fun released low normal => ?_, fun changed => ⟨exec_lineDebounceExpiry_of_change running changed, ?_⟩,
      fun takeover still => exec_lineDebounceExpiry_of_still running ?_,
      fun releasing => exec_lineDebounceExpiry_of_still running (looked.releasing releasing), fun asserted high inactive showing still => ?_⟩
    · rw [exec_lineDebounceExpiry running, if_pos same]
    · have wanted : (lineSettled s).evacWanted = true := by simp [State.evacWanted, lineSettled, low]
      rw [exec_lineDebounceExpiry_of_change running (by simp [released, low]), lookSources_takes_over (by exact normal) wanted]
      exact ⟨_, rfl, takeover_takenOver _, (congrArg Evac.asserted (takeover_evac _)).trans low,
        congrArg Evac.debounce (takeover_evac _)⟩
    · rintro zone wanted rfl rfl
      exact looked
    · rw [looked.takeover takeover, if_neg (fun drawing => drawing.1 still)]
    · have unwanted : ¬(lineSettled s).evacWanted = true := by simp [State.evacWanted, lineSettled, high, inactive]
      rw [exec_lineDebounceExpiry_of_change running (by simp [asserted, high]), looked.showing showing, if_neg unwanted,
        if_pos (by exact still)]

end Sys2Proof.Machine.EvacuationMode
end

section
/-! PROOFS. The drawings of the Evacuation Controller (R180 to R183): what the end of each begins, the language cycle, and the faces
given back at the end of BLANK. -/

namespace Sys2Proof.Machine.EvacuationMode

open Sys2Proof Sys2Proof.Machine Sys2Proof.Machine.UpdateTransactions Sys2Proof.Machine.DrawEngine

variable {s : State}

/-! ### What follows a drawing -/

theorem afterDrawing_releases (unwanted : s.evacWanted = false) : s.afterDrawing = s.startRelease := by
  simp only [State.afterDrawing, unwanted, Bool.not_false, if_true]

theorem afterDrawing_redraws (wanted : s.evacWanted = true) (redraw : s.evac.redraw = true) : s.afterDrawing = s.startView := by
  simp only [State.afterDrawing, wanted, redraw, Bool.not_true, Bool.false_eq_true, if_false, if_true]

theorem afterDrawing_cycles (wanted : s.evacWanted = true) (redraw : s.evac.redraw = false) :
    s.afterDrawing = { s with evac := { s.evac with cycle := .running s.settings.cycleMs } } := by
  simp only [State.afterDrawing, wanted, redraw, Bool.not_true, Bool.false_eq_true, if_false, State.modEvac]

/-! ### The ends of the view and of the band -/

theorem drawingDone_of {d : Drawing} (holds : s.arbiter.holder = some .ec) (drawing : s.evac.drawing = some d)
    (written : s.engine.jobs = []) : s.drawingDone d = true := by
  simp only [State.drawingDone, holds, drawing, written, decide_true, List.isEmpty_nil, Bool.and_self]

/-- What a view's end leaves to what follows it: the first view of a takeover enters SHOWING with EVAC_ON (R180). -/
def viewShown (s : State) : State :=
  if s.evac.state = .takeover then
    { s with faces := Vector.ofFn (fun f : Face =>
               if s.enabled f = true then { s.face f with latch := (s.face f).latch ||| 0x200 } else s.face f)
             evac := { s.evac with drawing := none, state := .showing } }
  else { s with evac := { s.evac with drawing := none } }

theorem viewEnd_eq (s : State) : s.viewEnd = (viewShown s).afterDrawing := by
  unfold State.viewEnd viewShown
  split <;> rfl

/-- A view's end changes the latches and EC's own state alone. -/
theorem viewShown_outside (s : State) : ∃ faces state,
    viewShown s = { s with faces := faces, evac := { s.evac with drawing := none, state := state } } := by
  unfold viewShown
  split
  · exact ⟨_, _, rfl⟩
  · exact ⟨s.faces, s.evac.state, rfl⟩

/-- The end of a view or a band, and what it leaves to what follows. -/
inductive DrawingEnd (s : State) : Instr → State → Prop
  | view (drawing : s.evac.drawing = some .view) : DrawingEnd s .viewDrawingEnd (viewShown s)
  | band (drawing : s.evac.drawing = some .band) :
      DrawingEnd s .bandDrawingEnd { s with evac := { s.evac with drawing := none } }

theorem DrawingEnd.exec_eq {c : Instr} {u : State} (ended : DrawingEnd s c u) (holds : s.arbiter.holder = some .ec)
    (written : s.engine.jobs = []) : exec c s = .next u.afterDrawing := by
  cases ended with
  | view drawing =>
    rw [← viewEnd_eq]
    exact congrArg _ (if_pos (drawingDone_of holds drawing written))
  | band drawing => exact congrArg _ (if_pos (drawingDone_of holds drawing written))

theorem DrawingEnd.outside {c : Instr} {u : State} (ended : DrawingEnd s c u) : ∃ faces state,
    u = { s with faces := faces, evac := { s.evac with drawing := none, state := state } } := by
  cases ended with
  | view => exact viewShown_outside s
  | band => exact ⟨s.faces, s.evac.state, rfl⟩

/-! ### The language cycle -/

/-- The band of a face: its fill, then the line of its message (R178 step 2, R179). -/
theorem bandJobs_eq (m : Mem) (language : Option (Fin 4)) (f : Face) : bandJobs m language f =
    .plot ⟨f, .card, .replace, .solid 1, ⟨0, 0, 1080, 240⟩, 0⟩ :: messageLine m language f := by
  unfold bandJobs messageLine
  cases language with
  | none => rfl
  | some l =>
    dsimp only
    cases planMessage m l <;> rfl

/-- The cycle meets the slots in the order of their distance from the one after the shown slot (R182). -/
theorem cycle_ordered (l : Fin 4) :
    [l + 1, l + 2, l + 3, l].Pairwise (fun j k => (j - (l + 1)).val < (k - (l + 1)).val) := by
  revert l
  decide

theorem mem_cycle (l k : Fin 4) : k ∈ [l + 1, l + 2, l + 3, l] := by
  revert l k
  decide

theorem nextMessage_holds {m : Mem} {l k : Fin 4} (found : nextMessage m l = some k) : (planMessage m k).isSome = true :=
  List.find?_some (p := fun l => (planMessage m l).isSome) found

theorem nextMessage_eq_some {m : Mem} {l k : Fin 4} (holds : (planMessage m k).isSome = true)
    (first : ∀ j : Fin 4, (j - (l + 1)).val < (k - (l + 1)).val → planMessage m j = none) : nextMessage m l = some k := by
  obtain ⟨j, found⟩ : ∃ j, nextMessage m l = some j :=
    Option.isSome_iff_exists.mp (List.find?_isSome.mpr ⟨k, mem_cycle l k, holds⟩)
  rcases find?_first (cycle_ordered l) found (mem_cycle l k) holds with same | before
  · rw [found, same]
  · have here := nextMessage_holds found
    rw [first j before] at here
    cases here

theorem cycleLanguage_changes {z : Fin 8} {m : Mem} {l k : Fin 4} (zone : s.evac.drawnZone = some z)
    (plan : s.evac.plans[z] = some m) (language : s.evac.language = some l) (next : nextMessage m l = some k) (other : k ≠ l) :
    s.cycleLanguage = some k := by
  simp only [State.cycleLanguage, zone, language, Option.bind_some, plan, next, other, if_false]

/-- With no message to show, or none but the one shown, the cycle changes to none (R182, log 22). -/
theorem cycleLanguage_stays (alone : s.evac.language = none ∨
    ∃ l, s.evac.language = some l ∧ ∀ z m, s.evac.drawnZone = some z → s.evac.plans[z] = some m →
      ∀ j : Fin 4, j ≠ l → planMessage m j = none) : s.cycleLanguage = none := by
  rcases alone with language | ⟨l, language, others⟩
  · simp only [State.cycleLanguage, language]
  · cases plan : s.evac.drawnZone.bind (fun z => s.evac.plans[z]) with
    | none => simp only [State.cycleLanguage, language, plan]
    | some m =>
      cases next : nextMessage m l with
      | none => simp only [State.cycleLanguage, language, plan, next]
      | some k =>
        obtain ⟨z, zone, defined⟩ := Option.bind_eq_some_iff.mp plan
        have same : k = l := by
          by_contra other
          have here := nextMessage_holds next
          rw [others z m zone defined k other] at here
          cases here
        simp only [State.cycleLanguage, language, plan, next, same, if_true]

theorem cycleExpiry_stays (stays : s.cycleLanguage = none) :
    s.cycleExpiry = { s with evac := { s.evac with cycle := .running s.settings.cycleMs } } := by
  simp only [State.cycleExpiry, stays, State.modEvac]

theorem cycleExpiry_draws {z : Fin 8} {m : Mem} {k : Fin 4} (zone : s.evac.drawnZone = some z) (plan : s.evac.plans[z] = some m)
    (changes : s.cycleLanguage = some k) : s.cycleExpiry = { s with
      engine := { s.engine with jobs := s.enabledFaces.flatMap (bandJobs m (some k)) }
      evac := { s.evac with language := some k, drawing := some .band, cycle := .stopped } } := by
  simp only [State.cycleExpiry, changes, zone, Option.bind_some, plan, Option.getD_some, State.setJobs, State.modEvac]

theorem exec_cycleTimerExpiry {ms : Nat} (showing : s.evac.state = .showing) (running : s.evac.cycle = .running ms) :
    exec .cycleTimerExpiry s = .next s.cycleExpiry :=
  congrArg _ (if_pos ⟨showing, by rw [running]; rfl⟩)

/-! ### The end of BLANK -/

/-- Each enabled face's Scan-out takes the face's own palette again (R141, R183). -/
def palettesReturned (s : State) : State :=
  s.mapFaces (fun f c => if s.enabled f then { c with palette := { c.palette with source := .face } } else c)

theorem palettesReturned_face (s : State) (f : Face) : (palettesReturned s).face f = { s.face f with
    palette := if s.enabled f = true then { (s.face f).palette with source := .face } else (s.face f).palette } := by
  rw [palettesReturned, mapFaces_face]
  split <;> rfl

/-- The state in which EC looks at the sources at the end of BLANK: the faces given back, the engine free, EC in NORMAL (R183). -/
def facesGivenBack (s : State) : State :=
  ((palettesReturned s).release.raiseAll .evacOff).modEvac (fun e =>
    { e with state := .normal, drawnZone := none, language := none, drawing := none })

theorem facesGivenBack_face (s : State) (f : Face) : (facesGivenBack s).face f = { s.face f with
    palette := if s.enabled f = true then { (s.face f).palette with source := .face } else (s.face f).palette
    latch := if s.enabled f = true then (s.face f).latch ||| 0x400 else (s.face f).latch } := by
  rw [facesGivenBack, modEvac_face, raiseAll_face, release_face, palettesReturned_face]
  rfl

theorem facesGivenBack_outside (s : State) : ∃ faces evac,
    facesGivenBack s = { s with faces := faces, evac := evac, arbiter := ⟨none, s.arbiter.lastServed, none⟩ } := ⟨_, _, rfl⟩

theorem blankEnd_takes_over (wanted : s.evacWanted = true) : s.blankEnd = (facesGivenBack s).takeover := if_pos wanted

theorem blankEnd_decides (unwanted : s.evacWanted = false) : s.blankEnd = (facesGivenBack s).arbitrate :=
  if_neg (Bool.eq_false_iff.mp unwanted)

/-- At a release EA makes its decision from the claims it finds (R107). -/
theorem arbitrate_of_released (free : s.arbiter.holder = none) (undecided : s.arbiter.decision = none) :
    s.arbitrate.arbiter.decision = s.arbitrate.grantDecision := by
  rw [arbitrate_of_undecided free undecided, grantDecision_setDecision]
  rfl

theorem blankEnd_decision (s : State) : s.blankEnd.arbiter.decision = s.blankEnd.grantDecision := by
  cases wanted : s.evacWanted with
  | true =>
    rw [blankEnd_takes_over wanted, State.takeover]
    exact arbitrate_of_released rfl rfl
  | false =>
    rw [blankEnd_decides wanted]
    exact arbitrate_of_released rfl rfl

/-- The end of BLANK changes the faces and EC, and frees the engine for EA's decision (R110, R183). -/
theorem blankEnd_outside (s : State) : s.blankEnd = { s with
    faces := s.blankEnd.faces, evac := s.blankEnd.evac, arbiter := ⟨none, s.arbiter.lastServed, s.blankEnd.grantDecision⟩ } := by
  rw [← blankEnd_decision]
  obtain ⟨faces, evac, returned⟩ := facesGivenBack_outside s
  cases wanted : s.evacWanted with
  | true =>
    rw [blankEnd_takes_over wanted, returned, takeover_evac]
    exact takeover_outside _
  | false =>
    rw [blankEnd_decides wanted, returned, arbitrate_eq]
    rfl

/-- EC after BLANK: nothing shown, and in TAKEOVER with its cut-off timer if evacuation is wanted again, else in NORMAL (R183). -/
theorem blankEnd_evac (s : State) : s.blankEnd.evac.drawnZone = none ∧ s.blankEnd.evac.language = none ∧
    s.blankEnd.evac.drawing = none ∧ s.blankEnd.evac.state = (if s.evacWanted = true then .takeover else .normal) ∧
    (s.evacWanted = true → s.blankEnd.evac.cutoff = .running 40) := by
  cases wanted : s.evacWanted with
  | true =>
    rw [blankEnd_takes_over wanted, takeover_evac]
    exact ⟨rfl, rfl, rfl, rfl, fun _ => rfl⟩
  | false =>
    rw [blankEnd_decides wanted, arbitrate_eq]
    exact ⟨rfl, rfl, rfl, rfl, nofun⟩

theorem blankEnd_face (s : State) (f : Face) : s.blankEnd.face f = { (facesGivenBack s).face f with
    queue := if s.evacWanted = true then (s.face f).queue.haltedBy .evac else (s.face f).queue } := by
  cases wanted : s.evacWanted with
  | true =>
    rw [blankEnd_takes_over wanted, takeover_face, facesGivenBack_face]
    rfl
  | false =>
    rw [blankEnd_decides wanted, arbitrate_face, facesGivenBack_face]
    rfl

theorem exec_blankDrawingEnd (holds : s.arbiter.holder = some .ec) (drawing : s.evac.drawing = some .blank)
    (written : s.engine.jobs = []) : exec .blankDrawingEnd s = .next s.blankEnd :=
  congrArg _ (if_pos (drawingDone_of holds drawing written))

/-- Settles O54: the ends of a view and a band share what follows a drawing, the cycle changes to the nearest slot with a message, and
the end of BLANK gives each face back and then looks at the sources. -/
theorem evacuationDrawingsEnd : Obligations.EvacuationDrawingsEnd := by
  intro s shown hshown
  obtain rfl : shown = viewShown s := hshown
  refine ⟨rfl, fun c u holds written which => ?_, fun ms showing running => ⟨fun z m l k zone plan language other holds first => ?_,
    fun alone => ?_⟩, fun holds drawing written => ?_⟩
  · have ended : DrawingEnd s c u := by
      rcases which with ⟨rfl, drawing, rfl⟩ | ⟨rfl, drawing, rfl⟩
      · exact .view drawing
      · exact .band drawing
    rw [ended.exec_eq holds written]
    obtain ⟨faces, state, rfl⟩ := ended.outside
    refine ⟨fun unwanted => ?_, fun wanted redraw => ?_, fun wanted redraw => ?_⟩
    · rw [afterDrawing_releases (by exact unwanted)]
      rfl
    · rw [afterDrawing_redraws (by exact wanted) (by exact redraw)]
    · rw [afterDrawing_cycles (by exact wanted) (by exact redraw)]
  · have next : nextMessage m l = some k := nextMessage_eq_some holds first
    rw [exec_cycleTimerExpiry showing running,
      cycleExpiry_draws zone plan (cycleLanguage_changes zone plan language next other), funext (bandJobs_eq m (some k))]
  · rw [exec_cycleTimerExpiry showing running, cycleExpiry_stays (cycleLanguage_stays alone)]
  · obtain ⟨zone, language, drawn, state, cutoff⟩ := blankEnd_evac s
    refine ⟨_, exec_blankDrawingEnd holds drawing written, blankEnd_outside s, zone, language, drawn, state, cutoff, fun f => ?_⟩
    rw [blankEnd_face, facesGivenBack_face]
    refine ⟨rfl, fun on => ?_, fun off => ?_, fun unwanted => ?_⟩
    · simp only [on, if_true, and_self]
    · simp only [off, Bool.false_eq_true, if_false, and_self]
    · simp only [unwanted, Bool.false_eq_true, if_false]

end Sys2Proof.Machine.EvacuationMode
end

section
/-! PROOFS. What the receiver hears of a dip and its gap (R186, R187): the samples that count, the edges that are accepted, and the dips
that are left of a feed once its timing is taken away. -/

namespace Sys2Proof.Machine.TrunkLink

open Sys2Proof Sys2Proof.Machine

variable {n : Nat} {own : Byte} {t : Trunk}

/-! ### One thing heard after another -/

/-- What is heard of two stretches of feed: the second is heard by the receiver that the first leaves, unless a frame was taken. -/
def thenHear (r : Trunk × Option Frame) (g : Trunk → Trunk × Option Frame) : Trunk × Option Frame :=
  match r with
  | (u, none) => g u
  | (u, some fr) => (u, some fr)

@[simp] theorem thenHear_none (u : Trunk) (g) : thenHear (u, none) g = g u := rfl

@[simp] theorem thenHear_some (u : Trunk) (fr : Frame) (g) : thenHear (u, some fr) g = (u, some fr) := rfl

theorem thenHear_assoc (r : Trunk × Option Frame) (g h) : thenHear (thenHear r g) h = thenHear r (fun u => thenHear (g u) h) := by
  obtain ⟨u, _ | fr⟩ := r <;> rfl

@[simp] theorem thenHear_nothing (r : Trunk × Option Frame) : thenHear r (fun u => (u, none)) = r := by
  obtain ⟨u, _ | fr⟩ := r <;> rfl

theorem hearRun_succ (low : Bool) (k : Nat) (t : Trunk) :
    t.hearRun n own low (k + 1) = thenHear (t.sample n own low) (Trunk.hearRun n own low k) := rfl

theorem hearRun_add (low : Bool) (j k : Nat) (t : Trunk) :
    t.hearRun n own low (j + k) = thenHear (t.hearRun n own low j) (Trunk.hearRun n own low k) := by
  induction j generalizing t with
  | zero => rw [Nat.zero_add]; rfl
  | succ j ih => rw [Nat.succ_add, hearRun_succ, hearRun_succ, thenHear_assoc, funext ih]

/-- The states in which the receiver samples the feed (R187). -/
def Samples (t : Trunk) : Prop := t.rx = .idle ∨ t.rx = .sync ∨ t.rx = .body ∨ t.rx = .check

theorem hear_cons (r : FeedRun) (rs : Feed) (samples : Samples t) :
    Trunk.hear n own (r :: rs) t = thenHear (t.hearRun n own r.low r.samples) (Trunk.hear n own rs) := by
  unfold Trunk.hear
  obtain h | h | h | h := samples <;> rw [h] <;> rfl

/-- Outside those states nothing is heard. -/
theorem hear_deaf (feed : Feed) (deaf : t.rx = .off ∨ t.rx = .turnaround ∨ t.rx = .reply) :
    Trunk.hear n own feed t = (t, none) := by
  cases feed with
  | nil => rfl
  | cons r rs =>
    unfold Trunk.hear
    obtain h | h | h := deaf <;> rw [h]

/-! ### The level and its counts -/

/-- A receiver at an accepted level, with no sample of the other level counted. -/
def atLevel (t : Trunk) (low : Bool) (run quiet : Nat) (other : Bool) : Trunk :=
  { t with low := some low, run := run, quiet := quiet, otherLow := other, other := 0 }

/-- So many samples more with no accepted edge do not drop a frame (R187). -/
def InTime (t : Trunk) (k : Nat) : Prop := t.rx = .body ∨ t.rx = .check → t.quiet + k < Config.timeoutSamples

theorem timed_of_inTime {k : Nat} (h : InTime t (k + 1)) (other : Nat) :
    t.timed other = { t with run := t.run + 1, quiet := t.quiet + 1, other := other } :=
  if_neg (fun late => by have := h late.1; have := late.2; simp only at this; omega)

/-- Samples at the accepted level only count. -/
theorem hearRun_level {low : Bool} {k : Nat} (level : t.low = some low) (settled : t.other = 0) (inTime : InTime t k) :
    t.hearRun n own low k = (atLevel t low (t.run + k) (t.quiet + k) t.otherLow, none) := by
  induction k generalizing t with
  | zero => cases t; cases level; cases settled; rfl
  | succ k ih =>
    have first : t.sample n own low = ({ t with run := t.run + 1, quiet := t.quiet + 1, other := 0 }, none) := by
      rw [Trunk.sample, if_pos level, timed_of_inTime (k := 0) (fun b => by have := inTime b; omega)]
    rw [hearRun_succ, first, thenHear_none, ih (by exact level) rfl (fun b => by have := inTime b; simp only; omega)]
    simp only [atLevel, Nat.add_assoc, Nat.add_comm 1 k]

/-- One sample more of the other level. -/
theorem sample_other {low : Bool} (level : t.low = some (!low)) (counted : t.other = 0 ∨ t.otherLow = low) :
    t.sample n own low =
      if n ≤ t.other + 1 then t.accept own low (t.run + 1 - (t.other + 1)) (t.other + 1)
      else (({ t with otherLow := low }).timed (t.other + 1), none) := by
  have new : t.low ≠ some low := by rw [level]; cases low <;> decide
  have count : (if t.otherLow = low then t.other + 1 else 1) = t.other + 1 := by
    split
    · rfl
    · next h => rw [counted.resolve_right h]
  rw [Trunk.sample, if_neg new]
  simp only [count]

/-- The samples that are left of `n` of the other level: the last of them accepts the edge. -/
theorem hearRun_rest {low : Bool} {m : Nat} (level : t.low = some (!low)) (counted : t.other = 0 ∨ t.otherLow = low)
    (left : t.other + (m + 1) = n) (inTime : InTime t m) :
    ∃ o, t.hearRun n own low (m + 1) = ({ t with otherLow := o }).accept own low (t.run - t.other) n := by
  induction m generalizing t with
  | zero =>
    refine ⟨t.otherLow, ?_⟩
    rw [hearRun_succ, sample_other level counted, if_pos (by omega), show t.run + 1 - (t.other + 1) = t.run - t.other by omega, left]
    exact thenHear_nothing _
  | succ m ih =>
    have early : InTime { t with otherLow := low } (0 + 1) := fun b => by have := inTime b; simp only; omega
    rw [hearRun_succ, sample_other level counted, if_neg (by omega), timed_of_inTime early, thenHear_none]
    obtain ⟨o, h⟩ := ih (t := { t with otherLow := low, run := t.run + 1, quiet := t.quiet + 1, other := t.other + 1 }) level
      (.inr rfl) (by simp only; omega) (fun b => by have := inTime b; simp only; omega)
    refine ⟨o, h.trans ?_⟩
    simp only [Nat.add_sub_add_right]
    cases low <;> simp [Trunk.accept, level]

/-- An edge at a settled level is accepted at the debounce count (R186). -/
theorem hearRun_edge {low : Bool} (count : 1 ≤ n) (level : t.low = some (!low)) (settled : t.other = 0) (inTime : InTime t (n - 1)) :
    ∃ o, t.hearRun n own low n = ({ t with otherLow := o }).accept own low t.run n := by
  obtain ⟨o, h⟩ := hearRun_rest (n := n) (own := own) (m := n - 1) level (.inl settled) (by omega) inTime
  rw [Nat.sub_add_cancel count, settled] at h
  exact ⟨o, h⟩

theorem hearRun_falls (count : 1 ≤ n) (level : t.low = some false) (settled : t.other = 0) (inTime : InTime t (n - 1)) :
    ∃ o, t.hearRun n own true n = (atLevel t.dipStart true n 0 o, none) := by
  obtain ⟨o, edge⟩ := hearRun_edge (own := own) (low := true) count level settled inTime
  refine ⟨o, edge.trans ?_⟩
  simp only [Trunk.accept, level, Trunk.dipStart, atLevel]
  split <;> simp_all

theorem hearRun_rises (count : 1 ≤ n) (level : t.low = some true) (settled : t.other = 0) (inTime : InTime t (n - 1)) :
    ∃ o, t.hearRun n own false n = (atLevel t false n 0 o).dipEnd own t.run := by
  obtain ⟨o, edge⟩ := hearRun_edge (own := own) (low := false) count level settled inTime
  refine ⟨o, edge.trans ?_⟩
  simp only [Trunk.accept, level, atLevel]

/-! ### A dip -/

/-- A dip without its timing: the falling edge, and the rising edge that ends it (R186, R187). -/
def dip (own : Byte) (len : Nat) (t : Trunk) : Trunk × Option Frame := t.dipStart.dipEnd own len

/-- What was heard, by a receiver at a level. -/
def heardAt (r : Trunk × Option Frame) (low : Bool) (run quiet : Nat) (o : Bool) : Trunk × Option Frame :=
  (atLevel r.1 low run quiet o, r.2)

section
variable (t : Trunk) (low : Bool) (run quiet : Nat) (o : Bool)

theorem dipStart_atLevel : (atLevel t low run quiet o).dipStart = atLevel t.dipStart low run quiet o := by
  unfold Trunk.dipStart
  split <;> simp_all [atLevel]

theorem bodyByte_atLevel (b : Byte) :
    (atLevel t low run quiet o).bodyByte own b = atLevel (t.bodyByte own b) low run quiet o := by
  simp only [Trunk.bodyByte, apply_ite (atLevel · low run quiet o)]
  rfl

theorem checkByte_atLevel (b : Byte) :
    (atLevel t low run quiet o).checkByte b = heardAt (t.checkByte b) low run quiet o := by
  simp only [Trunk.checkByte, apply_ite (heardAt · low run quiet o)]
  rfl

theorem addBit_atLevel (b : Bool) :
    (atLevel t low run quiet o).addBit own b = heardAt (t.addBit own b) low run quiet o := by
  simp only [Trunk.addBit, apply_ite (heardAt · low run quiet o), bodyByte_atLevel, checkByte_atLevel]
  rfl

theorem dipEnd_atLevel (len : Nat) :
    (atLevel t low run quiet o).dipEnd own len = heardAt (t.dipEnd own len) low run quiet o := by
  have rx : (atLevel t low run quiet o).rx = t.rx := rfl
  unfold Trunk.dipEnd
  rw [rx]
  cases t.rx <;> simp only [addBit_atLevel]
  case sync => split <;> rfl
  case body | check => split <;> rfl
  all_goals rfl

/-- What a dip does to the receiver does not go by the level and its counts. -/
theorem dip_atLevel (len : Nat) : dip own len (atLevel t low run quiet o) = heardAt (dip own len t) low run quiet o := by
  rw [dip, dipStart_atLevel, dipEnd_atLevel, dip]

end

/-- The states in which an edge may come that starts a dip (R187). -/
def Listens (t : Trunk) : Prop := t.rx = .idle ∨ t.rx = .body ∨ t.rx = .check

/-- A receiver that a dip may come to: the feed is high and settled, and a frame is not yet late at the next edge (R187, log 19). -/
structure Waits (n : Nat) (t : Trunk) : Prop where
  level : t.low = some false
  settled : t.other = 0
  listens : Listens t
  inTime : t.rx = .body ∨ t.rx = .check → t.quiet + n ≤ Config.timeoutSamples

theorem samples_of_listens (h : Listens t) : Samples t := h.imp_right .inr

/-- A falling edge in IDLE enters SYNC, and in BODY and CHECK nothing (R187). -/
theorem dipStart_rx (t : Trunk) : t.dipStart.rx = if t.rx = .idle then .sync else t.rx := by
  unfold Trunk.dipStart
  split <;> rfl

theorem samples_of_dipStart (h : Listens t) : Samples t.dipStart := by
  unfold Samples
  rw [dipStart_rx]
  obtain h | h | h := h <;> simp [h]

/-- In a dip there is time for `k` samples if the dip comes out of IDLE, or if `k` is less than 48 (R187). -/
theorem inTime_dip {k quiet : Nat} {o : Bool} {run : Nat} (short : t.rx = .idle ∨ quiet + k < Config.timeoutSamples) :
    InTime (atLevel t.dipStart true run quiet o) k := by
  intro b
  refine short.resolve_left (fun idle => ?_)
  have rx : (atLevel t.dipStart true run quiet o).rx = .sync := (dipStart_rx t).trans (if_pos idle)
  simp [rx] at b

/-- The low run of a dip: its falling edge is accepted, and the dip's samples are counted. -/
theorem hearRun_low {len : Nat} (count : 1 ≤ n) (waits : Waits n t) (seen : n ≤ len)
    (short : t.rx = .idle ∨ len ≤ Config.timeoutSamples) :
    ∃ o, t.hearRun n own true len = (atLevel t.dipStart true len (len - n) o, none) := by
  obtain ⟨o, edge⟩ := hearRun_falls (own := own) count waits.level waits.settled (fun b => by have := waits.inTime b; omega)
  obtain ⟨k, rfl⟩ := Nat.exists_eq_add_of_le seen
  refine ⟨o, ?_⟩
  rw [hearRun_add, edge, thenHear_none, hearRun_level rfl rfl (inTime_dip (short.imp_right (fun h => by omega))),
    Nat.add_sub_cancel_left]
  simp [atLevel]

/-- The high run of a gap: its rising edge ends the dip, and what is left of the gap only counts. -/
theorem hearRun_high {len gap quiet : Nat} {o : Bool} (count : 1 ≤ n) (short : t.rx = .idle ∨ quiet + n ≤ Config.timeoutSamples)
    (seen : n ≤ gap) (inTime : gap ≤ Config.timeoutSamples) :
    ∃ o', (atLevel t.dipStart true len quiet o).hearRun n own false gap =
      thenHear (heardAt (dip own len t) false n 0 o') (fun u => (atLevel u false gap (gap - n) o', none)) := by
  obtain ⟨o', edge⟩ := hearRun_rises (own := own) (t := atLevel t.dipStart true len quiet o) count rfl rfl
    (inTime_dip (short.imp_right (fun h => by omega)))
  obtain ⟨k, rfl⟩ := Nat.exists_eq_add_of_le seen
  refine ⟨o', ?_⟩
  have ends : (atLevel (atLevel t.dipStart true len quiet o) false n 0 o').dipEnd own len = heardAt (dip own len t) false n 0 o' :=
    dipEnd_atLevel t.dipStart false n 0 o' len
  rw [hearRun_add, edge, show (atLevel t.dipStart true len quiet o).run = len from rfl, ends, Nat.add_sub_cancel_left]
  obtain ⟨u, _ | fr⟩ := dip own len t
  · have late : InTime (atLevel u false n 0 o') k := fun _ => by simp only [atLevel]; omega
    refine (hearRun_level rfl rfl late).trans ?_
    simp [atLevel, heardAt]
  · rfl

/-- A dip and its gap, heard: what the dip does without its timing, and then the rest of the feed. -/
theorem hear_dip {len gap : Nat} (count : 1 ≤ n) (waits : Waits n t) (seen : n ≤ len)
    (short : t.rx = .idle ∨ len ≤ Config.timeoutSamples) (seenGap : n ≤ gap) (shortGap : gap ≤ Config.timeoutSamples) (rest : Feed) :
    ∃ o, Trunk.hear n own (dipFeed len gap ++ rest) t =
      thenHear (heardAt (dip own len t) false n 0 o) (fun u => Trunk.hear n own rest (atLevel u false gap (gap - n) o)) := by
  obtain ⟨o₁, low⟩ := hearRun_low (own := own) count waits seen short
  obtain ⟨o, high⟩ := hearRun_high (own := own) (len := len) (quiet := len - n) (o := o₁) count
    (short.imp_right (fun h => by omega)) seenGap shortGap
  refine ⟨o, ?_⟩
  have again : Samples (atLevel t.dipStart true len (len - n) o₁) := samples_of_dipStart waits.listens
  rw [dipFeed, List.cons_append, List.cons_append, List.nil_append, hear_cons _ _ (samples_of_listens waits.listens)]
  simp only [low, thenHear_none, hear_cons _ _ again, high, thenHear_assoc]

/-! ### The dips of a feed -/

/-- Dips without their timing, up to the frame that is taken in them. -/
def dips (own : Byte) : List Nat → Trunk → Trunk × Option Frame
  | [], t => (t, none)
  | len :: lens, t => thenHear (dip own len t) (dips own lens)

theorem dips_append (as bs : List Nat) (t : Trunk) : dips own (as ++ bs) t = thenHear (dips own as t) (dips own bs) := by
  induction as generalizing t with
  | nil => rfl
  | cons a as ih => rw [List.cons_append, dips, dips, thenHear_assoc, funext ih]

/-- What dips do to the receiver does not go by the level and its counts. -/
theorem dips_atLevel (lens : List Nat) (t : Trunk) (low : Bool) (run quiet : Nat) (o : Bool) :
    dips own lens (atLevel t low run quiet o) = heardAt (dips own lens t) low run quiet o := by
  induction lens generalizing t with
  | nil => rfl
  | cons len lens ih =>
    rw [dips, dips, dip_atLevel]
    obtain ⟨u, _ | fr⟩ := dip own len t
    · exact ih u
    · rfl

/-- A dip out of IDLE: the sync dip of a frame, or nothing (R187). -/
theorem dip_idle (idle : t.rx = .idle) (len : Nat) :
    dip own len t = (if Config.syncDip ≤ len then t.begun else t.dropped, none) := by
  rw [dip, Trunk.dipStart, if_pos idle]
  rfl

/-- A dip in BODY or CHECK: a sync dip starts a new frame, and any other is a bit (R187). -/
theorem dip_frame (inFrame : t.rx = .body ∨ t.rx = .check) (len : Nat) :
    dip own len t = if Config.syncDip ≤ len then (t.begun, none) else t.addBit own (decide (Config.oneDip ≤ len)) := by
  rw [dip, Trunk.dipStart, if_neg (by intro idle; simp [idle] at inFrame)]
  unfold Trunk.dipEnd
  obtain h | h := inFrame <;> rw [h]

/-- A byte of the body leaves IDLE, BODY or CHECK (R187). -/
theorem bodyByte_listens (h : t.rx = .body) (b : Byte) : Listens (t.bodyByte own b) := by
  simp only [Trunk.bodyByte, Listens]
  split_ifs <;> simp [Trunk.dropped, h]

/-- A check byte with which no frame is taken drops it (R188). -/
theorem checkByte_none {u : Trunk} {b : Byte} (untaken : t.checkByte b = (u, none)) : u = t.dropped := by
  unfold Trunk.checkByte at untaken
  split at untaken
  · cases untaken
  · exact (congrArg Prod.fst untaken).symm

theorem addBit_listens {u : Trunk} (inFrame : t.rx = .body ∨ t.rx = .check) {b : Bool} (untaken : t.addBit own b = (u, none)) :
    Listens u := by
  simp only [Trunk.addBit] at untaken
  split at untaken
  · cases untaken
    exact .inr inFrame
  · split at untaken
    · rw [checkByte_none untaken]
      exact .inl rfl
    · next check =>
      cases untaken
      exact bodyByte_listens (inFrame.resolve_right check) _

/-- A dip in which no frame is taken leaves a receiver that listens (R187). -/
theorem dip_listens {u : Trunk} {len : Nat} (h : Listens t) (untaken : dip own len t = (u, none)) :
    Listens u := by
  obtain idle | inFrame := h
  · rw [dip_idle idle] at untaken
    cases untaken
    split
    · exact .inr (.inl rfl)
    · exact .inl rfl
  · rw [dip_frame inFrame] at untaken
    split at untaken
    · cases untaken
      exact .inr (.inl rfl)
    · exact addBit_listens inFrame untaken

/-- A feed of dips at one gap is heard as the dips without their timing: no dip is too short to be seen, and none but a first one out
of IDLE is so long that a frame is dropped in it. -/
theorem hear_dips {gap : Nat} (count : 1 ≤ n) (seenGap : n ≤ gap) (shortGap : gap ≤ Config.timeoutSamples) (lens : List Nat)
    (seen : ∀ len ∈ lens, n ≤ len) (first : t.rx = .idle ∨ ∀ len ∈ lens.head?, len ≤ Config.timeoutSamples)
    (later : ∀ len ∈ lens.tail, len ≤ Config.timeoutSamples) (waits : Waits n t) :
    ∃ run quiet o, Trunk.hear n own (lens.flatMap (dipFeed · gap)) t = heardAt (dips own lens t) false run quiet o := by
  induction lens generalizing t with
  | nil =>
    refine ⟨t.run, t.quiet, t.otherLow, ?_⟩
    obtain ⟨level, settled, _, _⟩ := waits
    cases t; cases level; cases settled; rfl
  | cons len lens ih =>
    obtain ⟨o, heard⟩ := hear_dip (own := own) (len := len) count waits (seen len List.mem_cons_self)
      (first.imp_right (fun h => h len rfl)) seenGap shortGap (lens.flatMap (dipFeed · gap))
    rw [List.flatMap_cons, heard, dips]
    cases h : dip own len t with | mk u taken => cases taken with
    | some fr => exact ⟨n, 0, o, rfl⟩
    | none =>
      have waits' : Waits n (atLevel u false gap (gap - n) o) :=
        ⟨rfl, rfl, (dip_listens waits.listens h :), fun _ => by simp only [atLevel]; omega⟩
      obtain ⟨run, quiet, o', rest⟩ := ih (t := atLevel u false gap (gap - n) o) (fun l hl => seen l (List.mem_cons_of_mem _ hl))
        (.inr (fun l hl => later l (List.mem_of_mem_head? hl))) (fun l hl => later l (List.mem_of_mem_tail hl)) waits'
      exact ⟨run, quiet, o', rest.trans (by rw [dips_atLevel]; rfl)⟩

end Sys2Proof.Machine.TrunkLink
end

section
/-! PROOFS. What the receiver makes of a frame's dips (R186 to R188): the bits of a byte, the bytes of the body, and the check byte; the
frames that are taken and those that are dropped. -/

namespace Sys2Proof.Machine.TrunkLink

open Sys2Proof Sys2Proof.Machine

variable {n : Nat} {own : Byte} {t : Trunk}

/-! ### The dips of a byte -/

/-- The dip of a bit (R186). -/
def bitDip (d : DipTiming) (b : Bool) : Nat := if b then d.one else d.zero

/-- The dips of a byte, most significant bit first (R186). -/
def byteDips (d : DipTiming) (b : Byte) : List Nat := (List.range 8).map (fun i => bitDip d (b.getLsbD (7 - i)))

theorem byteFeed_eq_dips (d : DipTiming) (b : Byte) : byteFeed d b = (byteDips d b).flatMap (dipFeed · d.gap) := by
  rw [byteDips, List.flatMap_map]
  rfl

/-- The dips of a sync and of the bytes after it (R187). -/
def frameDips (d : DipTiming) (bs : Bytes) : List Nat := d.sync :: bs.flatMap (byteDips d)

theorem feed_eq_frameDips (d : DipTiming) (bs : Bytes) :
    dipFeed d.sync d.gap ++ bs.flatMap (byteFeed d) = (frameDips d bs).flatMap (dipFeed · d.gap) := by
  rw [frameDips, List.flatMap_cons, List.flatMap_assoc, funext (byteFeed_eq_dips d)]

section
variable {d : DipTiming} (seen : d.seen n)
include seen

/-- A bit's dip is long enough to be seen, is no sync dip, and reads as the bit (R186). -/
theorem bitDip_reads (b : Bool) : n ≤ bitDip d b ∧ bitDip d b < Config.syncDip ∧ decide (Config.oneDip ≤ bitDip d b) = b := by
  obtain ⟨zero, short, one, long, _, _, _⟩ := seen
  have : Config.oneDip < Config.syncDip := by decide
  cases b
  · exact ⟨zero, (by omega : d.zero < Config.syncDip), decide_eq_false (by omega : ¬ Config.oneDip ≤ d.zero)⟩
  · exact ⟨(by omega : n ≤ d.one), long, decide_eq_true one⟩

theorem frameDips_long {bs : Bytes} {len : Nat} (h : len ∈ frameDips d bs) : n ≤ len := by
  obtain _ | ⟨_, h⟩ := h
  · obtain ⟨zero, short, one, long, sync, _, _⟩ := seen
    omega
  · obtain ⟨b, _, hb⟩ := List.mem_flatMap.mp h
    obtain ⟨i, _, rfl⟩ := List.mem_map.mp hb
    exact (bitDip_reads seen _).1

theorem byteDips_short {bs : Bytes} {len : Nat} (h : len ∈ bs.flatMap (byteDips d)) : len < Config.syncDip := by
  obtain ⟨b, _, hb⟩ := List.mem_flatMap.mp h
  obtain ⟨i, _, rfl⟩ := List.mem_map.mp hb
  exact (bitDip_reads seen _).2.1

/-- A sync and the bytes after it, heard by a receiver at rest: their dips without the timing. -/
theorem hear_frameDips (count : 1 ≤ n) (rest : t.atRest) (bs : Bytes) :
    ∃ run quiet o, Trunk.hear n own (dipFeed d.sync d.gap ++ bs.flatMap (byteFeed d)) t =
      heardAt (dips own (frameDips d bs) t) false run quiet o := by
  obtain ⟨idle, level, settled⟩ := rest
  have waits : Waits n t := ⟨level, settled, .inl idle, fun b => by simp [idle] at b⟩
  have later : ∀ len ∈ (frameDips d bs).tail, len ≤ Config.timeoutSamples := fun len h =>
    (byteDips_short seen h).le.trans (by decide)
  obtain ⟨_, _, _, _, _, seenGap, shortGap⟩ := id seen
  rw [feed_eq_frameDips]
  exact hear_dips count seenGap shortGap _ (fun _ h => frameDips_long seen h) (.inl idle) later waits

end

/-! ### A byte -/

/-- A receiver with the first `k` bits of a byte. -/
def withBits (t : Trunk) (b : Byte) (k : Nat) : Trunk := { t with bits := b >>> (8 - k), bitCount := k }

/-- The next bit shifted in under the bits that are there. -/
theorem shiftIn_bit (b : Byte) {k : Nat} (h : k < 8) :
    ((b >>> (8 - k)) <<< 1) ||| (if b.getLsbD (7 - k) then 1 else 0) = b >>> (8 - (k + 1)) := by
  apply BitVec.eq_of_getLsbD_eq
  intro i inside
  rw [BitVec.getLsbD_or]
  cases i with
  | zero => cases bit : b.getLsbD (7 - k) <;> simp [bit]
  | succ i =>
    have low : (if b.getLsbD (7 - k) then (1 : Byte) else 0).getLsbD (i + 1) = false := by split <;> simp
    have place : 8 - k + i = 8 - (k + 1) + (i + 1) := by omega
    rw [low]
    simp [place, inside]

theorem addBit_withBits (b : Byte) {k : Nat} (h : k < 7) :
    (withBits t b k).addBit own (b.getLsbD (7 - k)) = (withBits t b (k + 1), none) := by
  have more : k + 1 < 8 := by omega
  simp only [Trunk.addBit, withBits, more, if_true, shiftIn_bit b (by omega : k < 8)]

/-- A byte complete (R187, R188). -/
def byteEnd (own : Byte) (t : Trunk) (b : Byte) : Trunk × Option Frame :=
  if t.rx = .check then t.checkByte b else (t.bodyByte own b, none)

theorem addBit_last (b : Byte) : (withBits t b 7).addBit own (b.getLsbD (7 - 7)) = byteEnd own t b := by
  simp only [Trunk.addBit, withBits, shiftIn_bit b (by omega : 7 < 8), Nat.lt_irrefl, if_false, Nat.sub_self,
    BitVec.ushiftRight_zero]
  rfl

/-- A receiver in a frame, at the start of a byte (R187). -/
structure AtByte (t : Trunk) : Prop where
  inFrame : t.rx = .body ∨ t.rx = .check
  bits : t.bits = 0
  bitCount : t.bitCount = 0

section
variable {d : DipTiming} (seen : d.seen n)
include seen

/-- A bit's dip in a frame (R186). -/
theorem dip_bit (inFrame : t.rx = .body ∨ t.rx = .check) (b : Bool) : dip own (bitDip d b) t = t.addBit own b := by
  obtain ⟨_, short, reads⟩ := bitDip_reads seen b
  rw [dip_frame inFrame, if_neg (by omega), reads]

/-- The first dips of a byte. -/
theorem dips_bits (start : AtByte t) (b : Byte) {k : Nat} (h : k ≤ 7) :
    dips own ((List.range k).map (fun i => bitDip d (b.getLsbD (7 - i)))) t = (withBits t b k, none) := by
  induction k with
  | zero =>
    obtain ⟨_, bits, bitCount⟩ := start
    have empty : b >>> (8 - 0) = t.bits := by rw [bits]; exact BitVec.ushiftRight_eq_zero le_rfl
    rw [withBits, empty]
    cases t
    cases bitCount
    rfl
  | succ k ih =>
    rw [List.range_succ, List.map_append, dips_append, ih (by omega), thenHear_none, List.map_singleton, dips,
      dip_bit seen (by exact start.inFrame), addBit_withBits b (by omega)]
    rfl

/-- The eight dips of a byte complete it (R186). -/
theorem dips_byte (start : AtByte t) (b : Byte) : dips own (byteDips d b) t = byteEnd own t b := by
  rw [byteDips, List.range_succ, List.map_append, dips_append, dips_bits seen start b le_rfl, thenHear_none, List.map_singleton, dips,
    dip_bit seen (by exact start.inFrame), addBit_last]
  exact thenHear_nothing _

end

/-! ### The body of a frame -/

/-- The bytes of a frame that its check byte covers (R188, R202). -/
def bodyBytes (fr : Frame) : Bytes := fr.address :: fr.kind :: byteOf fr.data.length :: fr.data

theorem frameBytes_eq (fr : Frame) : frameBytes fr = bodyBytes fr ++ [crc8 (bodyBytes fr)] := rfl

theorem byteOf_toNat {k : Nat} (h : k < 256) : (byteOf k).toNat = k := by
  rw [byteOf, BitVec.toNat_ofNat]
  exact Nat.mod_eq_of_lt h

/-- A receiver with the bytes of a body heard so far. -/
def withBody (t : Trunk) (rx : RxState) (bs : Bytes) : Trunk := { t with rx := rx, frame := bs, bits := 0, bitCount := 0 }

theorem withBody_atByte (rx : RxState) (h : rx = .body ∨ rx = .check) (bs : Bytes) : AtByte (withBody t rx bs) := ⟨h, rfl, rfl⟩

/-- A byte of the body that passes its check is kept, and the last leads to CHECK (R187). -/
theorem bodyByte_keeps {before : Bytes} {b : Byte} (address : before = [] → b = 0 ∨ b = own)
    (length : before.length = 2 → b.toNat ≤ 8) :
    (withBody t .body before).bodyByte own b =
      withBody t (if 3 ≤ (before ++ [b]).length ∧ (before ++ [b]).length = 3 + num (before ++ [b]) 2 then .check else .body)
        (before ++ [b]) := by
  unfold Trunk.bodyByte
  have kept : (withBody t .body before).frame = before := rfl
  simp only [kept]
  by_cases first : (before ++ [b]).length = 1
  · rw [if_pos first, if_pos (address (by simpa using first)), if_neg (by omega)]
    rfl
  · have third : ¬ ((before ++ [b]).length = 3 ∧ 8 < b.toNat) := by
      rintro ⟨three, long⟩
      have := length (by simpa using three)
      omega
    rw [if_neg first, if_neg third]
    split <;> rfl

/-- A prefix of a frame's body is the whole exactly when its length byte says so. -/
theorem wholeBody_iff {fr : Frame} (short : fr.data.length ≤ 8) {bs rest : Bytes} (body : bs ++ rest = bodyBytes fr) :
    (3 ≤ bs.length ∧ bs.length = 3 + num bs 2) ↔ rest = [] := by
  have total : bs.length + rest.length = 3 + fr.data.length := by
    rw [← List.length_append, body, bodyBytes]
    simp only [List.length_cons]
    omega
  have lengthByte : 3 ≤ bs.length → num bs 2 = fr.data.length := fun three => by
    rw [num, ← List.getD_append bs rest 0 2 three, body]
    exact byteOf_toNat (by omega)
  rw [← List.length_eq_zero_iff]
  constructor
  · rintro ⟨three, all⟩
    have := lengthByte three
    omega
  · intro done
    have three : 3 ≤ bs.length := by omega
    exact ⟨three, by rw [lengthByte three]; omega⟩

/-- A byte of a body for this receiver is kept, and the last one leads to CHECK (R187). -/
theorem bodyByte_takes {fr : Frame} (mine : fr.address = 0 ∨ fr.address = own) (short : fr.data.length ≤ 8) {before rest : Bytes}
    {b : Byte} (body : before ++ b :: rest = bodyBytes fr) :
    (withBody t .body before).bodyByte own b = withBody t (if rest = [] then .check else .body) (before ++ [b]) := by
  have address : before = [] → b = 0 ∨ b = own := by
    rintro rfl
    cases body
    exact mine
  have length : before.length = 2 → b.toNat ≤ 8 := fun two => by
    have third : b = byteOf fr.data.length := by
      have := congrArg (·.getD 2 0) body
      simpa [two, bodyBytes] using this
    rw [third, byteOf_toNat (by omega)]
    exact short
  rw [bodyByte_keeps address length]
  simp only [wholeBody_iff short (by rw [List.append_cons] at body; exact body)]

section
variable {d : DipTiming} (seen : d.seen n)
include seen

/-- The sync dip of a frame begins its body (R187). -/
theorem dip_sync (idle : t.rx = .idle) : dip own d.sync t = (withBody t .body [], none) := by
  obtain ⟨_, _, _, _, sync, _, _⟩ := seen
  rw [dip_idle idle, if_pos sync]
  rfl

/-- The dips of the bytes that are left of a body. -/
theorem dips_body {fr : Frame} (mine : fr.address = 0 ∨ fr.address = own) (short : fr.data.length ≤ 8) {before rest : Bytes} {b : Byte}
    (body : before ++ b :: rest = bodyBytes fr) :
    dips own ((b :: rest).flatMap (byteDips d)) (withBody t .body before) = (withBody t .check (bodyBytes fr), none) := by
  induction rest generalizing before b with
  | nil =>
    rw [List.flatMap_cons, List.flatMap_nil, List.append_nil, dips_byte seen (withBody_atByte _ (.inl rfl) _), byteEnd, if_neg nofun,
      bodyByte_takes mine short body, body]
    rfl
  | cons c rest ih =>
    rw [List.flatMap_cons, dips_append, dips_byte seen (withBody_atByte _ (.inl rfl) _), byteEnd, if_neg nofun,
      bodyByte_takes mine short body, thenHear_none]
    exact ih (by rw [← body, ← List.append_cons])

/-- A frame with an address of this receiver comes to its check byte with the whole of its body (R187, R188). -/
theorem dips_frame {fr : Frame} (mine : fr.address = 0 ∨ fr.address = own) (short : fr.data.length ≤ 8) (idle : t.rx = .idle)
    (check : Byte) :
    dips own (frameDips d (bodyBytes fr ++ [check])) t = (withBody t .check (bodyBytes fr)).checkByte check := by
  have body := dips_body (t := t) seen mine short (before := []) (b := fr.address) rfl
  rw [frameDips, dips, dip_sync seen idle, thenHear_none, List.flatMap_append, dips_append]
  refine (congrArg (thenHear · _) body).trans ?_
  rw [thenHear_none, List.flatMap_singleton, dips_byte seen (withBody_atByte _ (.inr rfl) _)]
  exact if_pos rfl

end

/-! ### The check byte -/

theorem address_zero_iff (fr : Frame) : num (bodyBytes fr) 0 = 0 ↔ fr.address = 0 :=
  (BitVec.toNat_eq (x := fr.address) (y := 0)).symm

/-- The check byte that agrees: the frame is taken as it was sent (R188). -/
theorem checkByte_agrees (fr : Frame) : (withBody t .check (bodyBytes fr)).checkByte (crc8 (bodyBytes fr)) =
    (withBody t (if fr.address = 0 then .idle else .turnaround) (bodyBytes fr), some fr) := by
  simp only [← address_zero_iff]
  exact if_pos rfl

/-- Any other check byte: the frame is dropped (R188). -/
theorem checkByte_differs {fr : Frame} {check : Byte} (differs : check ≠ crc8 (bodyBytes fr)) :
    (withBody t .check (bodyBytes fr)).checkByte check = (withBody t .idle [], none) :=
  if_neg differs.symm

/-- Settles O9: the feed is heard as its dips, the dips are the bytes of the body and the check byte, and the check byte agrees. -/
theorem sentFrameIsTaken : Obligations.SentFrameIsTaken := by
  intro n own d fr tr count rest seen mine short
  obtain ⟨run, quiet, o, heard⟩ := hear_frameDips (own := own) seen count rest (frameBytes fr)
  rw [frameBytes_eq, dips_frame seen mine short rest.1, checkByte_agrees] at heard
  exact ⟨_, heard, rfl, rfl, rfl⟩

/-! ### Frames that are dropped -/

/-- The first byte of a frame for another address drops it (R187). -/
theorem bodyByte_refuses {b : Byte} (broadcast : b ≠ 0) (other : b ≠ own) :
    (withBody t .body []).bodyByte own b = withBody t .idle [] :=
  if_neg (not_or.mpr ⟨broadcast, other⟩)

/-- Dips that are not sync dips leave a receiver in IDLE there (R187). -/
theorem dips_idle {lens : List Nat} (short : ∀ len ∈ lens, len < Config.syncDip) (idle : t.rx = .idle) :
    ∃ u, dips own lens t = (u, none) ∧ u.rx = .idle := by
  induction lens generalizing t with
  | nil => exact ⟨t, rfl, idle⟩
  | cons len lens ih =>
    have noSync : ¬ Config.syncDip ≤ len := Nat.not_le_of_lt (short len List.mem_cons_self)
    rw [dips, dip_idle idle, if_neg noSync, thenHear_none]
    exact ih (fun l hl => short l (List.mem_cons_of_mem _ hl)) rfl

/-- A frame for another address is dropped at its first byte, and the rest of it is not heard as a frame (R187). -/
theorem dips_otherFrame {d : DipTiming} (seen : d.seen n) {address : Byte} (broadcast : address ≠ 0) (other : address ≠ own)
    (idle : t.rx = .idle) (bs : Bytes) : ∃ u, dips own (frameDips d (address :: bs)) t = (u, none) ∧ u.rx = .idle := by
  obtain ⟨u, rest, unheard⟩ := dips_idle (own := own) (t := withBody t .idle []) (fun _ h => byteDips_short (bs := bs) seen h) rfl
  refine ⟨u, ?_, unheard⟩
  rw [frameDips, dips, dip_sync seen idle, thenHear_none, List.flatMap_cons, dips_append,
    dips_byte seen (withBody_atByte _ (.inl rfl) _), byteEnd, if_neg nofun, bodyByte_refuses broadcast other, thenHear_none, rest]

/-! ### The commands whose feed carries no frame -/

variable {s : State} {feed : Feed} {tr : Trunk}

theorem exec_trunkFrameDropped (heard : s.heard feed = (tr, none)) :
    exec (.trunkFrameDropped feed) s = .next { s with trunk := tr } := by
  show execTrunkFrameDropped feed s = _
  rw [execTrunkFrameDropped, heard]

theorem exec_trunkFrameTimeout (heard : s.heard feed = (tr, none)) : exec (.trunkFrameTimeout feed) s =
    .next { s with trunk := tr.still s.settings.debounce s.settings.address } := by
  show execTrunkFrameTimeout feed s = _
  rw [execTrunkFrameTimeout, heard]

/-- With no level accepted yet, none can be held. -/
theorem still_unknown (unknown : t.low = none) : t.still n own = t := by
  rw [Trunk.still, unknown]

theorem still_of_level {l : Bool} (level : t.low = some l) :
    t.still n own = (t.hear n own [⟨l, Config.timeoutSamples⟩]).1 := by
  rw [Trunk.still, level]

/-- 48 samples at the accepted level count in IDLE and SYNC (R187). -/
theorem still_counts {l : Bool} (level : t.low = some l) (rx : t.rx = .idle ∨ t.rx = .sync) :
    t.still n own = { t with run := t.run + 48, quiet := t.quiet + 48, other := 0 } := by
  have samples : Samples t := rx.imp_right .inl
  rw [still_of_level level]
  simp only [hear_cons _ _ samples, hearRun_still n own l _ t level rx]
  rfl

/-- 48 samples at the accepted level drop a frame in BODY and CHECK (R187). -/
theorem still_drops {l : Bool} (level : t.low = some l) (inFrame : t.rx = .body ∨ t.rx = .check) :
    t.still n own = { t.dropped with run := t.run + 48, quiet := t.quiet + 48, other := 0 } := by
  have samples : Samples t := .inr (.inr inFrame)
  rw [still_of_level level]
  simp only [hear_cons _ _ samples,
    hearRun_drops n own l Config.timeoutSamples t level inFrame (Nat.le_add_left ..) (by decide)]
  rfl

theorem still_deaf {l : Bool} (level : t.low = some l) (deaf : t.rx = .off ∨ t.rx = .turnaround ∨ t.rx = .reply) :
    t.still n own = t := by
  rw [still_of_level level]
  exact congrArg Prod.fst (hear_deaf _ deaf)

/-- Settles O10: an address of another pylon drops the frame at its first byte, a check byte that differs at its last, and a timeout
in BODY or CHECK where it stands. -/
theorem otherFramesAreDropped : Obligations.OtherFramesAreDropped := by
  refine ⟨?address, ?check, ?feed⟩
  case address =>
    intro n own d fr tr count rest seen broadcast other
    obtain ⟨run, quiet, o, heard⟩ := hear_frameDips (own := own) seen count rest (frameBytes fr)
    obtain ⟨u, dropped, idle⟩ := dips_otherFrame seen broadcast other rest.1 (fr.kind :: byteOf fr.data.length :: fr.data ++
      [crc8 (bodyBytes fr)])
    exact ⟨_, heard.trans (congrArg (heardAt · false run quiet o) dropped), idle⟩
  case check =>
    intro n own d fr check tr count rest seen mine short differs
    obtain ⟨run, quiet, o, heard⟩ := hear_frameDips (own := own) seen count rest (bodyBytes fr ++ [check])
    rw [dips_frame seen mine short rest.1, checkByte_differs differs] at heard
    exact ⟨_, heard, rfl⟩
  case feed =>
    intro s feed tr heard
    refine ⟨exec_trunkFrameDropped heard, fun unknown => ?_, fun l level => ⟨fun rx => ?_, fun inFrame => ?_, fun deaf => ?_⟩⟩
    · rw [exec_trunkFrameTimeout heard, still_unknown unknown]
    · rw [exec_trunkFrameTimeout heard, still_counts level rx]
    · rw [exec_trunkFrameTimeout heard, still_drops level inFrame]
      rfl
    · rw [exec_trunkFrameTimeout heard, still_deaf level deaf]

end Sys2Proof.Machine.TrunkLink
end

section
/-! PROOFS. The replies of the trunk link (R188, R190): how one is sent, and what its bytes and its check byte are. -/

namespace Sys2Proof.Machine.TrunkLink

open Sys2Proof Sys2Proof.Machine

variable {s : State}

/-! ### Sending -/

theorem loadSink_iff (s : State) : s.loadSink = true ↔ ∃ p rest, s.trunk.sink = p :: rest ∧ 0 < p.on := by
  unfold State.loadSink
  cases h : s.trunk.sink with
  | nil => simp
  | cons p rest => simp

/-- The turnaround's end, with a reply in the buffer: its pulses begin (R190). -/
theorem exec_turnaroundEnd {bs : Bytes} (waits : s.trunk.rx = .turnaround) (built : s.trunk.reply = some bs) :
    exec .turnaroundEnd s = .next { s with trunk := { s.trunk with rx := .reply, sink := replyPulses bs } } := by
  show execTurnaroundEnd s = _
  have pulses : s.trunk.reply.getD [] = bs := by rw [built]; rfl
  rw [execTurnaroundEnd, if_pos waits, State.modTrunk, pulses]

/-- A reply begins with its sync pulse, so LOADSINK is on (R190). -/
theorem loadSink_replyPulses {t : Trunk} {bs : Bytes} (pulses : t.sink = replyPulses bs) :
    State.loadSink { s with trunk := t } = true :=
  (loadSink_iff _).mpr ⟨⟨8, 4⟩, _, pulses, by decide⟩

/-- The receiver after a reply: IDLE, with nothing kept and no level accepted (R190; logs 19, 36). -/
def replySent (t : Trunk) : Trunk :=
  { t.dropped with low := none, run := 0, quiet := 0, otherLow := false, other := 0, reply := none, sink := [] }

theorem exec_replyEnd (sends : s.trunk.rx = .reply) : exec .replyEnd s = .next { s with trunk := replySent s.trunk } := by
  show execReplyEnd s = _
  rw [execReplyEnd, if_pos sends]
  rfl

theorem loadSink_replySent : State.loadSink { s with trunk := replySent s.trunk } = false := rfl

/-! ### The bytes of a reply -/

theorem bytes_eq {kind : Byte} {data : Bytes} {r : TrunkReply} (parts : r.parts = (kind, data)) :
    r.bytes = kind :: byteOf data.length :: data ++ [crc8 (kind :: byteOf data.length :: data)] := by
  rw [TrunkReply.bytes, parts]

theorem crc8_append (bs : Bytes) (b : Byte) : crc8 (bs ++ [b]) = crc8Byte (crc8 bs) b := by
  rw [crc8, List.foldl_append]
  rfl

/-- Settles O11: the two ends of a reply, its bytes by its kind, and its check byte as the register of R188 shifts it. -/
theorem replyIsSent : Obligations.ReplyIsSent := by
  refine ⟨fun s r waits built => ⟨exec_turnaroundEnd waits built, loadSink_replyPulses rfl⟩, loadSink_iff,
    fun s sends => ⟨_, exec_replyEnd sends, rfl, rfl, rfl, rfl, rfl, loadSink_replySent⟩,
    fun tag st => bytes_eq rfl, fun tag r => bytes_eq rfl, fun page => bytes_eq rfl, fun bs => rfl, rfl,
    fun bs b r start shifts => ?serial⟩
  case serial => rw [crc8_append, ← start, crc8Byte_serial b r shifts]

end Sys2Proof.Machine.TrunkLink
end

section
/-! PROOFS. POLL (R191, R202): the bytes of its pages, read from the state as it stands. -/

namespace Sys2Proof.Machine.TrunkLink

open Sys2Proof Sys2Proof.Machine Sys2Proof.Machine.UpdateTransactions Sys2Proof.Machine.EvacuationMode

/-! ### What a sparse store lists -/

variable {β : Type} {m : Sparse β} {d : β}

theorem read_of_mem (rising : m.Pairwise (fun c e => c.1 < e.1)) {c : Nat × β} (listed : c ∈ m) : Sparse.read d m c.1 = c.2 := by
  induction m with
  | nil => cases listed
  | cons e m ih =>
    obtain ⟨first, rest⟩ := List.pairwise_cons.mp rising
    rw [Sparse.read_cons]
    obtain _ | ⟨_, listed⟩ := listed
    · exact if_pos rfl
    · rw [if_neg (first c listed).ne]
      exact ih rest listed

theorem mem_of_read_ne {a : Nat} (other : Sparse.read d m a ≠ d) : (a, Sparse.read d m a) ∈ m := by
  induction m with
  | nil => exact absurd rfl other
  | cons e m ih =>
    obtain ⟨k, v⟩ := e
    rw [Sparse.read_cons] at other ⊢
    split at other
    · next here => rw [if_pos here, here]; exact List.mem_cons_self
    · next elsewhere => rw [if_neg elsewhere]; exact List.mem_cons_of_mem _ (ih other)

/-- In a canonical store the listed pairs with a property that the default has not are counted by reading the addresses one by one. -/
theorem countP_eq_countP_read [DecidableEq β] {p : β → Bool} {bound : Nat} (canonical : Sparse.wf d m = true) (unlisted : p d = false)
    (above : ∀ a, bound ≤ a → p (Sparse.read d m a) = false) :
    m.countP (fun c => p c.2) = (List.range bound).countP (fun a => p (Sparse.read d m a)) := by
  have rising : m.Pairwise (fun c e => c.1 < e.1) := by
    rw [Sparse.wf, Bool.and_eq_true] at canonical
    exact (Sparse.rising_iff m).mp canonical.1
  have nodup : ((m.filter (fun c => p c.2)).map Prod.fst).Nodup :=
    ((List.pairwise_map.mpr rising).imp Nat.ne_of_lt).sublist (List.filter_sublist.map _)
  have same : ∀ a, a ∈ (m.filter (fun c => p c.2)).map Prod.fst ↔ a ∈ (List.range bound).filter (fun a => p (Sparse.read d m a)) := by
    intro a
    simp only [List.mem_map, List.mem_filter, List.mem_range]
    constructor
    · rintro ⟨c, ⟨listed, holds⟩, rfl⟩
      rw [← read_of_mem (d := d) rising listed] at holds
      exact ⟨Nat.lt_of_not_le (fun h => by simp [above _ h] at holds), holds⟩
    · rintro ⟨_, holds⟩
      have other : Sparse.read d m a ≠ d := fun e => by simp [e, unlisted] at holds
      exact ⟨_, ⟨mem_of_read_ne other, holds⟩, rfl⟩
  have perm := (List.perm_ext_iff_of_nodup nodup (List.nodup_range.filter _)).mpr same
  rw [List.countP_eq_length_filter, List.countP_eq_length_filter, ← perm.length_eq, List.length_map]

/-! ### The enabled set -/

theorem getLsbD_setBit (b : Byte) (k i : Nat) (h : i < 8) : (b ||| (1#8 <<< k)).getLsbD i = (b.getLsbD i || decide (i = k)) := by
  have bit : (1#8 <<< k).getLsbD i = decide (i = k) := by
    simp only [BitVec.getLsbD_shiftLeft, BitVec.getLsbD_one, h, decide_true, Bool.true_and, Nat.zero_lt_succ]
    rw [Bool.eq_iff_iff]
    simp only [Bool.and_eq_true, Bool.not_eq_true', decide_eq_false_iff_not, decide_eq_true_eq]
    omega
  rw [BitVec.getLsbD_or, bit]

variable {s : State}

theorem getLsbD_foldl_setBit (s : State) (fs : List Face) (b : Byte) {i : Nat} (h : i < 8) :
    (fs.foldl (fun b f => if s.enabled f then b ||| (1#8 <<< f.val) else b) b).getLsbD i =
      (b.getLsbD i || fs.any (fun f => s.enabled f && decide (i = f.val))) := by
  induction fs generalizing b with
  | nil => simp
  | cons f fs ih =>
    rw [List.foldl_cons, ih, List.any_cons]
    cases s.enabled f
    · simp
    · simp [getLsbD_setBit b f.val i h, Bool.or_assoc]

/-- Bit `i` of the enabled set is that of face `i`, and the unused bits are 0 (R202, log 40). -/
theorem getLsbD_enabledSet (s : State) {i : Nat} (h : i < 8) :
    s.enabledSet.getLsbD i = if face : i < 4 then s.enabled ⟨i, face⟩ else false := by
  rw [State.enabledSet, getLsbD_foldl_setBit s _ _ h]
  have empty : (0 : Byte).getLsbD i = false := BitVec.getLsbD_zero
  rw [empty, Bool.false_or, Bool.eq_iff_iff]
  simp only [List.any_eq_true, List.mem_finRange, true_and, Bool.and_eq_true, decide_eq_true_eq]
  constructor
  · rintro ⟨f, on, rfl⟩
    simpa using on
  · intro on
    split at on
    · next face => exact ⟨⟨i, face⟩, on, rfl⟩
    · cases on

/-! ### The pages -/

variable {feed : Feed} {tr : Trunk} {fr : Frame}

theorem exec_pollFrame (feed : Feed) (s : State) :
    exec (.pollFrame feed) s = .next (s.trunkFrame feed (· == 0x06) (withLength 1 State.poll)) := rfl

/-- A page that there is, is answered, and nothing but the reply changes (R191). -/
theorem exec_pollFrame_answers {b : Byte} {page : Bytes} (heard : s.heard feed = (tr, some fr)) (kind : fr.kind = 0x06)
    (data : fr.data = [b]) (bytes : s.pollPage b.toNat = some page) :
    exec (.pollFrame feed) s = .next { s with trunk := tr.answered fr.address (.state page) } := by
  have mine : (fr.kind == 0x06) = true := by simp [kind]
  have answers : State.poll { s with trunk := tr } [b] = ({ s with trunk := tr }, .state page) := by
    have same : State.pollPage { s with trunk := tr } (num [b] 0) = some page := bytes
    rw [State.poll, same]
  rw [exec_pollFrame, trunkFrame_answers heard mine ((withLength_of_length _ (by rw [data]; rfl)).trans (data ▸ answers))]
  rfl

theorem exec_pollFrame_refuses {b : Byte} (heard : s.heard feed = (tr, some fr)) (kind : fr.kind = 0x06)
    (data : fr.data = [b]) (absent : s.pollPage b.toNat = none) :
    exec (.pollFrame feed) s = .next { s with trunk := tr.answered fr.address (.nak s.replyTag .range) } := by
  have mine : (fr.kind == 0x06) = true := by simp [kind]
  have refuses : State.poll { s with trunk := tr } [b] = State.nak { s with trunk := tr } .range := by
    have same : State.pollPage { s with trunk := tr } (num [b] 0) = none := absent
    rw [State.poll, same]
  rw [exec_pollFrame, trunkFrame_refuses heard mine ((withLength_of_length _ (by rw [data]; rfl)).trans (data ▸ refuses))]

theorem exec_pollFrame_length (heard : s.heard feed = (tr, some fr)) (kind : fr.kind = 0x06) (length : fr.data.length ≠ 1) :
    exec (.pollFrame feed) s = .next { s with trunk := tr.answered fr.address (.nak s.replyTag .format) } := by
  have mine : (fr.kind == 0x06) = true := by simp [kind]
  rw [exec_pollFrame, trunkFrame_refuses heard mine (withLength_of_ne _ length)]

/-- There is no page above 2 (R191). -/
theorem pollPage_above {page : Nat} (above : 2 < page) : s.pollPage page = none := by
  match page, above with
  | _ + 3, _ => rfl

/-- The templates and glyph pages that page 2 counts are the defined ones, in stores that are canonical and hold none above 63 (R191). -/
theorem pollCounts_eq (canonical : s.storesCanonical) (pages : ∀ p, 64 ≤ p → s.glyphPage p = none)
    (templates : ∀ k, 64 ≤ k → (s.template k).cells = none) :
    s.templates.table.countP (fun c => c.2.cells.isSome) = (List.range 64).countP (fun k => (s.template k).cells.isSome) ∧
    s.glyphs.pages.countP (fun c => c.2.isSome) = (List.range 64).countP (fun p => (s.glyphPage p).isSome) := by
  obtain ⟨_, _, _, ⟨glyphsCanonical, _⟩, ⟨tableCanonical, _⟩, _, _, _⟩ := canonical
  refine ⟨countP_eq_countP_read (p := fun c => c.cells.isSome) tableCanonical rfl (fun k above => ?_),
    countP_eq_countP_read (p := Option.isSome) glyphsCanonical rfl (fun p above => ?_)⟩
  · exact Option.isSome_eq_false_iff.mpr (Option.isNone_iff_eq_none.mpr (templates k above))
  · exact Option.isSome_eq_false_iff.mpr (Option.isNone_iff_eq_none.mpr (pages p above))

/-- Settles O25: the codes as R198 lists them, and each page as its row gives it. -/
theorem pollReadsItsPage : Obligations.PollReadsItsPage := by
  refine ⟨rfl, rfl, rfl, rfl, rfl, rfl, fun s feed tr fr heard kind => ⟨exec_pollFrame_length heard kind, fun data => ?page0,
    fun data => ?page1, fun data => ?page2, fun page data above => ?above⟩⟩
  case page0 => exact exec_pollFrame_answers heard kind data rfl
  case page1 => exact ⟨s.enabledSet, fun _ => getLsbD_enabledSet s, exec_pollFrame_answers heard kind data rfl⟩
  case page2 => exact ⟨_, _, pollCounts_eq, exec_pollFrame_answers heard kind data rfl⟩
  case above => exact exec_pollFrame_refuses heard kind data (pollPage_above above)

end Sys2Proof.Machine.TrunkLink
end

section
/-! PROOFS. The settings of a LOADED load (R193, R203): how the encoding of each byte is read, and the default of a byte out of range. -/

namespace Sys2Proof.Machine.Configuration

open Sys2Proof Sys2Proof.Machine

/-! ### A byte that names one of a list of values -/

theorem choose_of_above {values : List Nat} {b : Byte} (d : Nat) (above : values.length ≤ b.toNat) : choose values d b = d :=
  List.getD_eq_default _ _ above

theorem choose_three (v₀ v₁ v₂ d : Nat) (b : Byte) :
    choose [v₀, v₁, v₂] d b = if b = 0 then v₀ else if b = 1 then v₁ else if b = 2 then v₂ else d := by
  split_ifs with zero one two
  · rw [zero]; rfl
  · rw [one]; rfl
  · rw [two]; rfl
  · have above : 3 ≤ b.toNat := by bv_omega
    exact choose_of_above d above

theorem choose_four (v₀ v₁ v₂ v₃ d : Nat) (b : Byte) :
    choose [v₀, v₁, v₂, v₃] d b = if b = 0 then v₀ else if b = 1 then v₁ else if b = 2 then v₂ else if b = 3 then v₃ else d := by
  split_ifs with zero one two three
  · rw [zero]; rfl
  · rw [one]; rfl
  · rw [two]; rfl
  · rw [three]; rfl
  · have above : 4 ≤ b.toNat := by bv_omega
    exact choose_of_above d above

/-- Where a listed value is the default, its code needs no mention: the bit time. -/
theorem choose_three_default_second (v₀ d v₂ : Nat) (b : Byte) :
    choose [v₀, d, v₂] d b = if b = 0 then v₀ else if b = 2 then v₂ else d := by
  have second : (if b = 1 then d else if b = 2 then v₂ else d) = if b = 2 then v₂ else d :=
    ite_eq_right_iff.mpr (by rintro rfl; rfl)
  rw [choose_three, second]

/-- As `choose_three_default_second`: the language cycle period. -/
theorem choose_four_default_second (v₀ d v₂ v₃ : Nat) (b : Byte) :
    choose [v₀, d, v₂, v₃] d b = if b = 0 then v₀ else if b = 2 then v₂ else if b = 3 then v₃ else d := by
  have second : (if b = 1 then d else if b = 2 then v₂ else if b = 3 then v₃ else d) =
      if b = 2 then v₂ else if b = 3 then v₃ else d := ite_eq_right_iff.mpr (by rintro rfl; rfl)
  rw [choose_four, second]

/-- As `choose_three_default_second`: the pulse time and the recovery window. -/
theorem choose_four_default_third (v₀ v₁ d v₃ : Nat) (b : Byte) :
    choose [v₀, v₁, d, v₃] d b = if b = 0 then v₀ else if b = 1 then v₁ else if b = 3 then v₃ else d := by
  have third : (if b = 2 then d else if b = 3 then v₃ else d) = if b = 3 then v₃ else d :=
    ite_eq_right_iff.mpr (by rintro rfl; rfl)
  rw [choose_four, third]

/-! ### The settings of a face -/

/-- The two bits of a face are the digit of the byte in base 4 that has the face's number. -/
theorem faceBits_val (b : Byte) (f : Face) : (faceBits b f).val = b.toNat / 4 ^ f.val % 4 := by
  have digit : 2 ^ (2 * f.val) = 4 ^ f.val := pow_mul 2 2 f.val
  calc (faceBits b f).val = (b.toNat >>> (2 * f.val)) % 2 ^ 2 := BitVec.extractLsb'_toNat ..
    _ = b.toNat / 4 ^ f.val % 4 := by rw [Nat.shiftRight_eq_div_pow, digit]

theorem orientationOf_eq (k : Fin 4) :
    orientationOf k = if k.val = 0 then .deg0 else if k.val = 1 then .deg90 else if k.val = 2 then .deg180 else .deg270 := by
  match k with
  | 0 | 1 | 2 | 3 => rfl

variable (m : Vector Byte 32)

theorem configSettings_enabled (f : Face) : (configSettings m).enabled[f] = m[5].getLsbD f.val := Vector.getElem_ofFn f.isLt

theorem configSettings_priority (f : Face) : (configSettings m).priority[f] = faceBits m[7] f := Vector.getElem_ofFn f.isLt

theorem configSettings_orientation (f : Face) : (configSettings m).orientation[f] = orientationOf (faceBits m[6] f) :=
  Vector.getElem_ofFn f.isLt

/-! ### The debounce count and the line zone -/

/-- The count 4 is the default as well as a code of its own. -/
theorem configSettings_debounce :
    (configSettings m).debounce = if m[4] = 1 then 1 else if m[4] = 2 then 2 else if m[4] = 8 then 8 else 4 := by
  have count (b : Byte) : (if b = 1 ∨ b = 2 ∨ b = 4 ∨ b = 8 then b.toNat else 4) =
      if b = 1 then 1 else if b = 2 then 2 else if b = 8 then 8 else 4 := by
    by_cases listed : b = 1 ∨ b = 2 ∨ b = 4 ∨ b = 8
    · obtain rfl | rfl | rfl | rfl := listed <;> rfl
    · rw [if_neg listed]
      simp only [not_or] at listed
      obtain ⟨one, two, -, eight⟩ := listed
      rw [if_neg one, if_neg two, if_neg eight]
  exact count m[4]

theorem configSettings_lineZone : (configSettings m).lineZone.val = if m[9].toNat ≤ 7 then m[9].toNat else 0 := by
  have zone : (configSettings m).lineZone = if h : m[9].toNat < 8 then ⟨m[9].toNat, h⟩ else 0 := rfl
  rw [zone]
  by_cases inRange : m[9].toNat < 8
  · rw [dif_pos inRange, if_pos (Nat.le_of_lt_succ inRange)]
  · rw [dif_neg inRange, if_neg (fun le => inRange (Nat.lt_succ_of_le le))]
    rfl

/-- Settles O7: each field by the encoding of its byte; the address, the age limit, the wait time and the pulse limit stand so in
`configSettings`. -/
theorem configFieldsOrDefaults : Obligations.ConfigFieldsOrDefaults := by
  refine fun m => ⟨rfl, choose_three_default_second 100 200 400 m[3], configSettings_debounce m, fun f => ⟨?enabled, ?priority,
    ?orientation⟩, rfl, configSettings_lineZone m, rfl, choose_four_default_third 20 50 100 200 m[11],
    choose_four_default_third 2000 5000 10000 20000 m[12], rfl, choose_four_default_second 2000 4000 6000 8000 m[14]⟩
  case enabled => exact configSettings_enabled m f
  case priority => rw [configSettings_priority, faceBits_val]
  case orientation => rw [configSettings_orientation, orientationOf_eq, faceBits_val]

end Sys2Proof.Machine.Configuration
end

section
/-! PROOFS. The queue of commands: a step runs its front, and the operations of the blocks leave the commands that wait. -/

namespace Sys2Proof.Machine.CommandQueue

open Sys2Proof Sys2Proof.Machine Sys2Proof.Machine.UpdateTransactions Sys2Proof.Machine.NameOrder

variable {s t : State}

/-! ### The front of the queue -/

/-- Settles O1: `step` on a queue with a front. -/
theorem stepRunsFrontCommand : Obligations.StepRunsFrontCommand := fun _ _ _ => rfl

/-! ### Changes of faces, and events that cannot happen -/

theorem pending_of_outside (outside : s.SameOutsideFaces t) : t.pending = s.pending :=
  (congrArg State.pending outside).trans rfl

theorem ite_pending {u : State} {p : Prop} [Decidable p] (yes : t.pending = s.pending) (no : u.pending = s.pending) :
    (if p then t else u).pending = s.pending := by
  split
  · exact yes
  · exact no

/-- A command whose event cannot happen leaves the state (log 2). -/
theorem if_pending {p : Prop} [Decidable p] (same : t.pending = s.pending) : (if p then t else s).pending = s.pending :=
  ite_pending same rfl

/-! ### The arbiter, the supervisors and the scan-out -/

@[simp] theorem arbitrate_pending (s : State) : s.arbitrate.pending = s.pending := by rw [arbitrate_eq]; rfl

theorem withdraw_pending (s : State) (f : Face) : (s.withdraw f).pending = s.pending := arbitrate_pending _

theorem windowExpired_pending (s : State) (f : Face) : (s.windowExpired f).pending = s.pending := ite_pending rfl rfl

theorem frameStart_pending (s : State) (f : Face) : (s.frameStart f).pending = s.pending := by
  rw [State.frameStart, arbitrate_pending, pending_of_outside (waitFrameDone_outside _ f)]
  rfl

/-! ### The load -/

theorem tryLoadEnd_pending (s : State) : s.tryLoadEnd.pending = s.pending := if_pending rfl

theorem readEnd_pending (s : State) (st : LoaderState) (taken : Settings) : (s.readEnd st taken).pending = s.pending :=
  if_pending (tryLoadEnd_pending _)

/-! ### Evacuation -/

theorem takeover_pending (s : State) : s.takeover.pending = s.pending := arbitrate_pending _

theorem startView_pending (s : State) : s.startView.pending = s.pending := rfl

theorem ecGrant_pending (s : State) : s.ecGrant.pending = s.pending := (startView_pending _).trans rfl

theorem redrawCause_pending (s : State) : s.redrawCause.pending = s.pending := by
  unfold State.redrawCause
  split
  · exact startView_pending s
  · rfl

theorem lookSources_pending (s : State) : s.lookSources.pending = s.pending := by
  unfold State.lookSources
  split
  · exact if_pending (takeover_pending s)
  · exact if_pending rfl
  · exact ite_pending (if_pending (redrawCause_pending s)) (if_pending rfl)
  · rfl

theorem shownCommit_pending (s : State) : s.shownCommit.pending = s.pending := by
  unfold State.shownCommit
  split
  · exact if_pending rfl
  · exact redrawCause_pending s
  · rfl
  · rfl

theorem noticeEntry_pending (s : State) (n : Nat) : (s.noticeEntry n).pending = s.pending := by
  unfold State.noticeEntry
  split
  · exact if_pending (shownCommit_pending s)
  · rfl

theorem noticePlan_pending (s : State) (z : Nat) : (s.noticePlan z).pending = s.pending := if_pending (shownCommit_pending s)

theorem afterDrawing_pending (s : State) : s.afterDrawing.pending = s.pending := ite_pending rfl (ite_pending (startView_pending s) rfl)

theorem viewEnd_pending (s : State) : s.viewEnd.pending = s.pending := by
  unfold State.viewEnd
  dsimp only
  split
  · rw [afterDrawing_pending]; rfl
  · rw [afterDrawing_pending]; rfl

theorem cycleExpiry_pending (s : State) : s.cycleExpiry.pending = s.pending := by
  unfold State.cycleExpiry
  split <;> rfl

theorem blankEnd_pending (s : State) : s.blankEnd.pending = s.pending :=
  ite_pending (takeover_pending _) (arbitrate_pending _)

/-! ### Commits -/

@[simp] theorem commitDone_pending (s : State) : s.commitDone.pending = s.pending := by
  unfold State.commitDone
  split <;> rfl

theorem templateCommit_pending (s : State) (x : Txn) : (s.templateCommit x).pending = s.pending := by
  unfold State.templateCommit
  split
  · rfl
  · exact commitDone_pending _

theorem releaseDeferred_pending (s : State) : s.releaseDeferred.pending = s.pending := by
  unfold State.releaseDeferred
  split
  · exact if_pending (templateCommit_pending s _)
  · rfl

theorem glyphCommit_pending (s : State) (x : Txn) : (s.glyphCommit x).pending = s.pending := by
  unfold State.glyphCommit
  split
  · rfl
  · exact commitDone_pending _

theorem startCommit_pending (s : State) (x : Txn) : (s.startCommit x).pending = s.pending := by
  unfold State.startCommit
  split
  · exact noticeEntry_pending _ _
  · exact templateCommit_pending _ x
  · exact glyphCommit_pending _ x
  · exact commitDone_pending _
  · exact (noticePlan_pending _ _).trans (commitDone_pending _)

theorem answerGlyph_pending (s : State) : s.answerGlyph.pending = s.pending := by
  unfold State.answerGlyph
  refine if_pending ?_
  split <;> rfl

theorem glyphCopied_pending (s : State) (p : Nat) : (s.glyphCopied p).pending = s.pending :=
  (answerGlyph_pending _).trans (commitDone_pending _)

theorem templateCopied_pending (s : State) (k : Nat) : (s.templateCopied k).pending = s.pending := commitDone_pending _

theorem purgeEnd_pending (s : State) : s.purgeEnd.pending = s.pending := by
  rw [purgeEnd_eq, arbitrate_pending, pending_of_outside (answerAllHeld_outside _ _)]
  rfl

/-! ### Trunk frames -/

/-- A trunk command whose action leaves the queue leaves it, heard or not. -/
theorem trunkFrame_pending (s : State) (feed : Feed) (mine : Byte → Bool) {act : State → Bytes → State × TrunkReply}
    (action : ∀ u data, (act u data).1.pending = u.pending) : (s.trunkFrame feed mine act).pending = s.pending := by
  unfold State.trunkFrame
  split
  · rfl
  · exact if_pending (ite_pending (action { s with trunk := _ } _) (action { s with trunk := _ } _))

theorem withLength_pending {n : Nat} {act : State → Bytes → State × TrunkReply} (s : State) (data : Bytes)
    (action : (act s data).1.pending = s.pending) : (withLength n act s data).1.pending = s.pending := by
  obtain same | acts := withLength_state n act s data
  · rw [same]
  · rw [acts, action]

theorem endTxn_pending (s : State) (o : TxnOutcome) : (s.endTxn o).pending = s.pending := by
  unfold State.endTxn
  split <;> rfl

theorem openChecked_pending (s : State) (data : Bytes) : (s.openChecked data).1.pending = s.pending := by
  unfold State.openChecked
  dsimp only
  split
  · split_ifs <;> rfl
  · rfl

theorem openTxn_pending (s : State) (data : Bytes) : (s.openTxn data).1.pending = s.pending := by
  have displaced : (if s.update.state = .staging then s.endTxn .displaced else s).pending = s.pending :=
    if_pending (endTxn_pending s _)
  unfold State.openTxn
  dsimp only
  split
  · exact displaced
  · split
    · exact displaced
    · exact displaced
    · exact (openChecked_pending _ data).trans displaced
    · exact (openChecked_pending _ data).trans displaced

theorem chunk_pending (s : State) (data : Bytes) : (s.chunk data).1.pending = s.pending := by
  unfold State.chunk
  split_ifs
  · rw [nakState_state]
  · rfl
  · split
    · rfl
    · split <;> rfl

theorem stageFrame_pending (s : State) (data : Bytes) : (s.stageFrame data).1.pending = s.pending := by
  unfold State.stageFrame
  split_ifs
  · rw [nakState_state]
  · rfl
  · rfl
  · rfl
  · split
    · rfl
    · exact endTxn_pending s _

theorem close_pending (s : State) (data : Bytes) : (s.close data).1.pending = s.pending := by
  unfold State.close
  split
  · split_ifs
    · rfl
    · exact endTxn_pending s _
    · exact endTxn_pending s _
    · rfl
    · exact startCommit_pending s _
  · rw [nakState_state]

theorem abandon_pending (s : State) : s.abandon.1.pending = s.pending := by
  unfold State.abandon
  split
  · exact endTxn_pending s _
  · exact endTxn_pending s _
  · rw [nakState_state]
  · rw [nakState_state]

theorem purge_pending (s : State) : s.purge.1.pending = s.pending := by
  obtain same | ⟨-, -, -, accepts⟩ := purge_cases s
  · rw [same]
  · rw [accepts, State.acceptPurge, arbitrate_pending]
    exact endTxn_pending s _

theorem alarm_pending (s : State) (data : Bytes) : (s.alarm data).1.pending = s.pending := by
  unfold State.alarm
  split
  · rfl
  · split
    · rfl
    · exact lookSources_pending _

theorem allClear_pending (s : State) : s.allClear.1.pending = s.pending := by
  unfold State.allClear
  split
  · rfl
  · exact lookSources_pending _

end Sys2Proof.Machine.CommandQueue
end

section
/-! PROOFS. The work of a segment leaves the commands that wait; and so does every command, each of which answers a next state. -/

namespace Sys2Proof.Machine.CommandQueue

open Sys2Proof Sys2Proof.Machine Sys2Proof.Machine.UpdateTransactions Sys2Proof.Machine.NameOrder Sys2Proof.Machine.DrawQueues
  Sys2Proof.Machine.FacePorts

variable {s t : State}

/-! ### Cells -/

theorem pending_of_left {f : Face} (same : leftBy f t = leftBy f s) : t.pending = s.pending :=
  calc t.pending = (leftBy f t).pending := rfl
    _ = (leftBy f s).pending := congrArg State.pending same
    _ = s.pending := rfl

theorem gotoCell_pending (s : State) (f : Face) (cell : Fin 16) : (s.gotoCell f cell).pending = s.pending := by
  unfold State.gotoCell
  split <;> rfl

theorem nextCell_pending (s : State) (f : Face) : (s.nextCell f).pending = s.pending := by
  unfold State.nextCell
  split <;> rfl

theorem popLevel_pending (s : State) (f : Face) : (s.popLevel f).pending = s.pending := by
  unfold State.popLevel
  split <;> rfl

theorem resumePush_pending (s : State) : s.resumePush.pending = s.pending := by
  unfold State.resumePush
  split
  · split
    · split <;> rfl
    · rfl
  · rfl

theorem plainDraw_pending {f : Face} {x y : Nat} {seg : Seg} (draws : s.plainDraw f x y seg = some (.ok t)) :
    t.pending = s.pending := by
  obtain ⟨l, m, shape, r, rfl⟩ := plainDraw_drawn draws
  exact pending_of_left (leftBy_drawShape s f l m shape r)

theorem textWork_pending (s : State) (f : Face) (l : Fin 4) (n : Snapshot) (field : TextSource) (m : Combine) (col : Colour)
    (scale x y width : Nat) : (s.textWork f l n field m col scale x y width).pending = s.pending := by
  unfold State.textWork
  split
  · rfl
  · split
    · exact nextCell_pending s f
    · rfl

theorem templateWork_pending (s : State) (f : Face) (language : Fin 4) (top : Level) (seg : Seg) :
    (s.templateWork f language top seg).pending = s.pending := by
  cases seg with
  | fill | frame | image =>
    unfold State.templateWork
    dsimp only
    split
    · next draws => exact plainDraw_pending draws
    · rfl
    · rfl
  | call k x y => exact pending_of_left (leftBy_enterTemplate s f _ _ _ _)
  | textField =>
    unfold State.templateWork
    dsimp only
    split
    · exact textWork_pending s f _ _ _ _ _ _ _ _ _
    · rfl
  | select =>
    unfold State.templateWork
    dsimp only
    split
    · exact gotoCell_pending s f _
    · rfl
  | goto cell => exact gotoCell_pending s f cell
  | endLevel => exact popLevel_pending s f
  | card | route | clearRoute | clearSlot | waitFrame => rfl

theorem templateStep_pending (s : State) (g : Segment) (top : Level) (below : List Level) :
    (s.templateStep g top below).pending = s.pending := by
  unfold State.templateStep
  refine ite_pending rfl ?_
  dsimp only
  split
  · rfl
  · split
    · rfl
    · split
      · rfl
      · exact templateWork_pending _ _ _ _ _

theorem eraseDone_pending (s : State) (g : Segment) : (s.eraseDone g).pending = s.pending := by
  unfold State.eraseDone
  dsimp only
  split
  · split
    · exact (pending_of_left (leftBy_routeSnapshot _ g.face _ _ _)).trans rfl
    · rfl
  · rfl

/-! ### Pixel groups, ends and grants -/

theorem workDone_pending (s : State) (g : Segment) : (s.workDone g).pending = s.pending := by
  unfold State.workDone
  split
  · exact nextCell_pending s g.face
  all_goals rfl

theorem writeGroup_pending (s : State) (count : Nat) : (s.writeGroup count).pending = s.pending := by
  unfold State.writeGroup
  split <;> rfl

theorem pixelGroup_pending (s : State) (count : Nat) : (s.pixelGroup count).pending = s.pending := by
  have written := writeGroup_pending s count
  unfold State.pixelGroup
  dsimp only
  split
  · split
    · rw [workDone_pending, written]
    · exact written
  · exact written

theorem segmentEnd_pending (s : State) (g : Segment) (fault : Option FaultReason) : (s.segmentEnd g fault).pending = s.pending := by
  rw [State.segmentEnd, arbitrate_pending, pending_of_outside (applyHeldReset_outside _ _), releaseDeferred_pending]
  exact (congrArg State.pending (endTaken_changes s g fault).1).trans rfl

theorem faceGrant_pending (s : State) (f : Face) (claims : List Face) : (s.faceGrant f claims).pending = s.pending := by
  have held (g : Segment) : (granted s f claims g).pending = s.pending := rfl
  obtain same | ⟨g, -, ends | ⟨cell, begins⟩⟩ := faceGrant_cases s f claims
  · rw [same]
  · rw [ends, segmentEnd_pending, held]
  · rw [begins, pending_of_left (leftBy_startCell _ f cell), held]

/-! ### Every command -/

/-- No command is refused and none faults: each meaning is total. -/
theorem exec_answers (c : Instr) (s : State) : ∃ t, exec c s = .next t := by
  cases c <;> exact ⟨_, rfl⟩

/-- The frames of the trunk, whether or not one is taken. -/
theorem trunk_pending {c : Instr}
    (trunk : c matches .openFrame .. | .chunkFrame .. | .waypointsFrame .. | .closeFrame .. | .abandonFrame .. | .purgeFrame ..
      | .alarmFrame .. | .allClearFrame .. | .pollFrame .. | .unknownFrameKind .. | .trunkFrameDropped .. | .trunkFrameTimeout ..)
    (next : exec c s = .next t) : t.pending = s.pending := by
  cases c with
  | openFrame feed => cases next; exact trunkFrame_pending s feed _ openTxn_pending
  | chunkFrame feed => cases next; exact trunkFrame_pending s feed _ chunk_pending
  | waypointsFrame feed => cases next; exact trunkFrame_pending s feed _ stageFrame_pending
  | closeFrame feed => cases next; exact trunkFrame_pending s feed _ close_pending
  | abandonFrame feed => cases next; exact trunkFrame_pending s feed _ (fun u data => withLength_pending u data (abandon_pending u))
  | purgeFrame feed => cases next; exact trunkFrame_pending s feed _ (fun u data => withLength_pending u data (purge_pending u))
  | alarmFrame feed => cases next; exact trunkFrame_pending s feed _ (fun u data => withLength_pending u data (alarm_pending u data))
  | allClearFrame feed => cases next; exact trunkFrame_pending s feed _ (fun u data => withLength_pending u data (allClear_pending u))
  | pollFrame feed =>
    cases next
    exact trunkFrame_pending s feed _ (fun u data => withLength_pending u data (by rw [poll_state]))
  | unknownFrameKind feed => cases next; exact trunkFrame_pending s feed _ (fun _ _ => rfl)
  | trunkFrameDropped feed => cases next; split <;> rfl
  | trunkFrameTimeout feed => cases next; split <;> rfl
  | _ => cases trunk

/-- The steps of the engine. -/
theorem engine_pending {c : Instr}
    (engine : c matches .faceGrant | .templateCellStep | .pixelGroupWrite _ | .routeEraseDone | .segmentCompletion | .segmentFault
      | .cutoffExpiry)
    (next : exec c s = .next t) : t.pending = s.pending := by
  cases c with
  | faceGrant =>
    cases next
    split
    · exact faceGrant_pending s _ _
    · rfl
  | templateCellStep =>
    cases next
    split
    · refine if_pending ?_
      split
      · exact templateStep_pending s _ _ _
      · rfl
    · rfl
  | pixelGroupWrite count => cases next; exact ite_pending rfl (pixelGroup_pending s count)
  | routeEraseDone =>
    cases next
    split
    · exact if_pending (eraseDone_pending s _)
    · rfl
  | segmentCompletion =>
    cases next
    split
    · exact if_pending (segmentEnd_pending s _ _)
    · rfl
  | segmentFault =>
    cases next
    split
    · split
      · exact segmentEnd_pending s _ _
      · rfl
    · rfl
  | cutoffExpiry =>
    cases next
    refine if_pending ?_
    dsimp only
    split
    · exact segmentEnd_pending (s.modEvac (fun e => { e with cutoff := .stopped })) _ _
    · rfl
  | _ => cases engine

/-- A command of a face's port changes its face and the decision alone (`portCommandsStayOnTheirFace`). -/
theorem port_pending {c : Instr} {f : Face} (port : portCommandOf c = some f) (next : exec c s = .next t) :
    t.pending = s.pending :=
  (congrArg State.pending (portCommandsStayOnTheirFace c f s t port next).1).trans rfl

theorem exec_pending {c : Instr} (next : exec c s = .next t) : t.pending = s.pending := by
  cases c with
  | status | kick | readEvents | setMask | readEntry | listWindow | findPrefix | writeCells | start | append | stop | readFault
  | writeImage | setMap | setLanguage | setPalette | readSlots | hitTest | resetFace | fetch | unknownRequestCode =>
    exact port_pending rfl next
  | openFrame | chunkFrame | waypointsFrame | closeFrame | abandonFrame | purgeFrame | alarmFrame | allClearFrame | pollFrame
  | unknownFrameKind | trunkFrameDropped | trunkFrameTimeout => exact trunk_pending rfl next
  | faceGrant | templateCellStep | pixelGroupWrite | routeEraseDone | segmentCompletion | segmentFault | cutoffExpiry =>
    exact engine_pending rfl next
  | fullReset => cases next; rfl
  | resetRelease => cases next; exact if_pending rfl
  | configReadComplete => cases next; exact ite_pending (readEnd_pending s _ _) (readEnd_pending s _ _)
  | configNoAcknowledge => cases next; exact readEnd_pending s _ _
  | configLimitExpiry => cases next; exact readEnd_pending s _ _
  | planeClearDone => cases next; exact if_pending (tryLoadEnd_pending _)
  | turnaroundEnd => cases next; exact if_pending rfl
  | replyEnd => cases next; exact if_pending rfl
  | repositionDone =>
    cases next
    split
    · exact (pending_of_outside (answerAllHeld_outside _ _)).trans (commitDone_pending _)
    · rfl
  | glyphCopyDone =>
    cases next
    split
    · exact glyphCopied_pending s _
    · rfl
  | templateCopyDone =>
    cases next
    split
    · exact (resumePush_pending _).trans (templateCopied_pending s _)
    · rfl
  | purgeGrant => cases next; exact if_pending rfl
  | purgeEnd => cases next; exact if_pending (purgeEnd_pending s)
  | frameStart f => cases next; exact if_pending (frameStart_pending s f)
  | waitTimeExpiry f => cases next; exact if_pending (withdraw_pending s f)
  | pulseTimeExpiry => cases next; exact if_pending rfl
  | recoveryWindowExpiry f => cases next; exact if_pending (windowExpired_pending s f)
  | evacLineChange => cases next; rfl
  | lineDebounceExpiry => cases next; exact if_pending (ite_pending rfl (lookSources_pending _))
  | ecGrant => cases next; exact if_pending (ecGrant_pending s)
  | viewDrawingEnd => cases next; exact if_pending (viewEnd_pending s)
  | cycleTimerExpiry => cases next; exact if_pending (cycleExpiry_pending s)
  | bandDrawingEnd => cases next; exact if_pending (afterDrawing_pending _)
  | blankDrawingEnd => cases next; exact if_pending (blankEnd_pending s)

/-- Settles O3, by the blocks of the commands. -/
theorem everyCommandAnswers : Obligations.EveryCommandAnswers := by
  intro c s
  obtain ⟨t, next⟩ := exec_answers c s
  exact ⟨t, next, exec_pending next⟩

end Sys2Proof.Machine.CommandQueue
end

section
/-! PROOFS. What stands stored, and the operations outside the Update Controller's commits, which leave it (log 23). -/

namespace Sys2Proof.Machine.Stores

open Sys2Proof Sys2Proof.Machine Sys2Proof.Machine.UpdateTransactions Sys2Proof.Machine.NameOrder Sys2Proof.Machine.DrawQueues

/-! ### What an operation keeps -/

/-- The stores that transactions write, the templates apart, and the Update Controller. -/
structure Stored where
  directory : Sparse Entry
  routes : RouteStore
  pages : Sparse (Option Mem)
  languages : Vector (Option Mem) 4
  plans : Vector (Option Mem) 8
  update : Update

def stored (s : State) : Stored := ⟨s.directory, s.routes, s.glyphs.pages, s.languages, s.evac.plans, s.update⟩

/-- The Template Store is canonical, and so are the cells of every template. -/
def TableCanonical (m : Sparse Template) : Prop :=
  Sparse.wf Template.empty m = true ∧ ∀ k, canonicalOpt (Sparse.read Template.empty m k).cells = true

/-- An operation that writes nothing that is stored, and leaves canonical what it writes of the buffers of the faces and of the
templates' uses. -/
structure Kept (s t : State) : Prop where
  same : stored t = stored s
  faces : ∀ f, (s.face f).storesCanonical = true → (t.face f).storesCanonical = true
  table : TableCanonical s.templates.table → TableCanonical t.templates.table

variable {s t u : State}

theorem Kept.refl (s : State) : Kept s s := ⟨rfl, fun _ => id, id⟩

theorem Kept.trans (first : Kept s t) (second : Kept t u) : Kept s u :=
  ⟨second.same.trans first.same, fun f => second.faces f ∘ first.faces f, second.table ∘ first.table⟩

theorem Kept.of_rest (same : stored t = stored s) (faces : t.faces = s.faces) (table : t.templates.table = s.templates.table) :
    Kept s t := by
  refine ⟨same, fun f own => ?_, fun own => table ▸ own⟩
  rw [State.face, faces]
  exact own

theorem Kept.of_outside (outside : s.SameOutsideFaces t)
    (faces : ∀ f, (s.face f).storesCanonical = true → (t.face f).storesCanonical = true) : Kept s t :=
  ⟨by rw [outside]; rfl, faces, fun own => by rw [outside]; exact own⟩

theorem Kept.ite {p : Prop} [Decidable p] (yes : p → Kept s t) (no : ¬p → Kept s u) : Kept s (if p then t else u) := by
  split
  · next holds => exact yes holds
  · next fails => exact no fails

/-- A command whose event cannot happen leaves the state (log 2). -/
theorem Kept.if {p : Prop} [Decidable p] (yes : p → Kept s t) : Kept s (if p then t else s) := .ite yes (fun _ => .refl s)

/-! ### Changes of faces -/

theorem modFace_kept (s : State) (f : Face) (g : FaceContext → FaceContext)
    (own : (s.face f).storesCanonical = true → (g (s.face f)).storesCanonical = true) : Kept s (s.modFace f g) := by
  refine .of_outside (modFace_outside s f g) (fun h canonical => ?_)
  rw [modFace_face]
  split
  · next same => subst same; exact own canonical
  · exact canonical

theorem mapFaces_kept (s : State) (g : Face → FaceContext → FaceContext)
    (own : ∀ f, (s.face f).storesCanonical = true → (g f (s.face f)).storesCanonical = true) : Kept s (s.mapFaces g) :=
  .of_outside (mapFaces_outside s g) (fun f canonical => by rw [mapFaces_face]; exact own f canonical)

/-- The two byte stores of a face are all that its canonical form reads. -/
theorem storesCanonical_of_buffers {c d : FaceContext} (image : d.image = c.image) (ring : d.queue.ring = c.queue.ring)
    (h : c.storesCanonical = true) : d.storesCanonical = true := by
  rw [FaceContext.storesCanonical, image, ring]
  exact h

/-- A change of a queue that leaves its ring. -/
theorem modQueue_kept (s : State) (f : Face) (g : Queue → Queue) (ring : (g (s.face f).queue).ring = (s.face f).queue.ring) :
    Kept s (s.modQueue f g) := modFace_kept s f _ (storesCanonical_of_buffers rfl ring)

theorem modSupervisor_kept (s : State) (f : Face) (g : Supervisor → Supervisor) : Kept s (s.modSupervisor f g) :=
  modFace_kept s f _ id

theorem raise_kept (s : State) (f : Face) (e : Event) : Kept s (s.raise f e) := by
  rw [raise_eq]
  exact modFace_kept s f _ id

theorem raiseIf_kept (s : State) (b : Bool) (f : Face) (e : Event) : Kept s (s.raiseIf b f e) :=
  .if (fun _ => raise_kept s f e)

theorem raiseAll_kept (s : State) (e : Event) : Kept s (s.raiseAll e) :=
  .of_outside (raiseAll_outside s e) (fun f => by rw [raiseAll_face]; exact id)

/-! ### Ports -/

theorem answer_kept (s : State) (f : Face) (code : ReplyCode) (request : Byte) (results : Bytes) :
    Kept s (s.answer f code request results) := by
  rw [answer_eq]
  exact modFace_kept s f _ id

/-- An owner that changes its face and answers. -/
theorem set_kept (s : State) (f : Face) (g : FaceContext → FaceContext) (code : ReplyCode) (request : Byte) (results : Bytes)
    (own : (s.face f).storesCanonical = true → (g (s.face f)).storesCanonical = true) :
    Kept s ((s.modFace f g).answer f code request results) :=
  (modFace_kept s f g own).trans (answer_kept _ f _ _ _)

theorem hold_kept (s : State) (f : Face) (h : HeldRequest) : Kept s (s.hold f h) := modFace_kept s f _ id

theorem shiftOut_kept (s : State) (f : Face) (bs : Bytes) : Kept s (s.shiftOut f bs) := modFace_kept s f _ id

theorem takeRequest_kept (s : State) (f : Face) : Kept s (s.takeRequest f) := modFace_kept s f _ id

theorem fillReply_kept (s : State) (f : Face) (code : ReplyCode) (request : Byte) (results : Bytes) :
    Kept s (s.fillReply f code request results) := (modFace_kept s f _ id).trans (raise_kept _ f _)

/-- A request whose owner keeps what is stored keeps it (R74). -/
theorem request_kept (f : Face) (code : Byte) (known : Bool) (x : Transfer) {own : State → State} (owner : ∀ u, Kept u (own u)) :
    Kept s (s.request f code known x own) := by
  have shift : Kept s (s.requestShift f x) := shiftOut_kept s f _
  obtain ⟨-, h⟩ | ⟨-, -, h⟩ | ⟨-, -, ⟨r, -, h⟩ | ⟨-, h⟩⟩ := request_cases s f code known x own <;> rw [h]
  · exact shift.trans (fillReply_kept _ f _ _ _)
  · exact shift
  · exact shift.trans (fillReply_kept _ f _ _ _)
  · exact (shift.trans (takeRequest_kept _ f)).trans (owner _)

/-- RESET_FACE empties the buffers of its face (R82). -/
theorem applyReset_kept (s : State) (f : Face) : Kept s (s.applyReset f) := set_kept s f _ _ _ _ (fun _ => rfl)

theorem applyHeldReset_kept (s : State) (f : Face) : Kept s (s.applyHeldReset f) := .if (fun _ => applyReset_kept s f)

theorem answerRequest_kept (s : State) (f : Face) (h : HeldRequest) : Kept s (s.answerRequest f h) := by
  cases h with
  | resetFace => exact applyReset_kept s f
  | _ => exact answer_kept s f _ _ _

theorem query_kept (s : State) (f : Face) (code : Byte) (q : Option HeldRequest) : Kept s (s.query f code q) := by
  cases q with
  | none => exact answer_kept s f _ _ _
  | some h => exact .ite (fun _ => hold_kept s f h) (fun _ => answerRequest_kept s f h)

theorem takeSlotRead_kept (s : State) (f : Face) (h : HeldRequest) : Kept s (s.takeSlotRead f h) :=
  .ite (fun _ => hold_kept s f h) (fun _ => answerRequest_kept s f h)

theorem answerHeld_kept (which : HeldRequest → Bool) (s : State) (f : Face) : Kept s (State.answerHeld which s f) := by
  unfold State.answerHeld
  split
  · exact .if (fun _ => answerRequest_kept s f _)
  · exact .refl s

theorem answerAllHeld_kept (s : State) (which : HeldRequest → Bool) : Kept s (s.answerAllHeld which) :=
  (((answerHeld_kept which s 0).trans (answerHeld_kept which _ 1)).trans (answerHeld_kept which _ 2)).trans
    (answerHeld_kept which _ 3)

/-! ### The arbiter, the queues, the supervisors and the load -/

theorem arbitrate_kept (s : State) : Kept s s.arbitrate := by
  rw [arbitrate_eq]
  exact .of_rest rfl rfl rfl

theorem release_kept (s : State) : Kept s s.release := .of_rest rfl rfl rfl

theorem grantTo_kept (s : State) (h : Claimant) : Kept s (s.grantTo h) := .of_rest rfl rfl rfl

theorem haltedBy_ring (q : Queue) (r : HaltReason) : (q.haltedBy r).ring = q.ring := by
  unfold Queue.haltedBy
  split <;> rfl

theorem completed_ring (q : Queue) : q.completed.ring = q.ring := by
  unfold Queue.completed
  split <;> rfl

theorem stopQueue_kept (s : State) (f : Face) : Kept s (s.stopQueue f) := by
  unfold State.stopQueue
  split
  · exact .refl s
  · exact (modQueue_kept s f _ rfl).trans (raise_kept _ f _)
  · exact (modQueue_kept s f _ rfl).trans (raise_kept _ f _)
  · exact (modQueue_kept s f _ rfl).trans (raise_kept _ f _)
  · exact modQueue_kept s f _ rfl

theorem haltQueues_kept (s : State) (r : HaltReason) : Kept s (s.haltQueues r) :=
  mapFaces_kept s _ (fun _ => storesCanonical_of_buffers rfl (haltedBy_ring _ r))

theorem waitFrameDone_kept (s : State) (f : Face) : Kept s (s.waitFrameDone f) := by
  unfold State.waitFrameDone
  dsimp only
  split
  · exact ((raiseIf_kept s _ f _).trans (modQueue_kept _ f _ (completed_ring _))).trans (raiseIf_kept _ _ f _)
  · exact .refl s

theorem frameStart_kept (s : State) (f : Face) : Kept s (s.frameStart f) :=
  ((modFace_kept s f FaceContext.frameStart id).trans (waitFrameDone_kept _ f)).trans (arbitrate_kept _)

theorem notePulse_kept (s : State) (f : Face) : Kept s (s.notePulse f) := .of_rest rfl rfl rfl

theorem withdraw_kept (s : State) (f : Face) : Kept s (s.withdraw f) :=
  ((modFace_kept s f _ (storesCanonical_of_buffers rfl (haltedBy_ring _ _))).trans (notePulse_kept _ f)).trans (arbitrate_kept _)

theorem windowExpired_kept (s : State) (f : Face) : Kept s (s.windowExpired f) :=
  .ite (fun _ => (modSupervisor_kept s f _).trans (notePulse_kept _ f)) (fun _ => modSupervisor_kept s f _)

theorem kicked_kept (s : State) (f : Face) : Kept s (s.kicked f).1 := by
  unfold State.kicked State.readmit
  split
  · exact .refl s
  · exact modSupervisor_kept s f (fun v => { v with timer := s.settings.waitTimer })
  · exact .refl s
  · exact (modSupervisor_kept s f _).trans (raise_kept _ f _)
  · exact (modSupervisor_kept s f _).trans (raise_kept _ f _)

theorem scanTick_kept (s : State) : Kept s s.scanTick := mapFaces_kept s _ (fun _ => id)

theorem loadEnd_kept (s : State) : Kept s s.loadEnd := by
  have service (c : FaceContext) (settings : Settings) (on : Bool) (h : c.storesCanonical = true) :
      (c.intoService settings on).storesCanonical = true := by cases on <;> exact h
  have faces : Kept s (s.mapFaces (fun f c => c.intoService s.loader.taken s.loader.taken.enabled[f])) :=
    mapFaces_kept s _ (fun f => service _ _ _)
  exact faces.trans (.of_rest rfl rfl rfl)

theorem tryLoadEnd_kept (s : State) : Kept s s.tryLoadEnd := .if (fun _ => loadEnd_kept s)

theorem readEnd_kept (s : State) (st : LoaderState) (taken : Settings) : Kept s (s.readEnd st taken) := by
  refine .if (fun _ => .trans ?_ (tryLoadEnd_kept _))
  exact .of_rest rfl rfl rfl

/-! ### Evacuation -/

theorem modEvac_kept (s : State) (g : Evac → Evac) (plans : (g s.evac).plans = s.evac.plans) : Kept s (s.modEvac g) :=
  .of_rest (congrArg (fun p => { stored s with plans := p }) plans) rfl rfl

theorem setJobs_kept (s : State) (jobs : List Job) : Kept s (s.setJobs jobs) := .of_rest rfl rfl rfl

theorem takeover_kept (s : State) : Kept s s.takeover :=
  ((haltQueues_kept s .evac).trans (modEvac_kept _ _ rfl)).trans (arbitrate_kept _)

theorem givePalette_kept (s : State) (p : Vector Rgb 16) : Kept s (s.givePalette p) :=
  mapFaces_kept s _ (fun f h => by split <;> exact h)

theorem startView_kept (s : State) : Kept s s.startView :=
  (givePalette_kept s _).trans (.of_rest rfl rfl rfl)

theorem startRelease_kept (s : State) : Kept s s.startRelease := .of_rest rfl rfl rfl

theorem redrawCause_kept (s : State) : Kept s s.redrawCause := by
  unfold State.redrawCause
  split
  · exact startView_kept s
  · exact modEvac_kept s _ rfl

theorem lookSources_kept (s : State) : Kept s s.lookSources := by
  unfold State.lookSources
  split
  · exact .if (fun _ => takeover_kept s)
  · exact .if (fun _ => modEvac_kept s _ rfl)
  · exact .ite (fun _ => .if (fun _ => redrawCause_kept s)) (fun _ => .if (fun _ => startRelease_kept s))
  · exact .refl s

theorem shownCommit_kept (s : State) : Kept s s.shownCommit := by
  unfold State.shownCommit
  split
  · exact .if (fun _ => modEvac_kept s _ rfl)
  · exact redrawCause_kept s
  · exact .refl s
  · exact .refl s

theorem noticeEntry_kept (s : State) (n : Nat) : Kept s (s.noticeEntry n) := by
  unfold State.noticeEntry
  split
  · exact .if (fun _ => shownCommit_kept s)
  · exact .refl s

theorem noticePlan_kept (s : State) (z : Nat) : Kept s (s.noticePlan z) := .if (fun _ => shownCommit_kept s)

theorem ecGrant_kept (s : State) : Kept s s.ecGrant := by
  have cleared : Kept s ((s.grantTo .ec).mapFaces (fun _ c => c.clearSlots)) :=
    (grantTo_kept s .ec).trans (mapFaces_kept _ _ (fun _ h => h))
  exact (cleared.trans (modEvac_kept _ _ rfl)).trans (startView_kept _)

theorem afterDrawing_kept (s : State) : Kept s s.afterDrawing :=
  .ite (fun _ => startRelease_kept s) (fun _ => .ite (fun _ => startView_kept s) (fun _ => modEvac_kept s _ rfl))

theorem viewEnd_kept (s : State) : Kept s s.viewEnd := by
  have drawn : Kept s (s.modEvac (fun e => { e with drawing := none })) := modEvac_kept s _ rfl
  refine .ite (fun _ => ?_) (fun _ => drawn.trans (afterDrawing_kept _))
  exact ((drawn.trans (modEvac_kept _ _ rfl)).trans (raiseAll_kept _ _)).trans (afterDrawing_kept _)

theorem cycleExpiry_kept (s : State) : Kept s s.cycleExpiry := by
  unfold State.cycleExpiry
  split
  · exact modEvac_kept s _ rfl
  · exact (setJobs_kept s _).trans (modEvac_kept _ _ rfl)

theorem blankEnd_kept (s : State) : Kept s s.blankEnd := by
  have source : Kept s (s.mapFaces (fun f c => if s.enabled f then { c with palette := { c.palette with source := .face } } else c)) :=
    mapFaces_kept s _ (fun f h => by split <;> exact h)
  have ended (v : State) (g : Evac → Evac) (plans : ∀ e, (g e).plans = e.plans) :
      Kept v ((v.release.raiseAll .evacOff).modEvac g) :=
    ((release_kept v).trans (raiseAll_kept _ _)).trans (modEvac_kept _ _ (plans _))
  refine .ite (fun _ => .trans ?_ (takeover_kept _)) (fun _ => .trans ?_ (arbitrate_kept _))
  · exact source.trans (ended _ _ (fun _ => rfl))
  · exact source.trans (ended _ _ (fun _ => rfl))

theorem purgeGrant_kept (s : State) : Kept s s.purgeGrant := (grantTo_kept s .purge).trans (haltQueues_kept _ .purged)

end Sys2Proof.Machine.Stores
end

section
/-! PROOFS. The work of a segment, from its grant to its end, writes nothing that is stored but the uses of templates (log 23). -/

namespace Sys2Proof.Machine.Stores

open Sys2Proof Sys2Proof.Machine Sys2Proof.Machine.UpdateTransactions Sys2Proof.Machine.NameOrder Sys2Proof.Machine.DrawQueues

variable {s t u : State}

/-! ### The include stack and the template uses -/

/-- A template replaced by one whose cells are canonical. -/
theorem TableCanonical.write {m : Sparse Template} (h : TableCanonical m) (k : Nat) {v : Template}
    (cells : canonicalOpt v.cells = true) : TableCanonical (Sparse.write Template.empty m k v) := by
  refine ⟨Sparse.wf_write _ m k v h.1, fun j => ?_⟩
  rw [Sparse.read_write]
  split
  · exact cells
  · exact h.2 j

theorem useTemplate_kept (s : State) (k : Nat) (g : Nat → Nat) : Kept s (s.useTemplate k g) :=
  ⟨rfl, fun _ => id, fun h => h.write k (h.2 k)⟩

theorem returnUses_kept (s : State) (ls : List Level) : Kept s (s.returnUses ls) := by
  induction ls generalizing s with
  | nil => exact .refl s
  | cons l ls ih => exact (useTemplate_kept s l.template _).trans (ih _)

theorem modSegment_kept (s : State) (g : Segment → Segment) : Kept s (s.modSegment g) := .of_rest rfl rfl rfl

theorem setStage_kept (s : State) (st : Stage) : Kept s (s.setStage st) := modSegment_kept s _

theorem failSegment_kept (s : State) (r : FaultReason) : Kept s (s.failSegment r) := setStage_kept s _

theorem setStack_kept (s : State) (f : Face) (ls : List Level) : Kept s (s.setStack f ls) := modQueue_kept s f _ rfl

theorem pushLevel_kept (s : State) (f : Face) (k x y : Nat) (ret : Option (Fin 16)) : Kept s (s.pushLevel f k x y ret) := by
  have pushed := (setStack_kept s f (⟨k, 0, ret, x, y, Config.levelBudget⟩ :: (s.face f).queue.stack)).trans
    (useTemplate_kept _ k (fun n => n + 1))
  refine .trans ?_ (setStage_kept _ .expanding)
  exact pushed.trans (.of_rest rfl rfl rfl)

theorem enterTemplate_kept (s : State) (f : Face) (k x y : Nat) (ret : Option (Fin 16)) :
    Kept s (s.enterTemplate f k x y ret) :=
  .ite (fun _ => failSegment_kept s _) (fun _ => .ite (fun _ => failSegment_kept s _)
    (fun _ => .ite (fun _ => setStage_kept s _) (fun _ => pushLevel_kept s f k x y ret)))

theorem resumePush_kept (s : State) : Kept s s.resumePush := by
  unfold State.resumePush
  split
  · split
    · exact .ite (fun _ => .refl s) (fun _ => pushLevel_kept s _ _ _ _ _)
    · exact .refl s
  · exact .refl s

theorem gotoCell_kept (s : State) (f : Face) (cell : Fin 16) : Kept s (s.gotoCell f cell) := by
  unfold State.gotoCell
  split
  · exact setStack_kept s f _
  · exact .refl s

theorem nextCell_kept (s : State) (f : Face) : Kept s (s.nextCell f) := by
  unfold State.nextCell
  split
  · exact setStack_kept s f _
  · exact .refl s

theorem popLevel_kept (s : State) (f : Face) : Kept s (s.popLevel f) := by
  unfold State.popLevel
  split
  · exact (setStack_kept s f _).trans (useTemplate_kept _ _ _)
  · exact ((setStack_kept s f _).trans (useTemplate_kept _ _ _)).trans (setStage_kept _ _)
  · exact .refl s

theorem emptyStack_kept (s : State) (f : Face) : Kept s (s.emptyStack f) := by
  refine ((returnUses_kept s _).trans (modFace_kept _ f _ ?_)).trans (.of_rest rfl rfl rfl)
  exact id

/-! ### Cells -/

theorem drawShape_kept (s : State) (f : Face) (l : Layer) (m : Combine) (shape : Shape) (r : Rect) :
    Kept s (s.drawShape f l m shape r) := by
  have marked : Kept s (if l = .map then s.modFace f (fun c => { c with route := routeDisturb c.route }) else s) :=
    .if (fun _ => modFace_kept s f _ id)
  exact marked.trans (setJobs_kept _ _)

theorem plainDraw_kept {f : Face} {x y : Nat} {seg : Seg} (draws : s.plainDraw f x y seg = some (.ok t)) : Kept s t := by
  obtain ⟨l, m, shape, r, rfl⟩ := plainDraw_drawn draws
  exact drawShape_kept s f l m shape r

theorem routeSnapshot_kept (s : State) (f : Face) (n : Nat) (colour : Colour) (width : Nat) :
    Kept s (s.routeSnapshot f n colour width) := by
  refine .ite (fun _ => failSegment_kept s _) (fun _ => .trans (.trans ?_ (setJobs_kept _ _)) (modSegment_kept _ _))
  exact modFace_kept s f _ id

theorem cardSnapshot_kept (s : State) (f : Face) (n : Nat) (slot : Fin 12) (k : Nat) (r : Rect) :
    Kept s (s.cardSnapshot f n slot k r) := by
  refine .ite (fun _ => failSegment_kept s _) (fun _ => .trans (.trans ?_ (modSegment_kept _ _)) (enterTemplate_kept _ f k _ _ _))
  exact modFace_kept s f _ id

theorem clearSlotWork_kept (s : State) (f : Face) (slot : Fin 12) (colour : Colour) : Kept s (s.clearSlotWork f slot colour) := by
  unfold State.clearSlotWork
  split
  · exact setStage_kept s _
  · exact (setJobs_kept s _).trans (setStage_kept _ _)

theorem routeWork_kept (s : State) (f : Face) (n : Nat) (colour : Colour) (width : Nat) : Kept s (s.routeWork f n colour width) :=
  .ite (fun _ => (setJobs_kept s _).trans (setStage_kept _ _)) (fun _ => routeSnapshot_kept s f n colour width)

theorem clearRouteWork_kept (s : State) (f : Face) : Kept s (s.clearRouteWork f) :=
  .ite (fun _ => (setJobs_kept s _).trans (setStage_kept _ _)) (fun _ => (modFace_kept s f _ id).trans (setStage_kept _ _))

theorem queueWork_kept (s : State) (f : Face) (seg : Seg) : Kept s (s.queueWork f seg) := by
  cases seg with
  | fill | frame | image =>
    unfold State.queueWork
    dsimp only
    split
    · next draws => exact (plainDraw_kept draws).trans (setStage_kept _ _)
    · exact failSegment_kept s _
    · exact .refl s
  | call k x y => exact enterTemplate_kept s f k x y none
  | card n slot k r => exact .ite (fun _ => cardSnapshot_kept s f n slot k r) (fun _ => failSegment_kept s _)
  | route n colour width => exact routeWork_kept s f n colour width
  | clearRoute => exact clearRouteWork_kept s f
  | clearSlot slot colour => exact clearSlotWork_kept s f slot colour
  | waitFrame => exact setStage_kept s _
  | textField | select | goto | endLevel => exact failSegment_kept s _

theorem startCell_kept (s : State) (f : Face) (cell : Bytes) : Kept s (s.startCell f cell) := by
  unfold State.startCell
  split
  · exact failSegment_kept s _
  · refine .ite (fun _ => failSegment_kept s _) (fun _ => ?_)
    split
    · exact failSegment_kept s _
    · exact queueWork_kept s f _

theorem textWork_kept (s : State) (f : Face) (l : Fin 4) (n : Snapshot) (field : TextSource) (m : Combine) (col : Colour)
    (scale x y width : Nat) : Kept s (s.textWork f l n field m col scale x y width) := by
  refine .ite (fun _ => failSegment_kept s _) (fun _ => ?_)
  split
  · exact nextCell_kept s f
  · exact setJobs_kept s _

theorem templateWork_kept (s : State) (f : Face) (language : Fin 4) (top : Level) (seg : Seg) :
    Kept s (s.templateWork f language top seg) := by
  cases seg with
  | fill | frame | image =>
    unfold State.templateWork
    dsimp only
    split
    · next draws => exact plainDraw_kept draws
    · exact failSegment_kept s _
    · exact .refl s
  | call k x y => exact enterTemplate_kept s f _ _ _ _
  | textField =>
    unfold State.templateWork
    dsimp only
    split
    · exact textWork_kept s f _ _ _ _ _ _ _ _ _
    · exact failSegment_kept s _
  | select =>
    unfold State.templateWork
    dsimp only
    split
    · exact gotoCell_kept s f _
    · exact failSegment_kept s _
  | goto cell => exact gotoCell_kept s f cell
  | endLevel => exact popLevel_kept s f
  | card | route | clearRoute | clearSlot | waitFrame => exact failSegment_kept s _

theorem templateStep_kept (s : State) (g : Segment) (top : Level) (below : List Level) : Kept s (s.templateStep g top below) := by
  refine .ite (fun _ => failSegment_kept s _) (fun _ => ?_)
  have spent := setStack_kept s g.face ({ top with budget := top.budget - 1 } :: below)
  dsimp only
  split
  · exact spent.trans (failSegment_kept _ _)
  · split
    · exact spent.trans (failSegment_kept _ _)
    · split
      · exact spent.trans (failSegment_kept _ _)
      · exact spent.trans (templateWork_kept _ _ _ _ _)

/-! ### Pixel groups, and the end of an erase -/

theorem writeGroup_kept (s : State) (count : Nat) : Kept s (s.writeGroup count) := by
  unfold State.writeGroup
  split <;> exact .of_rest rfl rfl rfl

theorem workDone_kept (s : State) (g : Segment) : Kept s (s.workDone g) := by
  unfold State.workDone
  split
  · exact nextCell_kept s g.face
  · exact setStage_kept s _
  · exact setStage_kept s _
  · next slot _ =>
    exact (modFace_kept s g.face (fun c => c.setCard slot none) id).trans (setStage_kept _ _)
  all_goals exact .refl s

theorem pixelGroup_kept (s : State) (count : Nat) : Kept s (s.pixelGroup count) := by
  have written := writeGroup_kept s count
  refine .ite (fun _ => ?_) (fun _ => written)
  split
  · exact written.trans (workDone_kept _ _)
  · exact written

theorem eraseDone_kept (s : State) (g : Segment) : Kept s (s.eraseDone g) := by
  have emptied : Kept s (s.modFace g.face (fun c => { c with route := none })) := modFace_kept s g.face _ id
  unfold State.eraseDone
  dsimp only
  split
  · split
    · exact emptied.trans (routeSnapshot_kept _ _ _ _ _)
    · exact emptied.trans (failSegment_kept _ _)
  · exact emptied.trans (setStage_kept _ _)

theorem answerGlyph_kept (s : State) : Kept s s.answerGlyph := by
  refine .if (fun _ => ?_)
  split
  · exact .of_rest rfl rfl rfl
  · exact .refl s

/-! ### The grant and the end -/

theorem afterEnd_ring (q : Queue) (e : SegmentEnd) : (q.afterEnd e).ring = q.ring := by
  unfold Queue.afterEnd
  split
  · rfl
  · rfl
  · split_ifs
    · rfl
    · rfl
    · rfl
    · exact completed_ring q

theorem haltedAtEnd_ring (q : Queue) (r : HaltReason) : (q.haltedAtEnd r).ring = q.ring := by
  unfold Queue.haltedAtEnd
  split <;> rfl

theorem reportEnd_kept (s : State) (g : Segment) (faulted : Bool) : Kept s (s.reportEnd g faulted) :=
  modFace_kept s g.face _ (fun h => by cases g.card <;> cases g.routed <;> exact h)

theorem recordFault_kept (s : State) (g : Segment) (fault : Option FaultReason) : Kept s (s.recordFault g fault) := by
  cases fault with
  | none => exact .refl s
  | some r => exact (modQueue_kept s g.face _ rfl).trans (raise_kept _ _ _)

theorem queueEnd_kept (s : State) (f : Face) (i : Fin 16) (e : SegmentEnd) : Kept s (s.queueEnd f i e) :=
  ((raiseIf_kept s _ f _).trans (modQueue_kept _ f _ (afterEnd_ring _ e))).trans (raiseIf_kept _ _ f _)

theorem takeoverEnd_kept (s : State) (f : Face) : Kept s (s.takeoverEnd f) :=
  .if (fun _ => modQueue_kept s f _ (haltedAtEnd_ring _ _))

theorem endTaken_kept (s : State) (g : Segment) (fault : Option FaultReason) : Kept s (s.endTaken g fault) := by
  have idle (v : State) : Kept v { v with engine := Engine.idle } := .of_rest rfl rfl rfl
  have reported := (reportEnd_kept s g fault.isSome).trans (recordFault_kept _ g fault)
  have freed := ((reported.trans (emptyStack_kept _ g.face)).trans (idle _)).trans (release_kept _)
  exact (freed.trans (queueEnd_kept _ g.face g.cell _)).trans (takeoverEnd_kept _ g.face)

theorem granted_kept (s : State) (f : Face) (claims : List Face) (g : Segment) : Kept s (granted s f claims g) := by
  have counted : Kept s (s.mapFaces (fun h c => { c with waitCount := waitCountAfter f claims h c.waitCount })) :=
    mapFaces_kept s _ (fun _ h => h)
  have runs := modFace_kept (s.mapFaces (fun h c => { c with waitCount := waitCountAfter f claims h c.waitCount })) f
    (fun c => { c with queue := { c.queue with state := .running } }) id
  exact (counted.trans runs).trans (.of_rest rfl rfl rfl)

end Sys2Proof.Machine.Stores
end

section
/-! PROOFS. The commands that write nothing that is stored: all but those of a transaction, of a segment's end, of a copy's and a
reposition's end, and of a purge and a full reset (log 23). -/

namespace Sys2Proof.Machine.Stores

open Sys2Proof Sys2Proof.Machine Sys2Proof.Machine.UpdateTransactions Sys2Proof.Machine.NameOrder Sys2Proof.Machine.DrawQueues

variable {s t u : State}

/-- The commands whose meaning writes nothing that is stored, whatever the state. -/
def storesNothing : Instr → Bool
  | .fullReset | .openFrame _ | .chunkFrame _ | .waypointsFrame _ | .closeFrame _ | .abandonFrame _ | .purgeFrame _ | .faceGrant
  | .segmentCompletion | .segmentFault | .cutoffExpiry | .repositionDone | .glyphCopyDone | .templateCopyDone | .purgeEnd => false
  | _ => true

/-! ### Requests -/

theorem face_canonical_iff (c : FaceContext) : c.storesCanonical = true ↔ Memory.wf c.image = true ∧ Memory.wf c.queue.ring = true := by
  simp [FaceContext.storesCanonical]

theorem writeCellsAt_canonical {m : Mem} (h : Memory.wf m = true) (first : Fin 16) (n : Nat) (bs : Bytes) :
    Memory.wf (writeCellsAt m first n bs) = true := by
  induction n generalizing m first bs with
  | zero => exact h
  | succ n ih => exact ih (Memory.wf_writeBytes _ m _ h) _ _

/-- The requests of a face's context, its supervisor, its events and its buffers. -/
theorem contextRequest_kept {c : Instr}
    (own : c matches .status .. | .kick .. | .readEvents .. | .setMask .. | .readFault .. | .writeImage .. | .setMap ..
      | .setLanguage .. | .setPalette .. | .resetFace .. | .unknownRequestCode ..)
    (next : exec c s = .next t) : Kept s t := by
  cases c with
  | status f x => cases next; exact request_kept f _ _ x (fun v => answer_kept v f _ _ _)
  | kick f x => cases next; exact request_kept f _ _ x (fun v => (kicked_kept v f).trans (answer_kept _ f _ _ _))
  | readEvents f x => cases next; exact request_kept f _ _ x (fun v => modFace_kept v f _ id)
  | setMask f x => cases next; exact request_kept f _ _ x (fun v => set_kept v f _ _ _ _ id)
  | readFault f x => cases next; exact request_kept f _ _ x (fun v => answer_kept v f _ _ _)
  | writeImage f x =>
    cases next
    refine request_kept f _ _ x (fun v => .ite (fun _ => answer_kept v f _ _ _) (fun _ => .ite (fun _ => answer_kept v f _ _ _)
      (fun _ => set_kept v f _ _ _ _ (fun h => ?_))))
    obtain ⟨image, ring⟩ := (face_canonical_iff _).mp h
    exact (face_canonical_iff _).mpr ⟨Memory.wf_writeBytes _ _ _ image, ring⟩
  | setMap f x =>
    cases next
    exact request_kept f _ _ x (fun v => .ite (fun _ => answer_kept v f _ _ _) (fun _ => .ite (fun _ => answer_kept v f _ _ _)
      (fun _ => set_kept v f _ _ _ _ id)))
  | setLanguage f x =>
    cases next
    refine request_kept f _ _ x (fun v => ?_)
    split
    · exact answer_kept v f _ _ _
    · exact set_kept v f _ _ _ _ id
  | setPalette f x =>
    cases next
    exact request_kept f _ _ x (fun v => .ite (fun _ => answer_kept v f _ _ _) (fun _ => set_kept v f _ _ _ _ id))
  | resetFace f x =>
    cases next
    exact request_kept f _ _ x (fun v => .ite (fun _ => hold_kept v f _)
      (fun _ => (applyReset_kept v f).trans (arbitrate_kept _)))
  | unknownRequestCode f code x => cases next; exact request_kept f _ _ x .refl
  | _ => cases own

/-- The requests that move a queue, and those that read directory and slots. -/
theorem queueRequest_kept {c : Instr}
    (own : c matches .writeCells .. | .start .. | .append .. | .stop .. | .readEntry .. | .listWindow .. | .findPrefix ..
      | .readSlots .. | .hitTest ..)
    (next : exec c s = .next t) : Kept s t := by
  cases c with
  | writeCells f x =>
    cases next
    refine request_kept f _ _ x (fun v => ?_)
    split
    · exact answer_kept v f _ _ _
    · refine .ite (fun _ => answer_kept v f _ _ _) (fun _ => set_kept v f _ _ _ _ (fun h => ?_))
      obtain ⟨image, ring⟩ := (face_canonical_iff _).mp h
      exact (face_canonical_iff _).mpr ⟨image, writeCellsAt_canonical ring _ _ _⟩
  | start f x =>
    cases next
    refine request_kept f _ _ x (fun v => ?_)
    split
    · exact .ite (fun _ => answer_kept v f _ _ _) (fun _ => .ite (fun _ => answer_kept v f _ _ _)
        (fun _ => (set_kept v f _ _ _ _ id).trans (arbitrate_kept _)))
    · exact answer_kept v f _ _ _
  | append f x =>
    cases next
    refine request_kept f _ _ x (fun v => ?_)
    split
    · exact answer_kept v f _ _ _
    · refine .ite (fun _ => answer_kept v f _ _ _) (fun _ => ?_)
      split
      · exact answer_kept v f _ _ _
      · exact .ite (fun _ => answer_kept v f _ _ _) (fun _ => set_kept v f _ _ _ _ id)
  | stop f x =>
    cases next
    exact request_kept f _ _ x (fun v => ((stopQueue_kept v f).trans (answer_kept _ f _ _ _)).trans (arbitrate_kept _))
  | readEntry f x => cases next; exact request_kept f _ _ x (fun v => query_kept v f _ _)
  | listWindow f x => cases next; exact request_kept f _ _ x (fun v => query_kept v f _ _)
  | findPrefix f x => cases next; exact request_kept f _ _ x (fun v => query_kept v f _ _)
  | readSlots f x => cases next; exact request_kept f _ _ x (fun v => takeSlotRead_kept v f _)
  | hitTest f x =>
    cases next
    exact request_kept f _ _ x (fun v => .ite (fun _ => answer_kept v f _ _ _) (fun _ => takeSlotRead_kept v f _))
  | _ => cases own

/-! ### Trunk frames -/

/-- What does not read the receiver, and what a frame's action keeps, a trunk command keeps. -/
theorem trunkFrame_holds {P : State → Prop} (feed : Feed) (mine : Byte → Bool) {act : State → Bytes → State × TrunkReply} (h : P s)
    (trunk : ∀ v tr, P v → P { v with trunk := tr }) (action : ∀ v data, P v → P (act v data).1) :
    P (s.trunkFrame feed mine act) := by
  unfold State.trunkFrame
  split
  · exact trunk s _ h
  · next tr fr _ =>
    have acted := action { s with trunk := tr } fr.data (trunk s tr h)
    split
    · unfold State.actOn
      dsimp only
      split
      · exact trunk _ _ acted
      · exact trunk _ _ acted
    · exact h

theorem withLength_holds {P : State → Prop} {n : Nat} {act : State → Bytes → State × TrunkReply} (data : Bytes) (h : P s)
    (action : P (act s data).1) : P (withLength n act s data).1 := by
  obtain same | acts := withLength_state n act s data
  · rw [same]; exact h
  · rw [acts]; exact action

theorem trunkFrame_kept (s : State) (feed : Feed) (mine : Byte → Bool) {act : State → Bytes → State × TrunkReply}
    (action : ∀ v data, Kept v (act v data).1) : Kept s (s.trunkFrame feed mine act) :=
  trunkFrame_holds feed mine (.refl s) (fun _ _ kept => kept.trans (.of_rest rfl rfl rfl)) (fun v data kept => kept.trans (action v data))

theorem alarm_kept (s : State) (data : Bytes) : Kept s (s.alarm data).1 := by
  unfold State.alarm
  split
  · exact .refl s
  · split
    · exact .refl s
    · exact (modEvac_kept s _ rfl).trans (lookSources_kept _)

theorem allClear_kept (s : State) : Kept s s.allClear.1 := by
  unfold State.allClear
  split
  · exact .refl s
  · exact (modEvac_kept s _ rfl).trans (lookSources_kept _)

/-- The frames that name no transaction, and the activity of the feed that takes none. -/
theorem trunk_kept {c : Instr}
    (own : c matches .alarmFrame .. | .allClearFrame .. | .pollFrame .. | .unknownFrameKind .. | .trunkFrameDropped ..
      | .trunkFrameTimeout .. | .turnaroundEnd | .replyEnd)
    (next : exec c s = .next t) : Kept s t := by
  cases c with
  | alarmFrame feed => cases next; exact trunkFrame_kept s feed _ (fun v data => withLength_holds data (.refl v) (alarm_kept v data))
  | allClearFrame feed => cases next; exact trunkFrame_kept s feed _ (fun v data => withLength_holds data (.refl v) (allClear_kept v))
  | pollFrame feed =>
    cases next
    refine trunkFrame_kept s feed _ (fun v data => withLength_holds data (.refl v) ?_)
    rw [poll_state]
    exact .refl v
  | unknownFrameKind feed => cases next; exact trunkFrame_kept s feed _ (fun v _ => .refl v)
  | trunkFrameDropped feed => cases next; split <;> exact .of_rest rfl rfl rfl
  | trunkFrameTimeout feed => cases next; split <;> exact .of_rest rfl rfl rfl
  | turnaroundEnd => cases next; exact .if (fun _ => .of_rest rfl rfl rfl)
  | replyEnd => cases next; exact .if (fun _ => .of_rest rfl rfl rfl)
  | _ => cases own

/-! ### Every such command -/

theorem exec_kept {c : Instr} (still : storesNothing c = true) (next : exec c s = .next t) : Kept s t := by
  cases c with
  | status | kick | readEvents | setMask | readFault | writeImage | setMap | setLanguage | setPalette | resetFace
  | unknownRequestCode => exact contextRequest_kept rfl next
  | writeCells | start | append | stop | readEntry | listWindow | findPrefix | readSlots | hitTest => exact queueRequest_kept rfl next
  | alarmFrame | allClearFrame | pollFrame | unknownFrameKind | trunkFrameDropped | trunkFrameTimeout | turnaroundEnd | replyEnd =>
    exact trunk_kept rfl next
  | resetRelease => cases next; exact .if (fun _ => .of_rest rfl rfl rfl)
  | configReadComplete bytes => cases next; exact .ite (fun _ => readEnd_kept s _ _) (fun _ => readEnd_kept s _ _)
  | configNoAcknowledge => cases next; exact readEnd_kept s _ _
  | configLimitExpiry => cases next; exact readEnd_kept s _ _
  | planeClearDone =>
    cases next
    refine .if (fun _ => .trans ?_ (tryLoadEnd_kept _))
    exact .of_rest rfl rfl rfl
  | fetch f clocked =>
    cases next
    exact .ite (fun _ => (shiftOut_kept s f _).trans (takeRequest_kept _ f)) (fun _ => shiftOut_kept s f _)
  | templateCellStep =>
    cases next
    split
    · refine .if (fun _ => ?_)
      split
      · exact templateStep_kept s _ _ _
      · exact .refl s
    · exact .refl s
  | pixelGroupWrite count => cases next; exact .ite (fun _ => .refl s) (fun _ => pixelGroup_kept s count)
  | routeEraseDone =>
    cases next
    split
    · exact .if (fun _ => eraseDone_kept s _)
    · exact .refl s
  | purgeGrant => cases next; exact .if (fun _ => purgeGrant_kept s)
  | frameStart f => cases next; exact .if (fun _ => frameStart_kept s f)
  | waitTimeExpiry f => cases next; exact .if (fun _ => withdraw_kept s f)
  | pulseTimeExpiry f => cases next; exact .if (fun _ => modSupervisor_kept s f _)
  | recoveryWindowExpiry f => cases next; exact .if (fun _ => windowExpired_kept s f)
  | evacLineChange => cases next; exact modEvac_kept s _ rfl
  | lineDebounceExpiry =>
    cases next
    have settled := modEvac_kept s (fun e => { e with debounce := .stopped, asserted := e.lineLow }) rfl
    exact .if (fun _ => .ite (fun _ => settled) (fun _ => settled.trans (lookSources_kept _)))
  | ecGrant => cases next; exact .if (fun _ => ecGrant_kept s)
  | viewDrawingEnd => cases next; exact .if (fun _ => viewEnd_kept s)
  | cycleTimerExpiry => cases next; exact .if (fun _ => cycleExpiry_kept s)
  | bandDrawingEnd => cases next; exact .if (fun _ => (modEvac_kept s _ rfl).trans (afterDrawing_kept _))
  | blankDrawingEnd => cases next; exact .if (fun _ => blankEnd_kept s)
  | _ => cases still

end Sys2Proof.Machine.Stores
end

section
/-! PROOFS. The commits of the stores, as one write of what is stored and what comes after it (R35 to R40). -/

namespace Sys2Proof.Machine.Stores

open Sys2Proof Sys2Proof.Machine Sys2Proof.Machine.UpdateTransactions Sys2Proof.Machine.NameOrder Sys2Proof.Machine.DrawQueues
  Sys2Proof.Machine.CardSlots

variable {s t : State}

theorem commitNotice_kept (s : State) (n : Nat) (new : EntryState) : Kept s (s.commitNotice n new) :=
  mapFaces_kept s _ (fun f own => by rw [notice_eq]; exact own)

/-- What came before a commit's end comes before it still (R40). -/
theorem commitDone_kept (kept : Kept s t) : Kept s.commitDone t.commitDone := by
  have update : t.update = s.update := congrArg Stored.update kept.same
  unfold State.commitDone
  rw [update]
  split
  · next x _ =>
    have done : stored (t.modUpdate (fun u => u.done x.tag)) = stored (s.modUpdate (fun u => u.done x.tag)) :=
      congrArg (fun st : Stored => { st with update := st.update.done x.tag }) kept.same
    exact ⟨done, kept.faces, kept.table⟩
  · exact kept

/-- What an entry commit writes of what is stored (R35). -/
def entryStored (s : State) (x : Txn) : State :=
  { s.setEntry x.number ⟨stateAfter x.op (s.entry x.number).state, (s.entry x.number).generation + 1,
      newImage x.op s.staged (s.entry x.number).image, newRoute x.op s.staged (s.entry x.number).route s.update.chain⟩ with
    routes := releaseOld x.op s.staged (s.entry x.number).route s.routes
    update := { s.update with chain := Chain.empty } }

theorem entryCommit_kept (s : State) (x : Txn) : Kept (entryStored s x) (s.entryCommit x) := by
  have moving : Kept (entryStored s x) { entryStored s x with orders := { s.orders with
      reposition := some ⟨x.number, (s.entry x.number).state, stateAfter x.op (s.entry x.number).state⟩ } } := .of_rest rfl rfl rfl
  exact ((moving.trans (commitNotice_kept _ _ _)).trans (raiseAll_kept _ _)).trans (noticeEntry_kept _ _)

theorem templateLoad_kept {x : Txn} (op : x.op = .load) :
    Kept (s.setTemplate x.number ⟨some ((s.template x.number).cells.getD []), (s.template x.number).use⟩).committing
      (s.templateCommit x) := by
  rw [templateCommit_load op]
  exact .of_rest rfl rfl rfl

theorem templateClear_kept {x : Txn} (op : x.op ≠ .load) :
    Kept (s.setTemplate x.number ⟨none, (s.template x.number).use⟩).commitDone (s.templateCommit x) := by
  rw [templateCommit_of_not_load op]
  exact raiseAll_kept _ _

theorem glyphLoad_kept {x : Txn} (op : x.op = .load) :
    Kept (s.setGlyphPage x.number (some ((s.glyphPage x.number).getD []))) (s.glyphCommit x) := by
  simp only [State.glyphCommit, op]
  exact .of_rest rfl rfl rfl

theorem glyphClear_kept {x : Txn} (op : x.op ≠ .load) : Kept (s.setGlyphPage x.number none).commitDone (s.glyphCommit x) := by
  unfold State.glyphCommit
  split
  · contradiction
  · exact raiseAll_kept _ _

theorem templateCopied_kept (s : State) (k : Nat) :
    Kept (s.setTemplate k { s.template k with cells := some s.staged }).commitDone (s.templateCopied k) := by
  refine .trans (commitDone_kept ?_) (raiseAll_kept _ _)
  exact .of_rest rfl rfl rfl

theorem glyphCopied_kept (s : State) (p : Nat) : Kept (s.setGlyphPage p (some s.staged)).commitDone (s.glyphCopied p) := by
  refine .trans (commitDone_kept ?_) ((raiseAll_kept _ _).trans (answerGlyph_kept _))
  exact .of_rest rfl rfl rfl

end Sys2Proof.Machine.Stores
end

section
/-! PROOFS. What every command keeps, once the operations that write what is stored are known to keep it (log 23). -/

namespace Sys2Proof.Machine.Stores

open Sys2Proof Sys2Proof.Machine Sys2Proof.Machine.UpdateTransactions Sys2Proof.Machine.NameOrder Sys2Proof.Machine.DrawQueues

variable {s t : State} {Q P : State → Prop}

/-- `P` is kept by the operations that write what is stored, where `Q` holds as a command begins. -/
structure Carried (Q P : State → Prop) : Prop where
  kept : ∀ {s t : State}, Kept s t → P s → P t
  openTxn : ∀ s data, P s → P (s.openTxn data).1
  chunk : ∀ s data, P s → P (s.chunk data).1
  stageFrame : ∀ s data, P s → P (s.stageFrame data).1
  close : ∀ s data, P s → P (s.close data).1
  abandon : ∀ s, P s → P s.abandon.1
  acceptPurge : ∀ s, P s → P s.acceptPurge
  releaseDeferred : ∀ s, P s → P s.releaseDeferred
  repositioned : ∀ s r, Q s → s.orders.reposition = some r → P s → P (s.listsMoved r).commitDone
  glyphCopied : ∀ s p, Q s → s.glyphs.copying = some p → P s → P (s.glyphCopied p)
  templateCopied : ∀ s k, Q s → s.templates.copying = some k → P s → P (s.templateCopied k)
  purged : ∀ s, P s → P (purgedState s)
  reset : ∀ pending lineLow, P (State.fullReset pending lineLow)

theorem Carried.trunkFrame (c : Carried Q P) (feed : Feed) (mine : Byte → Bool) {act : State → Bytes → State × TrunkReply} (h : P s)
    (action : ∀ v data, P v → P (act v data).1) : P (s.trunkFrame feed mine act) :=
  trunkFrame_holds feed mine h (fun _ _ => c.kept (.of_rest rfl rfl rfl)) action

theorem Carried.purge (c : Carried Q P) (h : P s) : P s.purge.1 := by
  obtain same | ⟨-, -, -, accepts⟩ := purge_cases s
  · rw [same]; exact h
  · rw [accepts]; exact c.acceptPurge s h

theorem Carried.segmentEnd (c : Carried Q P) (h : P s) (g : Segment) (fault : Option FaultReason) : P (s.segmentEnd g fault) :=
  c.kept ((applyHeldReset_kept _ _).trans (arbitrate_kept _)) (c.releaseDeferred _ (c.kept (endTaken_kept s g fault) h))

theorem Carried.faceGrant (c : Carried Q P) (h : P s) (f : Face) (claims : List Face) : P (s.faceGrant f claims) := by
  obtain same | ⟨g, -, ends | ⟨cell, begins⟩⟩ := faceGrant_cases s f claims
  · rw [same]; exact h
  · rw [ends]; exact c.segmentEnd (c.kept (granted_kept s f claims g) h) g none
  · rw [begins]; exact c.kept ((granted_kept s f claims g).trans (startCell_kept _ _ _)) h

/-- What the operations keep, every command keeps. -/
theorem Carried.exec (c : Carried Q P) {i : Instr} (start : Q s) (h : P s) (next : exec i s = .next t) : P t := by
  cases i with
  | fullReset => cases next; exact c.reset _ _
  | openFrame feed => cases next; exact c.trunkFrame feed _ h c.openTxn
  | chunkFrame feed => cases next; exact c.trunkFrame feed _ h c.chunk
  | waypointsFrame feed => cases next; exact c.trunkFrame feed _ h c.stageFrame
  | closeFrame feed => cases next; exact c.trunkFrame feed _ h c.close
  | abandonFrame feed =>
    cases next
    exact c.trunkFrame feed _ h (fun v data own => withLength_holds data own (c.abandon v own))
  | purgeFrame feed =>
    cases next
    exact c.trunkFrame feed _ h (fun _ data own => withLength_holds data own (c.purge own))
  | faceGrant =>
    cases next
    split
    · exact c.faceGrant h _ _
    · exact h
  | segmentCompletion =>
    cases next
    split
    · split
      · exact c.segmentEnd h _ _
      · exact h
    · exact h
  | segmentFault =>
    cases next
    split
    · split
      · exact c.segmentEnd h _ _
      · exact h
    · exact h
  | cutoffExpiry =>
    cases next
    have stopped : P (s.modEvac (fun e => { e with cutoff := .stopped })) := c.kept (modEvac_kept s _ rfl) h
    split
    · dsimp only
      split
      · exact c.segmentEnd stopped _ _
      · exact stopped
    · exact h
  | repositionDone =>
    cases next
    split
    · next r moving => exact c.kept (answerAllHeld_kept _ _) (c.repositioned s r start moving h)
    · exact h
  | glyphCopyDone =>
    cases next
    split
    · next p copying => exact c.glyphCopied s p start copying h
    · exact h
  | templateCopyDone =>
    cases next
    split
    · next k copying => exact c.kept (resumePush_kept _) (c.templateCopied s k start copying h)
    · exact h
  | purgeEnd =>
    cases next
    split
    · rw [purgeEnd_eq]
      exact c.kept ((answerAllHeld_kept _ _).trans (arbitrate_kept _)) (c.purged s h)
    · exact h
  | _ => exact c.kept (exec_kept rfl next) h

/-- And every step. -/
theorem Carried.step (c : Carried Q P) (moves : ∀ {s : State} rest, Q s → Q { s with pending := rest }) (start : Q s) (h : P s)
    (next : step s = .next t) : P t := by
  unfold Machine.step at next
  split at next
  · cases next
    exact c.kept (scanTick_kept s) h
  · next rest _ =>
    have taken : P { s with pending := rest } := c.kept (s := s) (.of_rest rfl rfl rfl) h
    exact c.exec (moves rest start) taken next

end Sys2Proof.Machine.Stores
end

section
/-! PROOFS. Every store keeps its canonical form (log 23). -/

namespace Sys2Proof.Machine.Stores

open Sys2Proof Sys2Proof.Machine Sys2Proof.Machine.UpdateTransactions Sys2Proof.Machine.NameOrder Sys2Proof.Machine.DisplayPlanes

variable {s t : State}

/-! ### The stores but Plane Memory -/

/-- Every store but Plane Memory is in its canonical form. -/
structure Canonical (s : State) : Prop where
  faces : ∀ f : Face, (s.face f).storesCanonical = true
  entries : Sparse.wf Entry.free s.directory = true
  images : ∀ n, Memory.wf (s.entry n).image = true
  pages : Sparse.wf none s.glyphs.pages = true
  glyphs : ∀ p, canonicalOpt (s.glyphPage p) = true
  table : TableCanonical s.templates.table
  languages : ∀ l : Fin 4, canonicalOpt s.languages[l] = true
  plans : ∀ z : Fin 8, canonicalOpt s.evac.plans[z] = true
  cells : Sparse.wf 0 s.routes.cells = true
  staged : Memory.wf s.staged = true

theorem storesCanonical_iff : s.storesCanonical ↔ planesCanonical s.planes ∧ Canonical s :=
  ⟨fun ⟨planes, faces, ⟨entries, images⟩, ⟨pages, glyphs⟩, table, languages, plans, cells, staged⟩ =>
      ⟨planes, faces, entries, images, pages, glyphs, table, languages, plans, cells, staged⟩,
    fun ⟨planes, h⟩ => ⟨planes, h.faces, ⟨h.entries, h.images⟩, ⟨h.pages, h.glyphs⟩, h.table, h.languages, h.plans, h.cells, h.staged⟩⟩

theorem Kept.canonical (kept : Kept s t) (h : Canonical s) : Canonical t := by
  have directory : t.directory = s.directory := congrArg Stored.directory kept.same
  have pages : t.glyphs.pages = s.glyphs.pages := congrArg Stored.pages kept.same
  have languages : t.languages = s.languages := congrArg Stored.languages kept.same
  have plans : t.evac.plans = s.evac.plans := congrArg Stored.plans kept.same
  have routes : t.routes = s.routes := congrArg Stored.routes kept.same
  have update : t.update = s.update := congrArg Stored.update kept.same
  have images (n : Nat) : t.entry n = s.entry n := by rw [State.entry, directory, State.entry]
  have glyphs (p : Nat) : t.glyphPage p = s.glyphPage p := by rw [State.glyphPage, pages, State.glyphPage]
  have staged : t.staged = s.staged := by rw [State.staged, update, State.staged]
  exact ⟨fun f => kept.faces f (h.faces f), directory ▸ h.entries, fun n => images n ▸ h.images n, pages ▸ h.pages,
    fun p => glyphs p ▸ h.glyphs p, kept.table h.table, languages ▸ h.languages, plans ▸ h.plans, routes ▸ h.cells, staged ▸ h.staged⟩

/-! ### Writes -/

theorem canonicalOpt_getD {m : Option Mem} {d : Mem} (h : canonicalOpt m = true) (blank : Memory.wf d = true) :
    Memory.wf (m.getD d) = true := by
  cases m with
  | none => exact blank
  | some m => exact h

theorem canonicalOpt_set {n : Nat} {v : Vector (Option Mem) n} {m : Option Mem} (h : ∀ i : Fin n, canonicalOpt v[i] = true) (k : Fin n)
    (own : canonicalOpt m = true) (i : Fin n) : canonicalOpt (v.set k m)[i] = true := by
  rw [Fin.getElem_fin, Vector.getElem_set]
  split
  · exact own
  · exact h i

namespace Canonical

/-- A new Update Controller whose staged image, if any, is canonical. -/
theorem updated (h : Canonical s) (u : Update) (staged : Memory.wf (State.staged { s with update := u }) = true) :
    Canonical { s with update := u } :=
  ⟨h.faces, h.entries, h.images, h.pages, h.glyphs, h.table, h.languages, h.plans, h.cells, staged⟩

theorem routed (h : Canonical s) (r : RouteStore) (cells : Sparse.wf 0 r.cells = true) : Canonical { s with routes := r } :=
  ⟨h.faces, h.entries, h.images, h.pages, h.glyphs, h.table, h.languages, h.plans, cells, h.staged⟩

theorem setEntry (h : Canonical s) (n : Nat) {e : Entry} (image : Memory.wf e.image = true) : Canonical (s.setEntry n e) := by
  refine ⟨h.faces, Sparse.wf_write _ _ n e h.entries, fun k => ?_, h.pages, h.glyphs, h.table, h.languages, h.plans, h.cells, h.staged⟩
  rw [setEntry_entry]
  split
  · exact image
  · exact h.images k

theorem setGlyphPage (h : Canonical s) (p : Nat) {v : Option Mem} (page : canonicalOpt v = true) : Canonical (s.setGlyphPage p v) := by
  refine ⟨h.faces, h.entries, h.images, Sparse.wf_write _ _ p v h.pages, fun k => ?_, h.table, h.languages, h.plans, h.cells, h.staged⟩
  rw [setGlyphPage_glyphPage]
  split
  · exact page
  · exact h.glyphs k

theorem setTemplate (h : Canonical s) (k : Nat) {v : Template} (cells : canonicalOpt v.cells = true) : Canonical (s.setTemplate k v) :=
  ⟨h.faces, h.entries, h.images, h.pages, h.glyphs, h.table.write k cells, h.languages, h.plans, h.cells, h.staged⟩

theorem setLanguage (h : Canonical s) (l : Fin 4) {v : Option Mem} (image : canonicalOpt v = true) :
    Canonical { s with languages := s.languages.set l v } :=
  ⟨h.faces, h.entries, h.images, h.pages, h.glyphs, h.table, canonicalOpt_set h.languages l image, h.plans, h.cells, h.staged⟩

theorem setPlan (h : Canonical s) (z : Fin 8) {v : Option Mem} (plan : canonicalOpt v = true) :
    Canonical (s.modEvac (fun e => { e with plans := e.plans.set z v })) :=
  ⟨h.faces, h.entries, h.images, h.pages, h.glyphs, h.table, h.languages, canonicalOpt_set h.plans z plan, h.cells, h.staged⟩

/-! ### The ends of transactions and commits -/

theorem endTxn (h : Canonical s) (o : TxnOutcome) : Canonical (s.endTxn o) := by
  cases txn : s.update.txn with
  | none => rw [endTxn_of_no_txn o txn]; exact h
  | some x =>
    rw [endTxn_of_txn o txn]
    exact (h.routed (s.routes.release s.update.chain) h.cells).updated _ rfl

theorem commitDone (h : Canonical s) : Canonical s.commitDone := by
  unfold State.commitDone
  split
  · exact h.updated _ rfl
  · exact h

theorem committing (h : Canonical s) : Canonical s.committing := h.updated _ h.staged

/-! ### OPEN, CHUNK and WAYPOINTS -/

theorem startImage (h : Canonical s) (k : TargetKind) (n : Nat) (op : Op) {i : Image} (starts : s.startImage k n op = some i) :
    Memory.wf i.bytes = true := by
  unfold State.startImage at starts
  split at starts <;> cases starts
  · decide
  · exact Memory.wf_write _ 20 0 (h.images n)
  · exact canonicalOpt_getD (h.table.2 n) rfl
  · exact canonicalOpt_getD (h.glyphs n) rfl
  · exact canonicalOpt_getD (h.languages _) (by decide)
  · exact canonicalOpt_getD (h.plans _) (by decide)

theorem beginTxn (h : Canonical s) (x : Txn) : Canonical (s.beginTxn x) := by
  refine h.updated _ ?_
  cases starts : s.startImage x.kind x.number x.op with
  | none => rfl
  | some i =>
    have image : Memory.wf i.bytes = true := h.startImage _ _ _ starts
    simpa only [State.staged] using image

theorem openChecked (h : Canonical s) (data : Bytes) : Canonical (s.openChecked data).1 := by
  have refused (tag : Word16) (o : TxnOutcome) : Canonical (s.record tag o) := h.updated _ h.staged
  unfold State.openChecked
  dsimp only
  split
  · split_ifs
    · exact refused _ _
    · exact refused _ _
    · exact refused _ _
    · exact h.beginTxn _
  · exact refused _ _

theorem openTxn (h : Canonical s) (data : Bytes) : Canonical (s.openTxn data).1 := by
  have displaced : Canonical (if s.update.state = .staging then s.endTxn .displaced else s) := by
    split
    · exact h.endTxn _
    · exact h
  unfold State.openTxn
  dsimp only
  split
  · exact displaced
  · split
    · exact displaced
    · exact displaced
    · exact displaced.openChecked data
    · exact displaced.openChecked data

theorem chunk (h : Canonical s) (data : Bytes) : Canonical (s.chunk data).1 := by
  unfold State.chunk
  split_ifs
  · rw [nakState_state]; exact h
  · exact h
  · split
    · exact h
    · next i image =>
      have staged : Memory.wf i.bytes = true := by simpa only [State.staged, image] using h.staged
      split
      · exact h
      · exact h.updated _ (Memory.wf_writeBytes _ _ _ staged)

theorem stageWaypoint_cells {w : Waypoint} {r r' : RouteStore} {c c' : Chain} (h : Sparse.wf 0 r.cells = true)
    (taken : stageWaypoint w (r, c) = some (r', c')) : Sparse.wf 0 r'.cells = true := by
  simp only [stageWaypoint] at taken
  split at taken
  · split at taken
    · simp only [Option.some.injEq, Prod.mk.injEq] at taken
      obtain ⟨rfl, -⟩ := taken
      exact Sparse.wf_write _ _ _ _ h
    · exact nomatch taken
  · simp only [Option.some.injEq, Prod.mk.injEq] at taken
    obtain ⟨rfl, -⟩ := taken
    exact Sparse.wf_write _ _ _ _ h

theorem stageWaypoints_cells {ws : List Waypoint} {r r' : RouteStore} {c c' : Chain} (h : Sparse.wf 0 r.cells = true)
    (taken : stageWaypoints ws (r, c) = some (r', c')) : Sparse.wf 0 r'.cells = true := by
  induction ws generalizing r c with
  | nil => cases taken; exact h
  | cons w ws ih =>
    rw [stageWaypoints, Option.bind_eq_some_iff] at taken
    obtain ⟨⟨q, d⟩, first, rest⟩ := taken
    exact ih (stageWaypoint_cells h first) rest

theorem stageFrame (h : Canonical s) (data : Bytes) : Canonical (s.stageFrame data).1 := by
  unfold State.stageFrame
  split_ifs
  · rw [nakState_state]; exact h
  · exact h
  · exact h
  · exact h
  · split
    · next r chain taken => exact (h.routed r (stageWaypoints_cells h.cells taken)).updated _ h.staged
    · exact h.endTxn _

/-! ### Commits -/

theorem templateCommit (h : Canonical s) (x : Txn) : Canonical (s.templateCommit x) := by
  by_cases op : x.op = .load
  · have loaded : Memory.wf ((s.template x.number).cells.getD []) = true := canonicalOpt_getD (h.table.2 x.number) rfl
    exact (templateLoad_kept op).canonical (h.setTemplate _ (by exact loaded)).committing
  · exact (templateClear_kept op).canonical (h.setTemplate _ (by exact rfl)).commitDone

theorem glyphCommit (h : Canonical s) (x : Txn) : Canonical (s.glyphCommit x) := by
  by_cases op : x.op = .load
  · have loaded : Memory.wf ((s.glyphPage x.number).getD []) = true := canonicalOpt_getD (h.glyphs x.number) rfl
    exact (glyphLoad_kept op).canonical (h.setGlyphPage x.number loaded)
  · exact (glyphClear_kept op).canonical (h.setGlyphPage x.number (by exact rfl)).commitDone

theorem languageCommit (h : Canonical s) (x : Txn) : Canonical (s.languageCommit x) := by
  refine (raiseAll_kept _ _).canonical (h.setLanguage _ ?_).commitDone
  split
  · exact h.staged
  · split <;> decide

theorem planCommit (h : Canonical s) (x : Txn) : Canonical (s.planCommit x) := by
  refine (noticePlan_kept _ _).canonical (h.setPlan _ ?_).commitDone
  split
  · exact h.staged
  · rfl

theorem entryCommit (h : Canonical s) (x : Txn) : Canonical (s.entryCommit x) := by
  have image : Memory.wf (newImage x.op s.staged (s.entry x.number).image) = true := by
    unfold newImage
    split
    · exact h.staged
    · exact h.staged
    · rfl
    all_goals exact h.images _
  have release : (releaseOld x.op s.staged (s.entry x.number).route s.routes).cells = s.routes.cells := by
    unfold releaseOld
    split
    · split <;> rfl
    · split <;> rfl
    · rfl
    · rfl
  have routed := (h.setEntry x.number (e := ⟨stateAfter x.op (s.entry x.number).state, (s.entry x.number).generation + 1,
    newImage x.op s.staged (s.entry x.number).image, newRoute x.op s.staged (s.entry x.number).route s.update.chain⟩) image).routed
    (releaseOld x.op s.staged (s.entry x.number).route s.routes) (release ▸ h.cells)
  exact (entryCommit_kept s x).canonical (routed.updated { s.update with chain := Chain.empty } h.staged)

theorem startCommit (h : Canonical s) (x : Txn) : Canonical (s.startCommit x) := by
  unfold State.startCommit
  split
  · exact h.committing.entryCommit x
  · exact h.committing.templateCommit x
  · exact h.committing.glyphCommit x
  · exact h.committing.languageCommit x
  · exact h.committing.planCommit x

theorem releaseDeferred (h : Canonical s) : Canonical s.releaseDeferred := by
  unfold State.releaseDeferred
  split
  · split
    · exact h.templateCommit _
    · exact h
  · exact h

theorem close (h : Canonical s) (data : Bytes) : Canonical (s.close data).1 := by
  unfold State.close
  split
  · split_ifs
    · exact h
    · exact h.endTxn _
    · exact h.endTxn _
    · exact h.updated _ h.staged
    · exact h.startCommit _
  · rw [nakState_state]; exact h

theorem abandon (h : Canonical s) : Canonical s.abandon.1 := by
  unfold State.abandon
  split
  · exact h.endTxn _
  · exact h.endTxn _
  · rw [nakState_state]; exact h
  · rw [nakState_state]; exact h

theorem acceptPurge (h : Canonical s) : Canonical s.acceptPurge :=
  (arbitrate_kept _).canonical ((h.endTxn .purged).updated _ (h.endTxn .purged).staged)

theorem templateCopied (h : Canonical s) (k : Nat) : Canonical (s.templateCopied k) :=
  (templateCopied_kept s k).canonical (h.setTemplate k (by exact h.staged)).commitDone

theorem glyphCopied (h : Canonical s) (p : Nat) : Canonical (s.glyphCopied p) :=
  (glyphCopied_kept s p).canonical (h.setGlyphPage p (v := some s.staged) h.staged).commitDone

theorem languagesReset_canonical : ∀ l : Fin 4, canonicalOpt languagesReset[l] = true := by decide

theorem plansReset_canonical : ∀ z : Fin 8, canonicalOpt (Vector.replicate 8 (none : Option Mem))[z] = true := by decide

theorem purged (h : Canonical s) : Canonical (purgedState s) := by
  have faces (f : Face) : ((purgedState s).face f).storesCanonical = true := by
    rw [purgedState_face]
    exact h.faces f
  exact ⟨faces, rfl, fun _ => rfl, rfl, fun _ => rfl, ⟨rfl, fun _ => rfl⟩, languagesReset_canonical, plansReset_canonical, rfl, h.staged⟩

theorem reset (pending : List Instr) (lineLow : Bool) : Canonical (State.fullReset pending lineLow) := by
  have faces (f : Face) : ((State.fullReset pending lineLow).face f).storesCanonical = true := by
    simp [State.face, State.fullReset, FaceContext.storesCanonical, FaceContext.reset, Queue.reset, Memory.wf, Sparse.wf, Sparse.rising]
  exact ⟨faces, rfl, fun _ => rfl, rfl, fun _ => rfl, ⟨rfl, fun _ => rfl⟩, languagesReset_canonical, plansReset_canonical, rfl, rfl⟩

end Canonical

theorem canonical_carried : Carried (fun _ => True) Canonical where
  kept := Kept.canonical
  openTxn _ data h := h.openTxn data
  chunk _ data h := h.chunk data
  stageFrame _ data h := h.stageFrame data
  close _ data h := h.close data
  abandon _ h := h.abandon
  acceptPurge _ h := h.acceptPurge
  releaseDeferred _ h := h.releaseDeferred
  repositioned s r _ _ h := (Kept.canonical (s := s) (t := s.listsMoved r) (.of_rest rfl rfl rfl) h).commitDone
  glyphCopied _ p _ _ h := h.glyphCopied p
  templateCopied _ k _ _ h := h.templateCopied k
  purged _ h := h.purged
  reset := Canonical.reset

/-! ### Plane Memory -/

theorem writeGroup_planes (h : planesCanonical s.planes) (count : Nat) : planesCanonical (s.writeGroup count).planes := by
  unfold State.writeGroup
  split
  · next p _ _ => exact plotRun_canonical p _ _ _ _ s.planes h
  · exact h
  · exact h

theorem pixelGroup_planes (s : State) (count : Nat) : (s.pixelGroup count).planes = (s.writeGroup count).planes := by
  unfold State.pixelGroup
  dsimp only
  split
  · split
    · exact congrArg Lasting.planes (lasting_workDone _ _)
    · rfl
  · rfl

/-- Only a pixel group writes values; a full reset and the end of the clearing empty every plane (R133). -/
theorem exec_planes {c : Instr} (h : planesCanonical s.planes) (next : exec c s = .next t) : planesCanonical t.planes := by
  have empty : planesCanonical (Vector.replicate 4 []) := fun p => by simp [Memory.wf, Sparse.wf, Sparse.rising]
  have still (own : writesPlanes c = false) : planesCanonical t.planes := by
    rw [(onlyTheirCommandsWrite c s t next).1 own]
    exact h
  cases c with
  | fullReset => cases next; exact empty
  | planeClearDone =>
    cases next
    split
    · rw [tryLoadEnd_planes]; exact empty
    · exact h
  | pixelGroupWrite count =>
    cases next
    split
    · exact h
    · rw [pixelGroup_planes]
      exact writeGroup_planes h count
  | _ => exact still rfl

/-- Settles O57: Plane Memory by the commands that write it, every other store by what each operation keeps (`Carried`). -/
theorem storesCanonicalKept : Obligations.StoresCanonicalKept := by
  intro s t sound next
  obtain ⟨planes, rest⟩ := storesCanonical_iff.mp sound
  refine storesCanonical_iff.mpr ⟨?_, canonical_carried.step (fun _ => id) trivial rest next⟩
  unfold step at next
  split at next
  · cases next
    exact planes
  · next rest _ => exact exec_planes (s := { s with pending := rest }) planes next

end Sys2Proof.Machine.Stores
end

section
/-! PROOFS. The partition of the route blocks among the free set, the chains of the entries and the staging chain (R11 to R14). -/

namespace Sys2Proof.Machine.Stores

open Sys2Proof Sys2Proof.Machine Sys2Proof.Machine.UpdateTransactions

/-! ### Chains -/

theorem wellBuilt_empty : Chain.empty.wellBuilt := ⟨List.nodup_nil, rfl, Nat.zero_le _⟩

/-- A chain of no waypoint has no block. -/
theorem eq_empty_of_count {c : Chain} (h : c.wellBuilt) (count : c.count = 0) : c = Chain.empty := by
  obtain ⟨-, length, -⟩ := h
  rw [count] at length
  obtain ⟨blocks, n⟩ := c
  have none : blocks = [] := List.eq_nil_of_length_eq_zero length
  subst none
  exact congrArg (Chain.mk []) count

/-! ### The owners of the blocks -/

/-- What holds a block that is not free: an entry by its number, or the staging chain (R12). -/
abbrev Owner := Option Nat

/-- The chain of an owner, empty for an entry with no route. -/
def ownerChain (s : State) : Owner → Chain
  | some n => ((s.entry n).route).getD Chain.empty
  | none => s.update.chain

/-- The chains of the owners partition the blocks that are not free (R12). -/
structure Partition (chain : Owner → Chain) (allocated : List Nat) : Prop where
  nodup : allocated.Nodup
  bound : ∀ b ∈ allocated, b < Config.blockCount
  held : ∀ b, b ∈ allocated ↔ ∃ o, b ∈ (chain o).blocks
  apart : ∀ o p, o ≠ p → ∀ b ∈ (chain o).blocks, b ∉ (chain p).blocks
  built : ∀ o, (chain o).wellBuilt

theorem mem_entry_blocks {s : State} {n b : Nat} :
    b ∈ (ownerChain s (some n)).blocks ↔ ∃ chain, (s.entry n).route = some chain ∧ b ∈ chain.blocks := by
  show b ∈ ((s.entry n).route.getD Chain.empty).blocks ↔ _
  cases (s.entry n).route with
  | none => simp [Chain.empty]
  | some chain => simp

/-- Only a transaction in STAGING that takes waypoints has a staging chain (R13). -/
def StagingOnly (s : State) : Prop :=
  s.update.chain ≠ Chain.empty → s.update.state = .staging ∧ s.update.txn.any Txn.takesWaypoints = true

/-- The soundness of the route blocks, the commit's apart. -/
structure Booked (s : State) : Prop where
  split : Partition (ownerChain s) s.routes.allocated
  staging : StagingOnly s

theorem routesSound_iff {s : State} : s.RoutesSound ↔ s.CommitSound ∧ Booked s := by
  constructor
  · intro ⟨commit, ⟨nodup, bound⟩, held, apart, stagedApart, ⟨stagedBuilt, built⟩, staging⟩
    refine ⟨commit, ⟨nodup, bound, fun b => ?_, ?_, ?_⟩, staging⟩
    · rw [held, Option.exists]
      simp only [mem_entry_blocks]
      rfl
    · rintro (- | n) (- | m) other b here there
      · exact other rfl
      · obtain ⟨chain, route, mem⟩ := mem_entry_blocks.mp there
        exact stagedApart m chain route b mem here
      · obtain ⟨chain, route, mem⟩ := mem_entry_blocks.mp here
        exact stagedApart n chain route b mem there
      · obtain ⟨chain, route, mem⟩ := mem_entry_blocks.mp here
        obtain ⟨chain', route', mem'⟩ := mem_entry_blocks.mp there
        exact apart n m chain chain' (fun same => other (congrArg some same)) route route' b mem mem'
    · rintro (- | n)
      · exact stagedBuilt
      · show ((s.entry n).route.getD Chain.empty).wellBuilt
        cases route : (s.entry n).route with
        | none => exact wellBuilt_empty
        | some chain => exact built n chain route
  · intro ⟨commit, ⟨nodup, bound, held, apart, built⟩, staging⟩
    have own {n : Nat} {chain : Chain} (route : (s.entry n).route = some chain) : ownerChain s (some n) = chain := by
      simp [ownerChain, route]
    refine ⟨commit, ⟨nodup, bound⟩, fun b => ?_, fun n m chain other ne route route' => ?_, fun n chain route => ?_,
      ⟨built none, fun n chain route => ?_⟩, staging⟩
    · rw [held, Option.exists]
      simp only [mem_entry_blocks]
      rfl
    · have := apart (some n) (some m) (fun same => ne (Option.some.inj same))
      rwa [own route, own route'] at this
    · have := apart (some n) none nofun
      rwa [own route] at this
    · have := built (some n)
      rwa [own route] at this

namespace Partition

variable {chain : Owner → Chain} {allocated : List Nat}

theorem empty : Partition (fun _ => Chain.empty) [] :=
  ⟨List.nodup_nil, nofun, fun b => by simp [Chain.empty], fun _ _ _ _ => nofun, fun _ => wellBuilt_empty⟩

/-- An owner gives its blocks back to the free set (R14). -/
theorem release (h : Partition chain allocated) (o : Owner) :
    Partition (Function.update chain o Chain.empty) (allocated.filter (fun b => !(chain o).blocks.contains b)) := by
  refine ⟨h.nodup.filter _, fun b mem => h.bound b (List.mem_of_mem_filter mem), fun b => ?_, fun p q ne b here => ?_, fun p => ?_⟩
  · simp only [List.mem_filter, h.held, Bool.not_eq_true', List.contains_eq_mem, decide_eq_false_iff_not]
    constructor
    · rintro ⟨⟨p, mem⟩, out⟩
      have ne : p ≠ o := by rintro rfl; exact out mem
      exact ⟨p, by rwa [Function.update_of_ne ne]⟩
    · rintro ⟨p, mem⟩
      by_cases ne : p = o
      · subst ne; simp [Chain.empty] at mem
      · rw [Function.update_of_ne ne] at mem
        exact ⟨⟨p, mem⟩, h.apart p o ne b mem⟩
  · by_cases same : p = o
    · subst same; simp [Chain.empty] at here
    · rw [Function.update_of_ne same] at here
      by_cases other : q = o
      · subst other; simp [Chain.empty]
      · rw [Function.update_of_ne other]
        exact h.apart p q ne b here
  · by_cases same : p = o
    · subst same; simpa using wellBuilt_empty
    · rw [Function.update_of_ne same]; exact h.built p

/-- An owner hands its chain to one that has none. -/
theorem give (h : Partition chain allocated) {o p : Owner} (ne : o ≠ p) (none : chain p = Chain.empty) :
    Partition (Function.update (Function.update chain o Chain.empty) p (chain o)) allocated := by
  have moved (q : Owner) : Function.update (Function.update chain o Chain.empty) p (chain o) q = chain (Equiv.swap o p q) := by
    by_cases hp : q = p
    · subst hp; simp
    · by_cases ho : q = o
      · subst ho; simp [ne, none]
      · rw [Function.update_of_ne hp, Function.update_of_ne ho, Equiv.swap_apply_of_ne_of_ne ho hp]
  refine ⟨h.nodup, h.bound, fun b => ?_, fun q r other => ?_, fun q => ?_⟩
  · simp only [moved, h.held]
    exact ((Equiv.swap o p).exists_congr_left (p := fun q => b ∈ (chain q).blocks)).trans (by simp)
  · simp only [moved]
    exact h.apart _ _ (fun same => other ((Equiv.swap o p).injective same))
  · rw [moved]; exact h.built _

/-- An owner's chain takes a free block (R13). -/
theorem take (h : Partition chain allocated) (o : Owner) {b : Nat} (free : b ∉ allocated) (bound : b < Config.blockCount) {c : Chain}
    (blocks : c.blocks = (chain o).blocks ++ [b]) (built : c.wellBuilt) :
    Partition (Function.update chain o c) (allocated.orderedInsert (· ≤ ·) b) := by
  have owned (p : Owner) (k : Nat) : k ∈ (Function.update chain o c p).blocks ↔ k ∈ (chain p).blocks ∨ p = o ∧ k = b := by
    by_cases same : p = o
    · subst same; simp [blocks]
    · simp [same]
  have new (p : Owner) : b ∉ (chain p).blocks := fun mem => free ((h.held b).mpr ⟨p, mem⟩)
  refine ⟨(List.perm_orderedInsert (· ≤ ·) b allocated).nodup_iff.mpr (List.nodup_cons.mpr ⟨free, h.nodup⟩),
    fun k mem => ?_, fun k => ?_, fun p q ne k here there => ?_, fun p => ?_⟩
  · obtain rfl | mem := (List.mem_orderedInsert (· ≤ ·)).mp mem
    · exact bound
    · exact h.bound k mem
  · simp only [List.mem_orderedInsert, h.held, owned]
    constructor
    · rintro (rfl | ⟨p, mem⟩)
      · exact ⟨o, .inr ⟨rfl, rfl⟩⟩
      · exact ⟨p, .inl mem⟩
    · rintro ⟨p, mem | ⟨-, rfl⟩⟩
      · exact .inr ⟨p, mem⟩
      · exact .inl rfl
  · rw [owned] at here there
    obtain here | ⟨own, rfl⟩ := here
    · obtain there | ⟨-, rfl⟩ := there
      · exact h.apart p q ne k here there
      · exact new p here
    · obtain there | ⟨other, -⟩ := there
      · exact new q there
      · exact ne (own.trans other.symm)
  · by_cases same : p = o
    · subst same; simpa using built
    · rw [Function.update_of_ne same]; exact h.built p

/-- An owner's chain goes on in its last block. -/
theorem fill (h : Partition chain allocated) (o : Owner) {c : Chain} (blocks : c.blocks = (chain o).blocks) (built : c.wellBuilt) :
    Partition (Function.update chain o c) allocated := by
  have owned (p : Owner) : (Function.update chain o c p).blocks = (chain p).blocks := by
    by_cases same : p = o
    · subst same; simp [blocks]
    · simp [same]
  refine ⟨h.nodup, h.bound, fun b => by simp only [owned, h.held], fun p q ne b => ?_, fun p => ?_⟩
  · rw [owned, owned]
    exact h.apart p q ne b
  · by_cases same : p = o
    · subst same; simpa using built
    · rw [Function.update_of_ne same]; exact h.built p

end Partition

/-! ### Waypoints -/

theorem mem_free {r : RouteStore} {b : Nat} : b ∈ r.free ↔ b < Config.blockCount ∧ b ∉ r.allocated := by
  simp [RouteStore.free]

/-- A waypoint goes into the chain's last block while that has a cell left (R13). -/
theorem stageWaypoint_of_part {r : RouteStore} {c : Chain} (w : Waypoint) (part : c.count % Config.blockCells ≠ 0) :
    stageWaypoint w (r, c) = some (⟨r.allocated,
        Sparse.write 0 r.cells (Config.blockCells * c.blocks.getLastD 0 + c.count % Config.blockCells) w⟩,
      ⟨c.blocks, c.count + 1⟩) := by
  simp only [stageWaypoint, if_neg part]

/-- A waypoint that needs a block takes the lowest free one (R13). -/
theorem stageWaypoint_of_full {r : RouteStore} {c : Chain} (w : Waypoint) (full : c.count % Config.blockCells = 0) {b : Nat}
    {rest : List Nat} (free : r.free = b :: rest) :
    stageWaypoint w (r, c) = some (⟨r.allocated.orderedInsert (· ≤ ·) b, Sparse.write 0 r.cells (Config.blockCells * b) w⟩,
      ⟨c.blocks ++ [b], c.count + 1⟩) := by
  simp only [stageWaypoint, if_pos full, free]

/-- A waypoint that needs a block is refused where none is free (R13). -/
theorem stageWaypoint_of_none {r : RouteStore} {c : Chain} (w : Waypoint) (full : c.count % Config.blockCells = 0)
    (free : r.free = []) : stageWaypoint w (r, c) = none := by
  simp only [stageWaypoint, if_pos full, free]

/-- A staged waypoint leaves the blocks partitioned (R13). -/
theorem stageWaypoint_partition {chain : Owner → Chain} {r r' : RouteStore} {c : Chain} {w : Waypoint} {o : Owner}
    (h : Partition chain r.allocated) (room : (chain o).count < 64) (taken : stageWaypoint w (r, chain o) = some (r', c)) :
    c.count = (chain o).count + 1 ∧ Partition (Function.update chain o c) r'.allocated := by
  obtain ⟨nodup, length, -⟩ := h.built o
  by_cases full : (chain o).count % Config.blockCells = 0
  · cases free : r.free with
    | nil =>
      rw [stageWaypoint_of_none w full free] at taken
      exact nomatch taken
    | cons b rest =>
      have mem : b ∈ r.free := free ▸ List.mem_cons_self
      obtain ⟨bound, out⟩ := mem_free.mp mem
      have new : ∀ k ∈ (chain o).blocks, k ≠ b := fun k mem same => out ((h.held b).mpr ⟨o, same ▸ mem⟩)
      rw [stageWaypoint_of_full w full free, Option.some.injEq, Prod.mk.injEq] at taken
      obtain ⟨rfl, rfl⟩ := taken
      refine ⟨rfl, h.take o out bound rfl ⟨?_, ?_, room⟩⟩
      · exact List.nodup_append.mpr ⟨nodup, List.nodup_singleton b, by simpa using new⟩
      · simp only [List.length_append, List.length_singleton, length]
        rw [Config.blockCells] at full
        omega
  · rw [stageWaypoint_of_part w full, Option.some.injEq, Prod.mk.injEq] at taken
    obtain ⟨rfl, rfl⟩ := taken
    refine ⟨rfl, h.fill o rfl ⟨nodup, ?_, room⟩⟩
    rw [Config.blockCells] at full
    simp only [length]
    omega

theorem stageWaypoints_partition {chain : Owner → Chain} {ws : List Waypoint} {r r' : RouteStore} {c : Chain} {o : Owner}
    (h : Partition chain r.allocated) (room : (chain o).count + ws.length ≤ 64)
    (taken : stageWaypoints ws (r, chain o) = some (r', c)) : Partition (Function.update chain o c) r'.allocated := by
  induction ws generalizing chain r with
  | nil =>
    cases taken
    rwa [Function.update_eq_self]
  | cons w ws ih =>
    rw [stageWaypoints, Option.bind_eq_some_iff] at taken
    obtain ⟨⟨q, d⟩, first, rest⟩ := taken
    rw [List.length_cons] at room
    obtain ⟨count, next⟩ := stageWaypoint_partition h (by omega) first
    have own : Function.update chain o d o = d := Function.update_self ..
    have after := ih next (by rw [own, count]; omega) (by rw [own]; exact rest)
    rwa [Function.update_idem] at after

end Sys2Proof.Machine.Stores
end

section
/-! PROOFS. Every step keeps the route blocks partitioned (R12 to R14), while the commit in flight stays sound. -/

namespace Sys2Proof.Machine.Stores

open Sys2Proof Sys2Proof.Machine Sys2Proof.Machine.UpdateTransactions Sys2Proof.Machine.NameOrder

variable {s t : State}

/-! ### The staging chain -/

theorem StagingOnly.of_empty (none : s.update.chain = Chain.empty) : StagingOnly s := fun some => absurd none some

theorem StagingOnly.chain_of_state (h : StagingOnly s) (out : s.update.state ≠ .staging) : s.update.chain = Chain.empty :=
  not_not.mp (fun some => out (h some).1)

theorem StagingOnly.chain_of_txn (h : StagingOnly s) (takes : ¬s.update.txn.any Txn.takesWaypoints = true) :
    s.update.chain = Chain.empty := not_not.mp (fun some => takes (h some).2)

/-- A transaction that ended holds no chain (R14). -/
theorem StagingOnly.endTxn_chain (h : StagingOnly s) (o : TxnOutcome) : (s.endTxn o).update.chain = Chain.empty := by
  cases txn : s.update.txn with
  | none =>
    rw [endTxn_of_no_txn o txn]
    exact h.chain_of_txn (by simp [txn])
  | some x =>
    rw [endTxn_of_txn o txn]
    rfl

/-! ### What leaves the entries their routes -/

theorem ownerChain_of_routes (routes : ∀ n, (t.entry n).route = (s.entry n).route) :
    ownerChain t = Function.update (ownerChain s) none t.update.chain := by
  funext o
  cases o with
  | none => simp [ownerChain]
  | some n => simp [ownerChain, routes]

theorem ownerChain_still (routes : ∀ n, (t.entry n).route = (s.entry n).route) (chain : t.update.chain = s.update.chain) :
    ownerChain t = ownerChain s := by
  rw [ownerChain_of_routes routes, chain]
  exact Function.update_eq_self ..

namespace Booked

/-- What leaves the entries their routes, the free set and the staging chain. -/
theorem still (h : Booked s) (routes : ∀ n, (t.entry n).route = (s.entry n).route) (free : t.routes.allocated = s.routes.allocated)
    (chain : t.update.chain = s.update.chain) (staging : StagingOnly t) : Booked t := by
  refine ⟨?_, staging⟩
  rw [ownerChain_still routes chain, free]
  exact h.split

/-- What leaves the entries their routes, and partitions the blocks with its staging chain. -/
theorem of_split (routes : ∀ n, (t.entry n).route = (s.entry n).route)
    (split : Partition (Function.update (ownerChain s) none t.update.chain) t.routes.allocated) (staging : StagingOnly t) :
    Booked t :=
  ⟨ownerChain_of_routes routes ▸ split, staging⟩

/-- What leaves the entries their routes and the free set, where nothing is staged. -/
theorem unstaged (h : Booked s) (routes : ∀ n, (t.entry n).route = (s.entry n).route) (free : t.routes.allocated = s.routes.allocated)
    (none : s.update.chain = Chain.empty) (chain : t.update.chain = Chain.empty) : Booked t :=
  h.still routes free (chain.trans none.symm) (.of_empty chain)

theorem kept (kept : Kept s t) (h : Booked s) : Booked t := by
  have directory : t.directory = s.directory := congrArg Stored.directory kept.same
  have routes : t.routes = s.routes := congrArg Stored.routes kept.same
  have update : t.update = s.update := congrArg Stored.update kept.same
  have entries (n : Nat) : t.entry n = s.entry n := by rw [State.entry, directory, State.entry]
  refine h.still (fun n => by rw [entries]) (by rw [routes]) (by rw [update]) ?_
  rw [StagingOnly, update]
  exact h.staging

/-! ### The ends of transactions and commits -/

theorem endTxn (h : Booked s) (o : TxnOutcome) : Booked (s.endTxn o) := by
  cases txn : s.update.txn with
  | none => rw [endTxn_of_no_txn o txn]; exact h
  | some x =>
    have ended := h.staging.endTxn_chain o
    rw [endTxn_of_txn o txn] at ended ⊢
    exact .of_split (s := s) (fun _ => rfl) (h.split.release none) (.of_empty ended)

theorem commitDone_chain (none : s.update.chain = Chain.empty) : s.commitDone.update.chain = Chain.empty := by
  unfold State.commitDone
  split
  · rfl
  · exact none

theorem commitDone (h : Booked s) (none : s.update.chain = Chain.empty) : Booked s.commitDone := by
  refine h.unstaged (fun n => ?_) ?_ none (commitDone_chain none)
  · unfold State.commitDone
    split <;> rfl
  · unfold State.commitDone
    split <;> rfl

/-! ### OPEN, CHUNK and WAYPOINTS -/

theorem openChecked (h : Booked s) (none : s.update.chain = Chain.empty) (data : Bytes) : Booked (s.openChecked data).1 := by
  have refused (tag : Word16) (o : TxnOutcome) : Booked (s.record tag o) := h.unstaged (fun _ => rfl) rfl none none
  unfold State.openChecked
  dsimp only
  split
  · split_ifs
    · exact refused _ _
    · exact refused _ _
    · exact refused _ _
    · exact h.unstaged (fun _ => rfl) rfl none rfl
  · exact refused _ _

theorem openTxn (h : Booked s) (data : Bytes) : Booked (s.openTxn data).1 := by
  have displaced : Booked (if s.update.state = .staging then s.endTxn .displaced else s) ∧
      (if s.update.state = .staging then s.endTxn .displaced else s).update.chain = Chain.empty := by
    split
    · exact ⟨h.endTxn _, h.staging.endTxn_chain _⟩
    · next out => exact ⟨h, h.staging.chain_of_state out⟩
  obtain ⟨booked, none⟩ := displaced
  unfold State.openTxn
  dsimp only
  split
  · exact booked
  · split
    · exact booked
    · exact booked
    · exact booked.openChecked none data
    · exact booked.openChecked none data

theorem chunk (h : Booked s) (data : Bytes) : Booked (s.chunk data).1 := by
  unfold State.chunk
  split_ifs
  · rw [nakState_state]; exact h
  · exact h
  · split
    · exact h
    · split
      · exact h
      · exact h.still (fun _ => rfl) rfl rfl h.staging

theorem stageFrame (h : Booked s) (data : Bytes) : Booked (s.stageFrame data).1 := by
  unfold State.stageFrame
  split_ifs with out length takes room
  · rw [nakState_state]; exact h
  · exact h
  · exact h
  · exact h
  · split
    · next r chain taken =>
      have fits : s.update.chain.count + (frameWaypoints data).length ≤ 64 := by
        rw [frameWaypoints, List.length_map, List.length_range]
        exact Nat.not_lt.mp room
      have takes : s.update.txn.any Txn.takesWaypoints = true := by simpa using takes
      exact .of_split (s := s) (fun _ => rfl) (stageWaypoints_partition (o := none) h.split fits taken)
        (fun _ => ⟨not_not.mp out, takes⟩)
    · exact h.endTxn _

/-! ### Commits -/

theorem templateCommit (h : Booked s) (none : s.update.chain = Chain.empty) (x : Txn) : Booked (s.templateCommit x) := by
  by_cases op : x.op = .load
  · have loaded := h.unstaged (t := (s.setTemplate x.number ⟨some ((s.template x.number).cells.getD []),
      (s.template x.number).use⟩).committing) (fun _ => rfl) rfl none none
    exact .kept (templateLoad_kept op) loaded
  · have cleared := h.unstaged (t := s.setTemplate x.number ⟨Option.none, (s.template x.number).use⟩) (fun _ => rfl) rfl none none
    exact .kept (templateClear_kept op) (cleared.commitDone none)

theorem glyphCommit (h : Booked s) (none : s.update.chain = Chain.empty) (x : Txn) : Booked (s.glyphCommit x) := by
  by_cases op : x.op = .load
  · have loaded := h.unstaged (t := s.setGlyphPage x.number (some ((s.glyphPage x.number).getD []))) (fun _ => rfl) rfl none none
    exact .kept (glyphLoad_kept op) loaded
  · have cleared := h.unstaged (t := s.setGlyphPage x.number Option.none) (fun _ => rfl) rfl none none
    exact .kept (glyphClear_kept op) (cleared.commitDone none)

theorem languageCommit (h : Booked s) (none : s.update.chain = Chain.empty) (x : Txn) : Booked (s.languageCommit x) := by
  refine .kept (raiseAll_kept _ _) (commitDone ?_ none)
  exact h.unstaged (fun _ => rfl) rfl none none

theorem planCommit (h : Booked s) (none : s.update.chain = Chain.empty) (x : Txn) : Booked (s.planCommit x) := by
  refine .kept (noticePlan_kept _ _) (commitDone ?_ none)
  exact h.unstaged (fun _ => rfl) rfl none none

end Booked

/-! ### Entry commits -/

/-- An entry commit that leaves the entry its route (R14). -/
def keepsRoute (op : Op) (image : Mem) : Bool :=
  match op with
  | .put | .patch => decide (imgRouteAction image = some .keep)
  | .remove => false
  | .hide | .show | .load | .clear => true

/-- An entry commit that gives the entry the staging chain (R14). -/
def takesStaged (op : Op) (image : Mem) : Bool :=
  match op with
  | .put | .patch => decide (imgRouteAction image = some .new)
  | .remove | .hide | .show | .load | .clear => false

theorem newRoute_eq (op : Op) (image : Mem) (old : Option Chain) (staged : Chain) : newRoute op image old staged =
    if takesStaged op image = true then some staged else if keepsRoute op image = true then old else none := by
  cases op with
  | put | patch =>
    simp only [newRoute, takesStaged, keepsRoute, decide_eq_true_eq]
    cases imgRouteAction image with
    | none => rfl
    | some action => cases action <;> rfl
  | _ => rfl

theorem releaseOld_eq (op : Op) (image : Mem) (old : Option Chain) (r : RouteStore) : releaseOld op image old r =
    if keepsRoute op image = true then r else r.release (old.getD Chain.empty) := by
  have nothing : r.release Chain.empty = r := by simp [RouteStore.release, Chain.empty]
  cases op <;> cases old <;> simp [releaseOld, keepsRoute, nothing]

theorem takesStaged_of_keeps {op : Op} {image : Mem} (keeps : keepsRoute op image = true) : takesStaged op image = false := by
  cases op with
  | put | patch =>
    have keep : imgRouteAction image = some .keep := of_decide_eq_true keeps
    simp [takesStaged, keep]
  | _ => rfl

theorem ownerChain_entryStored (s : State) (x : Txn) : ownerChain (entryStored s x) =
    Function.update (Function.update (ownerChain s) none Chain.empty) (some x.number)
      ((newRoute x.op s.staged (s.entry x.number).route s.update.chain).getD Chain.empty) := by
  funext o
  cases o with
  | none => simp [ownerChain, entryStored]
  | some n =>
    have entry : ((entryStored s x).entry n).route = if x.number = n then
        newRoute x.op s.staged (s.entry x.number).route s.update.chain else (s.entry n).route := by
      have written := setEntry_entry s x.number n ⟨stateAfter x.op (s.entry x.number).state, (s.entry x.number).generation + 1,
        newImage x.op s.staged (s.entry x.number).image, newRoute x.op s.staged (s.entry x.number).route s.update.chain⟩
      refine (congrArg Entry.route written).trans ?_
      split <;> rfl
    by_cases own : x.number = n
    · subst own
      simp [ownerChain, entry]
    · simp [ownerChain, entry, own, Ne.symm own]

/-- The blocks after an entry commit whose image takes what is staged, if something is (R14). -/
theorem entryStored_partition (h : Partition (ownerChain s) s.routes.allocated) (x : Txn)
    (agrees : takesStaged x.op s.staged = false → s.update.chain = Chain.empty) :
    Partition (ownerChain (entryStored s x)) (entryStored s x).routes.allocated := by
  have unstaged (none : s.update.chain = Chain.empty) : Function.update (ownerChain s) Option.none Chain.empty = ownerChain s :=
    (congrArg _ none.symm).trans (Function.update_eq_self ..)
  show Partition _ (releaseOld x.op s.staged (s.entry x.number).route s.routes).allocated
  rw [ownerChain_entryStored, newRoute_eq, releaseOld_eq]
  by_cases keeps : keepsRoute x.op s.staged = true
  · have none := agrees (takesStaged_of_keeps keeps)
    rw [if_pos keeps, if_pos keeps, takesStaged_of_keeps keeps, if_neg nofun, unstaged none]
    exact (Function.update_eq_self (some x.number) (ownerChain s)).symm ▸ h
  · rw [if_neg keeps, if_neg keeps]
    have released := h.release (some x.number)
    by_cases takes : takesStaged x.op s.staged = true
    · rw [if_pos takes]
      have given := released.give (o := none) (p := some x.number) nofun (Function.update_self ..)
      rw [Function.update_comm (β := fun _ => Chain) (a := some x.number) (b := none) nofun Chain.empty Chain.empty,
        Function.update_idem] at given
      exact given
    · rw [if_neg takes, unstaged (agrees (Bool.not_eq_true _ ▸ takes))]
      exact released

/-! ### CLOSE, ABANDON and PURGE -/

namespace Booked

theorem entryCommit (h : Partition (ownerChain s) s.routes.allocated) (x : Txn)
    (agrees : takesStaged x.op s.staged = false → s.update.chain = Chain.empty) : Booked (s.entryCommit x) :=
  .kept (entryCommit_kept s x) ⟨entryStored_partition h x agrees, .of_empty rfl⟩

/-- A commit that does not take the staging chain has none: by its format check, or by its operation (R14, R29, R33). -/
theorem staged_agrees (h : Booked s) {x : Txn} (txn : s.update.txn = some x) (target : x.kind = .entry) (format : s.formatOk x = true)
    (leaves : takesStaged x.op s.staged = false) : s.update.chain = Chain.empty := by
  have other (takes : x.takesWaypoints = false) : s.update.chain = Chain.empty := h.staging.chain_of_txn (by simp [txn, takes])
  have waypoints (op : x.op = .put ∨ x.op = .patch) : s.update.chain = Chain.empty := by
    have route : routeActionOk x.op s.staged s.update.chain.count = true := by
      rcases op with op | op <;> simp only [State.formatOk, target, op, Bool.and_eq_true] at format ⊢ <;> exact format.2
    have new : imgRouteAction s.staged ≠ some .new := by
      rcases op with op | op <;> simpa [takesStaged, op] using leaves
    refine eq_empty_of_count (h.split.built none) ?_
    unfold routeActionOk at route
    split at route
    · simp only [Bool.and_eq_true, decide_eq_true_eq] at route
      exact route.2
    · exact of_decide_eq_true route
    · next action => exact absurd action new
    · cases route
  by_cases op : x.op = .put ∨ x.op = .patch
  · exact waypoints op
  · exact other (by simp [Txn.takesWaypoints, op])

theorem startCommit (h : Booked s) {x : Txn} (txn : s.update.txn = some x) (format : s.formatOk x = true) :
    Booked (s.startCommit x) := by
  have none (target : x.kind ≠ .entry) : s.update.chain = Chain.empty :=
    h.staging.chain_of_txn (by simp [txn, Txn.takesWaypoints, target])
  have committing (target : x.kind ≠ .entry) : Booked s.committing :=
    h.unstaged (fun _ => rfl) rfl (none target) (none target)
  unfold State.startCommit
  split
  · next target => exact entryCommit (s := s.committing) h.split x (h.staged_agrees txn target format)
  · next target =>
    have other : x.kind ≠ .entry := by rw [target]; nofun
    exact (committing other).templateCommit (none other) x
  · next target =>
    have other : x.kind ≠ .entry := by rw [target]; nofun
    exact (committing other).glyphCommit (none other) x
  · next target =>
    have other : x.kind ≠ .entry := by rw [target]; nofun
    exact (committing other).languageCommit (none other) x
  · next target =>
    have other : x.kind ≠ .entry := by rw [target]; nofun
    exact (committing other).planCommit (none other) x

theorem releaseDeferred (h : Booked s) : Booked s.releaseDeferred := by
  unfold State.releaseDeferred
  split
  · next deferred _ =>
    split
    · exact h.templateCommit (h.staging.chain_of_state (by rw [deferred]; nofun)) _
    · exact h
  · exact h

theorem close (h : Booked s) (data : Bytes) : Booked (s.close data).1 := by
  unfold State.close
  split
  · next x _ txn =>
    split_ifs with length check format defers
    · exact h
    · exact h.endTxn _
    · exact h.endTxn _
    · obtain ⟨target, -⟩ := defers
      have none := h.staging.chain_of_txn (by simp [txn, Txn.takesWaypoints, target])
      exact h.unstaged (fun _ => rfl) rfl none none
    · exact h.startCommit txn (by simpa using format)
  · rw [nakState_state]; exact h

theorem abandon (h : Booked s) : Booked s.abandon.1 := by
  unfold State.abandon
  split
  · exact h.endTxn _
  · exact h.endTxn _
  · rw [nakState_state]; exact h
  · rw [nakState_state]; exact h

theorem acceptPurge (h : Booked s) : Booked s.acceptPurge := by
  have none := h.staging.endTxn_chain .purged
  have accepted := (h.endTxn .purged).unstaged
    (t := (s.endTxn .purged).modUpdate (fun u => { u with purging := true, state := .committing })) (fun _ => rfl) rfl none none
  exact .kept (arbitrate_kept _) accepted

/-! ### The copies, the reposition, the purge and the full reset -/

/-- The work of a commit in flight is done where nothing is staged (R22, R23). -/
theorem unstaged_of_work (h : Booked s) (commit : s.CommitSound)
    (work : s.orders.reposition.isSome = true ∨ s.glyphs.copying.isSome = true ∨ s.templates.copying.isSome = true) :
    s.update.chain = Chain.empty :=
  h.staging.chain_of_state (by rw [(commit.work work).1]; nofun)

theorem repositioned (h : Booked s) (none : s.update.chain = Chain.empty) (r : Reposition) : Booked (s.listsMoved r).commitDone := by
  have moved := h.unstaged (t := s.listsMoved r) (fun _ => rfl) rfl none none
  exact moved.commitDone none

theorem glyphCopied (h : Booked s) (none : s.update.chain = Chain.empty) (p : Nat) : Booked (s.glyphCopied p) := by
  have copied := h.unstaged (t := s.setGlyphPage p (some s.staged)) (fun _ => rfl) rfl none none
  exact .kept (glyphCopied_kept s p) (copied.commitDone none)

theorem templateCopied (h : Booked s) (none : s.update.chain = Chain.empty) (k : Nat) : Booked (s.templateCopied k) := by
  have copied := h.unstaged (t := s.setTemplate k { s.template k with cells := some s.staged }) (fun _ => rfl) rfl none none
  exact .kept (templateCopied_kept s k) (copied.commitDone none)

/-- With every entry FREE and nothing staged, every block is free (R12, R45). -/
theorem of_empty (directory : s.directory = []) (routes : s.routes = ⟨[], []⟩) (none : s.update.chain = Chain.empty) : Booked s := by
  have chains : ownerChain s = fun _ => Chain.empty := by
    funext o
    cases o with
    | none => exact none
    | some n => simp [ownerChain, State.entry, directory, Entry.free]
  refine ⟨?_, .of_empty none⟩
  rw [chains, routes]
  exact .empty

end Booked

theorem booked_carried : Carried State.CommitSound Booked where
  kept := Booked.kept
  openTxn _ data h := h.openTxn data
  chunk _ data h := h.chunk data
  stageFrame _ data h := h.stageFrame data
  close _ data h := h.close data
  abandon _ h := h.abandon
  acceptPurge _ h := h.acceptPurge
  releaseDeferred _ h := h.releaseDeferred
  repositioned _ r commit moving h := h.repositioned (h.unstaged_of_work commit (.inl (by rw [moving]; rfl))) r
  glyphCopied _ p commit copying h := h.glyphCopied (h.unstaged_of_work commit (.inr (.inl (by rw [copying]; rfl)))) p
  templateCopied _ k commit copying h := h.templateCopied (h.unstaged_of_work commit (.inr (.inr (by rw [copying]; rfl)))) k
  purged _ _ := .of_empty rfl rfl rfl
  reset _ _ := .of_empty rfl rfl rfl

/-- Settles O58: the commit in flight by `step_commitSound`, the partition by what each operation keeps (`Carried`). -/
theorem routesSoundKept : Obligations.RoutesSoundKept := by
  intro s t sound next
  obtain ⟨commit, booked⟩ := routesSound_iff.mp sound
  exact routesSound_iff.mpr ⟨step_commitSound commit next,
    booked_carried.step (fun _ commit => commitSound_of_views commit rfl rfl) commit booked next⟩

end Sys2Proof.Machine.Stores
end

section
/-! PROOFS. The full reset (R9, R16, R21, R22, R48, R105, R171, R185, R192): its values, and its soundness. -/

namespace Sys2Proof.Machine.Stores

open Sys2Proof Sys2Proof.Machine Sys2Proof.Machine.UpdateTransactions Sys2Proof.Machine.NameOrder Sys2Proof.Machine.DrawQueues
  Sys2Proof.Machine.CardSlots

theorem exec_fullReset (s : State) : exec .fullReset s = .next (State.fullReset s.pending s.evac.lineLow) := rfl

theorem fullReset_face (pending : List Instr) (lineLow : Bool) (f : Face) : (State.fullReset pending lineLow).face f = FaceContext.reset := by
  simp [State.fullReset, State.face]

theorem fullReset_planes (pending : List Instr) (lineLow : Bool) (p : Fin 4) : (State.fullReset pending lineLow).planes[p] = [] := by
  simp [State.fullReset]

theorem fullReset_commitSound (pending : List Instr) (lineLow : Bool) : (State.fullReset pending lineLow).CommitSound := by
  refine commitSound_iff.mpr ⟨fullReset_sound pending lineLow, ?_⟩
  rw [fullReset_ledger]
  exact Ledger.Resting.workSound ⟨rfl, rfl, rfl, rfl, rfl⟩

/-- Settles O4: each store reads as its full-reset value, and each face's context is the one of the full reset. -/
theorem fullResetValues : Obligations.FullResetValues := by
  intro s
  refine ⟨_, exec_fullReset s, rfl, rfl, rfl, fun _ => rfl, rfl, rfl, fun _ => rfl, rfl, rfl, fun _ => rfl, rfl, rfl, rfl, rfl, rfl, rfl,
    fullReset_planes _ _, rfl, rfl, fun f => ?_⟩
  rw [fullReset_face]
  rfl

/-- Settles O60: a full reset, from any state, meets each of the invariants; the part starts in one. -/
theorem resetIsSound : Obligations.ResetIsSound := by
  intro s t start
  obtain ⟨pending, lineLow, rfl⟩ : ∃ pending lineLow, s = State.fullReset pending lineLow := by
    obtain rfl | next := start
    · exact ⟨[], false, rfl⟩
    · cases next
      exact ⟨t.pending, t.evac.lineLow, rfl⟩
  have commit := fullReset_commitSound pending lineLow
  have planes : planesCanonical (State.fullReset pending lineLow).planes := fun p => by rw [fullReset_planes]; rfl
  exact ⟨stacksSound_iff.mpr ⟨commit.engine, (fullReset_empty pending lineLow).sound⟩,
    slotsSound_iff.mpr (fullReset_slotsSound pending lineLow),
    storesCanonical_iff.mpr ⟨planes, .reset pending lineLow⟩,
    routesSound_iff.mpr ⟨commit, booked_carried.reset pending lineLow⟩,
    listsSound_iff.mpr ⟨commit, .of_empty (fullReset_ledger pending lineLow)⟩⟩

end Sys2Proof.Machine.Stores
end

section
/-! PROOFS. An OPEN that is refused (R25 to R27): the check that fails, over the state that the displacement of R26 leaves. -/

namespace Sys2Proof.Machine.UpdateTransactions

open Sys2Proof Sys2Proof.Machine

/-! ### The checks -/

/-- A refusal that the record takes is answered with the tag that it takes (R23, R46). -/
theorem record_nak {s : State} (txn : s.update.txn = none) (tag : Word16) (o : TxnOutcome) (r : NakReason) :
    (s.record tag o).nak r = ({ s with update := { s.update with recordTag := tag, recordOutcome := o } }, .nak tag r) :=
  congrArg (fun given : Word16 => ((s.record tag o), TrunkReply.nak given r)) (replyTag_of_no_txn (s := s.record tag o) txn)

theorem openChecked_format {s : State} {data : Bytes}
    (fails : ∀ k op, TargetKind.ofCode (data.getD 2 0) = some k → Op.ofCode (data.getD 5 0) = some op → opAllowed k op = false) :
    s.openChecked data = (s.record (BitVec.ofNat 16 (num16 data 0)) (.refused .format)).nak .format := by
  unfold State.openChecked
  split
  · next k op target operation => simp [fails k op target operation]
  · rfl

theorem openChecked_range {s : State} {data : Bytes} {k : TargetKind} {op : Op} (target : TargetKind.ofCode (data.getD 2 0) = some k)
    (operation : Op.ofCode (data.getD 5 0) = some op) (allowed : opAllowed k op = true) (out : k.count ≤ num16 data 3) :
    s.openChecked data = (s.record (BitVec.ofNat 16 (num16 data 0)) (.refused .format)).nak .range := by
  simp only [State.openChecked, target, operation, allowed, out, Bool.not_true, Bool.false_eq_true, if_false, if_true]

theorem openChecked_state {s : State} {data : Bytes} {k : TargetKind} {op : Op} (target : TargetKind.ofCode (data.getD 2 0) = some k)
    (operation : Op.ofCode (data.getD 5 0) = some op) (allowed : opAllowed k op = true) (range : num16 data 3 < k.count)
    (entry : k = .entry) (fails : stateAllows op (s.entry (num16 data 3)).state = false) :
    s.openChecked data = (s.record (BitVec.ofNat 16 (num16 data 0)) (.refused .state)).nak .state := by
  subst entry
  unfold State.openChecked
  rw [target, operation]
  simp [allowed, Nat.not_le.mpr range, fails]

/-! ### What an OPEN is checked over -/

/-- An OPEN in `s` is checked over `base`, in which no transaction is held (R25, R26). -/
structure OpensOver (s base : State) : Prop where
  txn : base.update.txn = none
  entry : ∀ n, base.entry n = s.entry n
  opens : ∀ data : Bytes, s.openTxn data = if data.length ≠ 6 then base.nak .format else base.openChecked data

theorem opensOver_idle {s : State} (idle : s.update.state = .idle) (txn : s.update.txn = none) : OpensOver s s :=
  ⟨txn, fun _ => rfl, fun data => by simp only [State.openTxn, idle, reduceCtorEq, if_false]⟩

theorem opensOver_staging {s : State} {old : Txn} (staging : s.update.state = .staging) (txn : s.update.txn = some old) :
    OpensOver s { s with
      routes := s.routes.release s.update.chain
      update := { s.update with
        state := .idle, txn := none, image := none, chain := ⟨[], 0⟩, recordTag := old.tag, recordOutcome := .displaced } } := by
  refine ⟨rfl, fun _ => rfl, fun data => ?_⟩
  have idle : (s.endTxn .displaced).update.state = .idle := by rw [endTxn_of_txn _ txn]
  rw [← endTxn_of_txn _ txn]
  simp only [State.openTxn, staging, idle, if_true]

namespace OpensOver

variable {s base : State} {data : Bytes}

theorem length (h : OpensOver s base) (length : data.length ≠ 6) : s.openTxn data = (base, .nak base.update.recordTag .format) := by
  rw [h.opens, if_pos length, State.nak, replyTag_of_no_txn h.txn]

theorem checked (h : OpensOver s base) (length : data.length = 6) : s.openTxn data = base.openChecked data := by
  rw [h.opens, if_neg (not_not.mpr length)]

end OpensOver

theorem openTxn_short {s : State} {data : Bytes} (out : s.update.state ≠ .staging) (length : data.length ≠ 6) :
    s.openTxn data = s.nak .format := by
  simp [State.openTxn, out, length]

theorem openTxn_busy {s : State} {data : Bytes} (length : data.length = 6)
    (busy : s.update.state = .committing ∨ s.update.state = .deferred) : s.openTxn data = s.nak .busy := by
  rcases busy with busy | busy <;> simp [State.openTxn, busy, length]

/-! ### The tables -/

theorem opAllowed_iff (k : TargetKind) (op : Op) : opAllowed k op = true ↔
    (k = .entry ∧ (op = .put ∨ op = .patch ∨ op = .hide ∨ op = .show ∨ op = .remove)) ∨
    (k ≠ .entry ∧ (op = .load ∨ op = .clear)) := by
  cases k with
  | entry => cases op <;> simp [opAllowed]
  | _ => cases op <;> simp [opAllowed]

theorem stateAllows_iff (op : Op) (st : EntryState) : stateAllows op st = true ↔
    op = .put ∨ ((op = .patch ∨ op = .remove) ∧ (st = .live ∨ st = .hidden)) ∨ (op = .hide ∧ st = .live) ∨
    (op = .show ∧ st = .hidden) := by
  cases op <;> cases st <;> simp [stateAllows]

theorem targetKind_ofCode_iff (b : Byte) (k : TargetKind) : TargetKind.ofCode b = some k ↔ b =
    (match k with
     | .entry => 0
     | .template => 1
     | .glyphPage => 2
     | .language => 3
     | .evacPlan => 4) := by
  constructor
  · intro code
    unfold TargetKind.ofCode at code
    split at code <;> cases code
    all_goals next named => exact BitVec.eq_of_toNat_eq named
  · rintro rfl
    cases k <;> rfl

theorem op_ofCode_iff (b : Byte) (op : Op) : Op.ofCode b = some op ↔ b =
    (match op with
     | .put => 0
     | .patch => 1
     | .hide => 2
     | .show => 3
     | .remove => 4
     | .load => 5
     | .clear => 6) := by
  constructor
  · intro code
    unfold Op.ofCode at code
    split at code <;> cases code
    all_goals next named => exact BitVec.eq_of_toNat_eq named
  · rintro rfl
    cases op <;> rfl

theorem mem_release (r : RouteStore) (chain : Chain) (b : Nat) :
    b ∈ (r.release chain).allocated ↔ b ∈ r.allocated ∧ b ∉ chain.blocks := by
  simp [RouteStore.release]

/-- Settles O13: each check over the state that an OPEN is checked over (`OpensOver`), and the tables that the checks go by. -/
theorem openIsRefusedInOrder : Obligations.OpenIsRefusedInOrder := by
  refine ⟨?_, opAllowed_iff, ⟨rfl, rfl, rfl, rfl, rfl⟩, stateAllows_iff, fun s => ⟨replyTag_of_no_txn, fun x => replyTag_of_txn⟩,
    targetKind_ofCode_iff, op_ofCode_iff, fun r chain => ⟨rfl, mem_release r chain⟩⟩
  rintro s feed tr fr tag heard kind rfl
  have mine : (fr.kind == 0x01) = true := by simp [kind]
  rw [exec_openFrame]
  refine ⟨fun out length => ?_, fun length busy => ?_, fun base basis => ?_⟩
  · rw [trunkFrame_refuses heard mine (openTxn_short out length)]
  · rw [trunkFrame_refuses heard mine (openTxn_busy length busy)]
  · have basis : OpensOver { s with trunk := tr } { base with trunk := tr } := by
      obtain ⟨idle, txn, rfl⟩ | ⟨old, staging, txn, rfl⟩ := basis
      · exact opensOver_idle idle txn
      · exact opensOver_staging (s := { s with trunk := tr }) staging txn
    have refused {o : TxnOutcome} {r : NakReason} (length : fr.data.length = 6)
        (checked : State.openChecked { base with trunk := tr } fr.data =
          (State.record { base with trunk := tr } (BitVec.ofNat 16 (num16 fr.data 0)) o).nak r) :
        s.trunkFrame feed (· == 0x01) State.openTxn = { base with
          update := { base.update with recordTag := BitVec.ofNat 16 (num16 fr.data 0), recordOutcome := o }
          trunk := tr.answered fr.address (.nak (BitVec.ofNat 16 (num16 fr.data 0)) r) } := by
      rw [trunkFrame_answers heard mine ((basis.checked length).trans (checked.trans (record_nak basis.txn _ o r)))]
      rfl
    refine ⟨fun length => ?_, fun length => ⟨fun fails => ?_, fun k op target operation allowed => ⟨fun out => ?_,
      fun range entry fails => ?_⟩⟩⟩
    · rw [trunkFrame_answers heard mine (basis.length length)]
      rfl
    · rw [refused length (openChecked_format fails)]
    · rw [refused length (openChecked_range target operation allowed out)]
    · have fails : stateAllows op (State.entry { base with trunk := tr } (num16 fr.data 3)).state = false :=
        (congrArg (fun e : Entry => stateAllows op e.state) (basis.entry (num16 fr.data 3))).trans fails
      rw [refused length (openChecked_state target operation allowed range entry fails)]

end Sys2Proof.Machine.UpdateTransactions
end

section
/-! PROOFS. WAYPOINTS (R13, R29 to R31): what a frame carries, what it stages, and its refusals. -/

namespace Sys2Proof.Machine.UpdateTransactions

open Sys2Proof Sys2Proof.Machine

/-! ### The waypoints of a frame -/

theorem exec_waypointsFrame (feed : Feed) (s : State) :
    exec (.waypointsFrame feed) s = .next (s.trunkFrame feed (· == 0x03) State.stageFrame) := rfl

theorem frameWaypoints_one (a b c d : Byte) : frameWaypoints [a, b, c, d] = [a ++ b ++ c ++ d] := by
  simp [frameWaypoints, waypointAt]

theorem frameWaypoints_two (a b c d e f g h : Byte) :
    frameWaypoints [a, b, c, d, e, f, g, h] = [a ++ b ++ c ++ d, e ++ f ++ g ++ h] := by
  simp [frameWaypoints, waypointAt, List.range_succ]

theorem stageWaypoints_one (w : Waypoint) (p : RouteStore × Chain) : stageWaypoints [w] p = stageWaypoint w p := by
  show (stageWaypoint w p).bind some = _
  exact Option.bind_fun_some _

theorem stageWaypoints_two (w v : Waypoint) (p : RouteStore × Chain) :
    stageWaypoints [w, v] p = (stageWaypoint w p).bind (stageWaypoint v) := by
  show (stageWaypoint w p).bind (stageWaypoints [v]) = _
  rw [show stageWaypoints [v] = stageWaypoint v from funext (stageWaypoints_one v)]

theorem takesWaypoints_iff (x : Txn) : x.takesWaypoints = true ↔ x.kind = .entry ∧ (x.op = .put ∨ x.op = .patch) :=
  decide_eq_true_iff

/-! ### The frame -/

/-- A WAYPOINTS frame that passes its checks, up to the blocks it needs (R29). -/
structure WaypointsPass (s : State) (data : Bytes) (x : Txn) : Prop where
  staging : s.update.state = .staging
  txn : s.update.txn = some x
  length : data.length = 4 ∨ data.length = 8
  takes : x.takesWaypoints = true
  room : s.update.chain.count + data.length / 4 ≤ 64

section

variable {s : State} {data : Bytes} {x : Txn}

/-- What follows the checks of R29 to R31: the chain that the waypoints leave, or the end for want of a block (R13). -/
theorem stageFrame_checked (h : WaypointsPass s data x) : s.stageFrame data =
    (stageWaypoints (frameWaypoints data) (s.routes, s.update.chain)).elim ((s.endTxn (.refused .space)).nak .space)
      (fun p => (({ s with routes := p.1 }).modUpdate (fun u => { u with chain := p.2 })).ack) := by
  obtain ⟨staging, txn, length, takes, room⟩ := h
  have length : ¬(data.length ≠ 4 ∧ data.length ≠ 8) := by tauto
  have room : ¬Config.maxWaypoints < s.update.chain.count + data.length / 4 := Nat.not_lt.mpr room
  simp only [State.stageFrame, staging, txn, length, takes, room, Option.any_some, ne_eq, not_true_eq_false, if_false, Bool.not_true,
    Bool.false_eq_true]
  cases stageWaypoints (frameWaypoints data) (s.routes, s.update.chain) with
  | none => rfl
  | some p => rfl

theorem stageFrame_extends (h : WaypointsPass s data x) {r : RouteStore} {chain : Chain}
    (staged : stageWaypoints (frameWaypoints data) (s.routes, s.update.chain) = some (r, chain)) :
    s.stageFrame data = ({ s with routes := r, update := { s.update with chain := chain } }, .ack x.tag .staging) := by
  rw [stageFrame_checked h, staged]
  simp only [Option.elim_some, State.ack, State.replyTag, State.modUpdate, h.txn, h.staging]

theorem stageFrame_space (h : WaypointsPass s data x)
    (refused : stageWaypoints (frameWaypoints data) (s.routes, s.update.chain) = none) :
    s.stageFrame data = ({ s with
      routes := s.routes.release s.update.chain
      update := { s.update with
        state := .idle, txn := none, image := none, chain := ⟨[], 0⟩, recordTag := x.tag, recordOutcome := .refused .space } },
      .nak x.tag .space) := by
  rw [stageFrame_checked h, refused, Option.elim_none, endTxn_of_txn _ h.txn]
  rfl

theorem stageFrame_untaken (staging : s.update.state = .staging) (txn : s.update.txn = some x)
    (length : data.length = 4 ∨ data.length = 8) (takes : x.takesWaypoints = false) : s.stageFrame data = s.nak .state := by
  have length : ¬(data.length ≠ 4 ∧ data.length ≠ 8) := by tauto
  simp [State.stageFrame, staging, txn, length, takes]

theorem stageFrame_full (staging : s.update.state = .staging) (txn : s.update.txn = some x)
    (length : data.length = 4 ∨ data.length = 8) (takes : x.takesWaypoints = true)
    (full : 64 < s.update.chain.count + data.length / 4) : s.stageFrame data = s.nak .range := by
  have length : ¬(data.length ≠ 4 ∧ data.length ≠ 8) := by tauto
  have full : Config.maxWaypoints < s.update.chain.count + data.length / 4 := full
  simp [State.stageFrame, staging, txn, length, takes, full]

theorem stageFrame_length (staging : s.update.state = .staging) (four : data.length ≠ 4) (eight : data.length ≠ 8) :
    s.stageFrame data = s.nak .format := by
  simp [State.stageFrame, staging, four, eight]

theorem stageFrame_idle (idle : s.update.state = .idle) : s.stageFrame data = s.nak .state := by
  simp [State.stageFrame, idle, nakState_idle]

theorem stageFrame_busy (busy : s.update.state = .committing ∨ s.update.state = .deferred) : s.stageFrame data = s.nak .busy := by
  have out : s.update.state ≠ .staging := by rcases busy with h | h <;> simp [h]
  simp [State.stageFrame, out, nakState_busy busy]

end

/-- Settles O15, by the cases of R29 to R31. -/
theorem waypointsExtendChain : Obligations.WaypointsExtendChain := by
  refine ⟨frameWaypoints_one, frameWaypoints_two, fun w v p => ⟨stageWaypoints_one w p, fun refused => ?_, fun q staged => ?_⟩,
    takesWaypoints_iff, ?_⟩
  · rw [stageWaypoints_two, refused, Option.bind_none]
  · rw [stageWaypoints_two, staged, Option.bind_some]
  · intro s feed tr fr heard kind
    have mine : (fr.kind == 0x03) = true := by simp [kind]
    rw [exec_waypointsFrame]
    refine ⟨fun x staging txn length => ⟨fun takes room => ⟨fun r chain staged => ?_, fun refused => ?_⟩, fun takes => ?_,
      fun takes full => ?_⟩, fun staging four eight => ?_, fun idle => ?_, fun busy => ?_⟩
    · have passes : WaypointsPass { s with trunk := tr } fr.data x := ⟨staging, txn, length, takes, room⟩
      rw [trunkFrame_answers heard mine (stageFrame_extends passes staged)]
      rfl
    · have passes : WaypointsPass { s with trunk := tr } fr.data x := ⟨staging, txn, length, takes, room⟩
      rw [trunkFrame_answers heard mine (stageFrame_space passes refused)]
      rfl
    · rw [trunkFrame_refuses heard mine (stageFrame_untaken staging txn length takes), replyTag_of_txn txn]
    · rw [trunkFrame_refuses heard mine (stageFrame_full staging txn length takes full), replyTag_of_txn txn]
    · rw [trunkFrame_refuses heard mine (stageFrame_length staging four eight)]
    · rw [trunkFrame_refuses heard mine (stageFrame_idle idle)]
    · rw [trunkFrame_refuses heard mine (stageFrame_busy busy)]

end Sys2Proof.Machine.UpdateTransactions
end

section
/-! PROOFS. Where a staged waypoint stands, and what it leaves of every route (R11, R13, R30). -/

namespace Sys2Proof.Machine.Stores

open Sys2Proof Sys2Proof.Machine

variable {r r' : RouteStore} {c c' : Chain} {w : Waypoint}

/-! ### The waypoints of a chain -/

/-- The block of a chain's waypoint `k` (R11). -/
def blockOf (c : Chain) (k : Nat) : Nat := c.blocks.getD (k / 8) 0

theorem waypoints_eq (r : RouteStore) (c : Chain) :
    r.waypoints c = (List.range c.count).map (fun k => Sparse.read 0 r.cells (8 * blockOf c k + k % 8)) := rfl

theorem blockOf_mem (built : c.wellBuilt) {k : Nat} (inside : k < c.count) : blockOf c k ∈ c.blocks := by
  obtain ⟨-, length, -⟩ := built
  have place : k / 8 < c.blocks.length := by omega
  rw [blockOf, List.getD_eq_getElem _ _ place]
  exact List.getElem_mem place

/-- Two waypoints in one block are in the same eight of the chain. -/
theorem blockOf_inj (built : c.wellBuilt) {j k : Nat} (hj : j < c.count) (hk : k < c.count) (same : blockOf c j = blockOf c k) :
    j / 8 = k / 8 := by
  obtain ⟨nodup, length, -⟩ := built
  have first : j / 8 < c.blocks.length := by omega
  have second : k / 8 < c.blocks.length := by omega
  rw [blockOf, blockOf, List.getD_eq_getElem _ _ first, List.getD_eq_getElem _ _ second] at same
  exact (nodup.getElem_inj_iff).mp same

/-- A write to a cell of a block leaves the waypoints of a chain that does not have the block. -/
theorem waypoints_of_other (built : c.wellBuilt) {b : Nat} (apart : b ∉ c.blocks) {i : Nat} (cell : i < 8)
    (cells : r'.cells = Sparse.write 0 r.cells (8 * b + i) w) : r'.waypoints c = r.waypoints c := by
  rw [waypoints_eq, waypoints_eq]
  refine List.map_congr_left (fun k mem => ?_)
  have block : blockOf c k ≠ b := fun same => apart (same ▸ blockOf_mem built (List.mem_range.mp mem))
  rw [cells, Sparse.read_write, if_neg (by omega)]

/-- A chain one waypoint longer, whose last cell is written, has that waypoint at its end. -/
theorem waypoints_of_longer (built : c'.wellBuilt) (count : c'.count = c.count + 1)
    (blocks : ∀ k < c.count, blockOf c' k = blockOf c k)
    (cells : r'.cells = Sparse.write 0 r.cells (8 * blockOf c' c.count + c.count % 8) w) :
    r'.waypoints c' = r.waypoints c ++ [w] := by
  rw [waypoints_eq, waypoints_eq, count, List.range_succ, List.map_append, List.map_singleton, cells, Sparse.read_write, if_pos rfl]
  congr 1
  refine List.map_congr_left (fun k mem => ?_)
  have inside : k < c.count := List.mem_range.mp mem
  have other : 8 * blockOf c' c.count + c.count % 8 ≠ 8 * blockOf c' k + k % 8 := by
    intro same
    have := blockOf_inj (j := k) (k := c.count) built (by omega) (by omega) (by omega)
    omega
  rw [Sparse.read_write, if_neg other, blocks k inside]

/-! ### One waypoint staged -/

/-- What the staging of a waypoint leaves: the chain is longer by it, keeps its blocks, and has it in its last cell (R13). -/
structure StagedLast (r r' : RouteStore) (c c' : Chain) (w : Waypoint) : Prop where
  count : c'.count = c.count + 1
  blocks : ∀ k < c.count, blockOf c' k = blockOf c k
  cells : r'.cells = Sparse.write 0 r.cells (8 * blockOf c' c.count + c.count % 8) w

theorem stagedLast (built : c.wellBuilt) (taken : stageWaypoint w (r, c) = some (r', c')) : StagedLast r r' c c' w := by
  obtain ⟨-, length, -⟩ := built
  by_cases full : c.count % Config.blockCells = 0
  · cases free : r.free with
    | nil =>
      rw [stageWaypoint_of_none w full free] at taken
      exact nomatch taken
    | cons b rest =>
      rw [stageWaypoint_of_full w full free, Option.some.injEq, Prod.mk.injEq] at taken
      obtain ⟨rfl, rfl⟩ := taken
      rw [Config.blockCells] at full
      have place : c.count / 8 = c.blocks.length := by omega
      refine ⟨rfl, fun k inside => ?_, ?_⟩
      · exact List.getD_append _ _ _ _ (by omega)
      · have last : blockOf ⟨c.blocks ++ [b], c.count + 1⟩ c.count = b := by simp [blockOf, place]
        rw [last, full]
        rfl
  · rw [stageWaypoint_of_part w full, Option.some.injEq, Prod.mk.injEq] at taken
    obtain ⟨rfl, rfl⟩ := taken
    rw [Config.blockCells] at full
    have last : c.blocks.getLastD 0 = blockOf c c.count := by
      rw [blockOf, List.getLastD_eq_getLast?, List.getLast?_eq_getElem?, List.getD_eq_getElem?_getD,
        show c.blocks.length - 1 = c.count / 8 by omega]
    exact ⟨rfl, fun _ _ => rfl, congrArg (fun b => Sparse.write 0 r.cells (8 * b + c.count % 8) w) last⟩

/-- The block taken is the lowest free one (R13). -/
theorem free_lowest {b : Nat} {rest : List Nat} (free : r.free = b :: rest) {a : Nat} (less : a < b) : a ∈ r.allocated := by
  have bound : b < Config.blockCount := (mem_free.mp (free ▸ List.mem_cons_self : b ∈ r.free)).1
  by_contra out
  have mem : a ∈ b :: rest := free ▸ mem_free.mpr ⟨less.trans bound, out⟩
  have sorted : (b :: rest).Pairwise (· < ·) := free ▸ List.pairwise_lt_range.filter _
  obtain rfl | mem := List.mem_cons.mp mem
  · exact absurd less (lt_irrefl _)
  · exact absurd less (not_lt.mpr (le_of_lt (List.rel_of_pairwise_cons sorted mem)))

theorem stageWaypoint_eq_none : stageWaypoint w (r, c) = none ↔ c.count % 8 = 0 ∧ ∀ b, b < 512 → b ∈ r.allocated := by
  rw [← RouteStore.free_eq_nil]
  by_cases full : c.count % Config.blockCells = 0
  · cases free : r.free with
    | nil => exact ⟨fun _ => ⟨full, rfl⟩, fun _ => stageWaypoint_of_none w full free⟩
    | cons b rest => rw [stageWaypoint_of_full w full free]; exact ⟨nofun, nofun⟩
  · rw [stageWaypoint_of_part w full]
    exact ⟨nofun, fun h => absurd h.1 full⟩

/-- Settles O16: the new waypoint is in a cell of its own chain's last block, which no other waypoint has. -/
theorem stagedWaypointEndsTheRoute : Obligations.StagedWaypointEndsTheRoute := by
  intro s w sound room
  obtain ⟨-, booked⟩ := routesSound_iff.mp sound
  refine ⟨stageWaypoint_eq_none, fun r chain taken => ?_⟩
  have staged := stagedLast (booked.split.built none) taken
  obtain ⟨-, after⟩ := stageWaypoint_partition (o := none) booked.split room taken
  have own : Function.update (ownerChain s) none chain none = chain := Function.update_self ..
  have built : chain.wellBuilt := own ▸ after.built none
  have last : blockOf chain s.update.chain.count ∈ chain.blocks := blockOf_mem built (by rw [staged.count]; exact Nat.lt_succ_self _)
  refine ⟨waypoints_of_longer built staged.count staged.blocks staged.cells, fun n other route => ?_, fun part => ?_, fun full => ?_⟩
  · have entry : Function.update (ownerChain s) none chain (some n) = other := by simp [ownerChain, route]
    refine waypoints_of_other (entry ▸ after.built (some n)) ?_ (Nat.mod_lt _ (by omega)) staged.cells
    have apart := after.apart none (some n) nofun
    rw [own, entry] at apart
    exact apart _ last
  · rw [stageWaypoint_of_part w part, Option.some.injEq, Prod.mk.injEq] at taken
    obtain ⟨rfl, rfl⟩ := taken
    exact ⟨rfl, rfl⟩
  · cases free : s.routes.free with
    | nil =>
      rw [stageWaypoint_of_none w full free] at taken
      exact nomatch taken
    | cons b rest =>
      obtain ⟨bound, out⟩ := mem_free.mp (free ▸ List.mem_cons_self : b ∈ s.routes.free)
      rw [stageWaypoint_of_full w full free, Option.some.injEq, Prod.mk.injEq] at taken
      obtain ⟨rfl, rfl⟩ := taken
      exact ⟨b, rfl, bound, out, fun a less => free_lowest free less, fun a => List.mem_orderedInsert (· ≤ ·)⟩

end Sys2Proof.Machine.Stores
end

section
/-! PROOFS. A CLOSE that is refused (R31 to R33): the CRC-16 and its content, and the format check byte by byte. -/

namespace Sys2Proof.Machine.UpdateTransactions

open Sys2Proof Sys2Proof.Machine

/-! ### The CRC-16 and its content -/

/-- The CRC-16 goes on by one byte as its serial register does, bit by bit (R32). -/
theorem crc16_snoc (bs : Bytes) (b : Byte) (r : Nat → Word16) (start : r 0 = crc16 bs)
    (shifts : ∀ i, i < 8 → r (i + 1) = (r i <<< 1) ^^^ (if (r i).getLsbD 15 = b.getLsbD (7 - i) then 0 else 0x1021)) :
    crc16 (bs ++ [b]) = r 8 := by
  rw [← crc16Byte_serial b r shifts, start]
  simp [crc16]

theorem crcContent_eq (s : State) (image : Bytes) (absent : s.update.image = none → image = [])
    (present : ∀ i, s.update.image = some i → image = (List.range i.size).map i.bytes.read) :
    s.crcContent = image ++ (s.routes.waypoints s.update.chain).flatMap Waypoint.bytes := by
  unfold State.crcContent
  cases held : s.update.image with
  | none => rw [absent held]
  | some i => simp [present i held, Mem.readBytes]

theorem waypoints_length (r : RouteStore) (chain : Chain) : (r.waypoints chain).length = chain.count := by
  simp [RouteStore.waypoints]

theorem waypoints_getElem? (r : RouteStore) (chain : Chain) {k : Nat} (inside : k < chain.count) :
    (r.waypoints chain)[k]? = some (Sparse.read 0 r.cells (8 * chain.blocks.getD (k / 8) 0 + k % 8)) := by
  simp [RouteStore.waypoints, inside, Config.blockCells]

/-! ### The refusals -/

section

variable {s : State} {data : Bytes} {x : Txn}

theorem close_length (staging : s.update.state = .staging) (txn : s.update.txn = some x) (length : data.length ≠ 2) :
    s.close data = s.nak .format := by
  simp [State.close, staging, txn, length]

/-- A transaction that CLOSE ends without a commit (R14, R46). -/
theorem endTxn_nak (txn : s.update.txn = some x) (o : TxnOutcome) (r : NakReason) :
    (s.endTxn o).nak r = ({ s with
      routes := s.routes.release s.update.chain
      update := { s.update with
        state := .idle, txn := none, image := none, chain := ⟨[], 0⟩, recordTag := x.tag, recordOutcome := o } },
      .nak x.tag r) := by
  rw [endTxn_of_txn o txn]
  rfl

theorem close_check (staging : s.update.state = .staging) (txn : s.update.txn = some x) (length : data.length = 2)
    (differs : (crc16 s.crcContent).toNat ≠ num16 data 0) : s.close data = (s.endTxn (.refused .check)).nak .check := by
  simp [State.close, staging, txn, length, differs]

theorem close_format (staging : s.update.state = .staging) (txn : s.update.txn = some x) (length : data.length = 2)
    (agrees : (crc16 s.crcContent).toNat = num16 data 0) (fails : s.formatOk x = false) :
    s.close data = (s.endTxn (.refused .format)).nak .format := by
  simp [State.close, staging, txn, length, agrees, fails]

theorem close_idle (idle : s.update.state = .idle) : s.close data = s.nak .state := by
  simp [State.close, idle, nakState_idle]

theorem close_busy (busy : s.update.state = .committing ∨ s.update.state = .deferred) : s.close data = s.nak .busy := by
  rcases busy with h | h <;> simp [State.close, h, nakState_busy]

end

/-! ### The format check -/

/-- A bound on each of a field's codes, place by place (R196). -/
theorem all_codes_iff (m : Mem) (a n bound : Nat) :
    (m.codes a n).all (fun c => decide (c < bound)) = true ↔ ∀ i, i < n → m.num16 (a + 2 * i) < bound := by
  simp [Mem.codes]

theorem nameOk_iff (m : Mem) (l : Fin 4) : nameOk m l = true ↔ m.num (21 + 49 * l.val) ≤ 24 ∧
    ∀ i, i < m.num (21 + 49 * l.val) → m.num16 (22 + 49 * l.val + 2 * i) < 4096 := by
  have first : nameOffset l + 1 = 22 + 49 * l.val := by rw [nameOffset]; omega
  rw [nameOk, Bool.and_eq_true, decide_eq_true_iff, all_codes_iff, first]
  rfl

theorem messageOk_iff (m : Mem) (l : Fin 4) : messageOk m l = true ↔ m.num (60 + 61 * l.val) ≤ 30 ∧
    ∀ i, i < m.num (60 + 61 * l.val) → m.num16 (61 + 61 * l.val + 2 * i) < 4096 := by
  have first : messageOffset l + 1 = 61 + 61 * l.val := by rw [messageOffset]; omega
  rw [messageOk, Bool.and_eq_true, decide_eq_true_iff, all_codes_iff, first]
  rfl

theorem forall_languages {p : Fin 4 → Prop} : (∀ l, p l) ↔ p 0 ∧ p 1 ∧ p 2 ∧ p 3 :=
  ⟨fun h => ⟨h 0, h 1, h 2, h 3⟩, fun ⟨h0, h1, h2, h3⟩ l => by fin_cases l <;> assumption⟩

theorem imgRouteAction_eq (m : Mem) : imgRouteAction m =
    if m.num 20 = 0 then some .keep else if m.num 20 = 1 then some .none else if m.num 20 = 2 then some .new else none := by
  unfold imgRouteAction
  split
  · next keep => rw [if_pos keep]
  · next none => simp [none]
  · next new => simp [new]
  · next keep none new => rw [if_neg keep, if_neg none, if_neg new]

/-- The route action as a byte, with the operation and the staged waypoints it goes with (R14, R33). -/
theorem routeActionOk_iff {op : Op} (takes : op = .put ∨ op = .patch) (m : Mem) (count : Nat) : routeActionOk op m count = true ↔
    (m.num 20 = 0 ∧ op = .patch ∧ count = 0) ∨ (m.num 20 = 1 ∧ count = 0) ∨ (m.num 20 = 2 ∧ 2 ≤ count ∧ count ≤ 64) := by
  have kept : op ≠ .put ↔ op = .patch := by rcases takes with rfl | rfl <;> simp
  rw [routeActionOk, imgRouteAction_eq]
  by_cases keep : m.num 20 = 0
  · simp [keep, kept]
  · by_cases none : m.num 20 = 1
    · simp [none]
    · by_cases new : m.num 20 = 2
      · simp [new]
      · simp [keep, none, new]

theorem entryImageOk_iff (m : Mem) : entryImageOk m = true ↔
    (1 ≤ m.num 0 ∧ m.num 0 ≤ 6 ∧ (∀ i, i < m.num 0 → m.num16 (1 + 2 * i) < 64)) ∧
    (m.num 13 ≤ 7 ∧ m.num 14 ≤ 63 ∧ m.num 15 ≤ 2 ∧ m.num16 16 ≤ 4095 ∧ m.num16 18 ≤ 4095) ∧
    (1 ≤ m.num 21 ∧ ∀ l : Fin 4, m.num (21 + 49 * l.val) ≤ 24 ∧
      ∀ i, i < m.num (21 + 49 * l.val) → m.num16 (22 + 49 * l.val + 2 * i) < 4096) := by
  have first : nameOffset 0 = 21 := rfl
  simp only [← nameOk_iff, forall_languages, entryImageOk, imgUnit, Bool.and_eq_true, decide_eq_true_eq, all_codes_iff, first, and_assoc]

theorem window_inRange_iff (w : MapWindow) : w.inRange = true ↔
    w.cx ≤ 1079 ∧ w.cy ≤ 1919 ∧ w.mx ≤ 4095 ∧ w.my ≤ 4095 ∧ w.level ≤ 7 ∧ 1 ≤ w.scale ∧ w.scale ≤ 16 := by
  simp only [MapWindow.inRange, Bool.and_eq_true, decide_eq_true_eq, and_assoc]

theorem planImageOk_iff (m : Mem) : planImageOk m = true ↔
    (m.num16 0 ≤ 1023 ∨ m.num16 0 = 0xFFFF) ∧
    (m.num16 2 ≤ 1079 ∧ m.num16 4 ≤ 1919 ∧ m.num16 6 ≤ 4095 ∧ m.num16 8 ≤ 4095 ∧ m.num 10 ≤ 7 ∧ 1 ≤ m.num 11 ∧ m.num 11 ≤ 16) ∧
    ∀ l : Fin 4, m.num (60 + 61 * l.val) ≤ 30 ∧
      ∀ i, i < m.num (60 + 61 * l.val) → m.num16 (61 + 61 * l.val + 2 * i) < 4096 := by
  have window : (planWindow m).inRange = true ↔ m.num16 2 ≤ 1079 ∧ m.num16 4 ≤ 1919 ∧ m.num16 6 ≤ 4095 ∧ m.num16 8 ≤ 4095 ∧
      m.num 10 ≤ 7 ∧ 1 ≤ m.num 11 ∧ m.num 11 ≤ 16 := window_inRange_iff _
  simp only [← messageOk_iff, forall_languages, planImageOk, window, Bool.and_eq_true, Bool.or_eq_true, decide_eq_true_eq, and_assoc]

theorem languageImageOk_iff (m : Mem) : languageImageOk m = true ↔ m.num 0 ≤ 1 ∧ (m.num16 2 ≤ 4095 ∨ m.num16 2 = 0xFFFF) := by
  simp only [languageImageOk, Bool.and_eq_true, Bool.or_eq_true, decide_eq_true_iff]
  omega

theorem formatOk_entry (s : State) {x : Txn} (target : x.kind = .entry) (takes : x.op = .put ∨ x.op = .patch) :
    s.formatOk x = (entryImageOk s.staged && routeActionOk x.op s.staged s.update.chain.count) := by
  rcases takes with op | op <;> simp only [State.formatOk, target, op]

theorem formatOk_language (s : State) {x : Txn} (target : x.kind = .language) (op : x.op = .load) :
    s.formatOk x = languageImageOk s.staged := by
  simp only [State.formatOk, target, op]

theorem formatOk_plan (s : State) {x : Txn} (target : x.kind = .evacPlan) (op : x.op = .load) :
    s.formatOk x = planImageOk s.staged := by
  simp only [State.formatOk, target, op]

theorem formatOk_other (s : State) {x : Txn} (entry : ¬(x.kind = .entry ∧ (x.op = .put ∨ x.op = .patch)))
    (language : ¬(x.kind = .language ∧ x.op = .load)) (plan : ¬(x.kind = .evacPlan ∧ x.op = .load)) : s.formatOk x = true := by
  unfold State.formatOk
  split
  · next target op => exact absurd ⟨target, .inl op⟩ entry
  · next target op => exact absurd ⟨target, .inr op⟩ entry
  · next target op => exact absurd ⟨target, op⟩ language
  · next target op => exact absurd ⟨target, op⟩ plan
  · rfl

/-- Settles O17: the CRC-16 by its serial register, the refusals in the order of R31 to R33, and the format check field by field. -/
theorem closeIsRefusedInOrder : Obligations.CloseIsRefusedInOrder := by
  refine ⟨rfl, crc16_snoc, fun s image waypoints bytes absent present => ?_, fun r chain => ⟨waypoints_length r chain,
    fun k => waypoints_getElem? r chain⟩, fun s feed tr fr heard kind => ?_, ?_⟩
  · rw [bytes]
    exact crcContent_eq s image absent present
  · have mine : (fr.kind == 0x04) = true := by simp [kind]
    rw [exec_closeFrame]
    refine ⟨fun x staging txn => ⟨fun length => ?_, fun length differs => ?_, fun length agrees fails => ?_⟩, fun idle => ?_,
      fun busy => ?_⟩
    · rw [trunkFrame_refuses heard mine (close_length staging txn length), replyTag_of_txn txn]
    · have closes := (close_check (s := { s with trunk := tr }) staging txn length differs).trans (endTxn_nak (by exact txn) _ _)
      rw [trunkFrame_answers heard mine closes]
      rfl
    · have closes := (close_format (s := { s with trunk := tr }) staging txn length agrees fails).trans (endTxn_nak (by exact txn) _ _)
      rw [trunkFrame_answers heard mine closes]
      rfl
    · rw [trunkFrame_refuses heard mine (close_idle idle)]
    · rw [trunkFrame_refuses heard mine (close_busy busy)]
  · intro s x m content
    obtain rfl : m = s.staged := content
    refine ⟨fun target takes => ?_, fun target op => ?_, fun target op => ?_, formatOk_other s⟩
    · rw [formatOk_entry s target takes, Bool.and_eq_true, entryImageOk_iff, routeActionOk_iff takes]
      exact ⟨fun ⟨⟨unit, fields, names⟩, route⟩ => ⟨unit, fields, names, route⟩,
        fun ⟨unit, fields, names, route⟩ => ⟨⟨unit, fields, names⟩, route⟩⟩
    · rw [formatOk_language s target op]
      exact languageImageOk_iff _
    · rw [formatOk_plan s target op]
      exact planImageOk_iff _

end Sys2Proof.Machine.UpdateTransactions
end

section
/-! PROOFS. A CLOSE that commits an entry (R5 to R7, R14, R34, R35, R148): what the commit writes before EC takes its notice. -/

namespace Sys2Proof.Machine.Stores

open Sys2Proof Sys2Proof.Machine Sys2Proof.Machine.UpdateTransactions Sys2Proof.Machine.CardSlots

/-! ### EC and the trunk -/

theorem shownCommit_modTrunk (s : State) (g : Trunk → Trunk) : (s.modTrunk g).shownCommit = s.shownCommit.modTrunk g := by
  rw [← noticePlan_of_shown (s.modTrunk g), ← noticePlan_of_shown s]
  exact noticePlan_modTrunk s s.shownZone.val g

/-- EC does not look at the trunk as it takes an entry's notice. -/
theorem noticeEntry_modTrunk (s : State) (n : Nat) (g : Trunk → Trunk) :
    (s.modTrunk g).noticeEntry n = (s.noticeEntry n).modTrunk g := by
  by_cases exits : s.evac.plans[s.shownZone].bind planExit = some n
  · rw [noticeEntry_of_exit exits, noticeEntry_of_exit (s := s.modTrunk g) exits, shownCommit_modTrunk]
  · rw [noticeEntry_of_other exits, noticeEntry_of_other (s := s.modTrunk g) exits]

theorem modTrunk_entry (s : State) (g : Trunk → Trunk) (n : Nat) : (s.modTrunk g).entry n = s.entry n := rfl

/-! ### The commit before EC's notice -/

/-- The entry after its commit (R7). -/
def newEntry (s : State) (x : Txn) : Entry :=
  ⟨stateAfter x.op (s.entry x.number).state, (s.entry x.number).generation + 1, newImage x.op s.staged (s.entry x.number).image,
    newRoute x.op s.staged (s.entry x.number).route s.update.chain⟩

/-- The state in which EC is given the notice of an entry's commit (R35). -/
def entryCommitted (s : State) (x : Txn) : State :=
  (State.commitNotice { entryStored s x with
    orders := { s.orders with reposition := some ⟨x.number, (s.entry x.number).state, (newEntry s x).state⟩ } }
    x.number (newEntry s x).state).raiseAll .directoryChanged

theorem entryCommit_eq (s : State) (x : Txn) : s.entryCommit x = (entryCommitted s x).noticeEntry x.number := rfl

theorem entryCommitted_entry (s : State) (x : Txn) (n : Nat) :
    (entryCommitted s x).entry n = if x.number = n then newEntry s x else s.entry n := setEntry_entry s x.number n (newEntry s x)

/-- Every face takes the notice of the commit and DIRECTORY_CHANGED (R35, R148). -/
theorem entryCommitted_face (s : State) (x : Txn) (f : Face) : (entryCommitted s x).face f =
    { (s.commitNotice x.number (newEntry s x).state).face f with
      latch := if s.enabled f = true then ((s.commitNotice x.number (newEntry s x).state).face f).latch ||| 0x040
        else ((s.commitNotice x.number (newEntry s x).state).face f).latch } := by
  rw [entryCommitted, raiseAll_face, commitNotice_face, commitNotice_face]
  rfl

/-- The table of R148 at every card slot of a face. -/
theorem entryCommitted_card (s : State) (x : Txn) (f : Face) (i : Fin 12) : ((entryCommitted s x).face f).cards[i] =
    (match (s.face f).cards[i] with
     | none => none
     | some card =>
       if card.entry = x.number ∧ (card.state = .drawing ∨ card.state = .current ∨ card.state = .stale) then
         some { card with state := if (newEntry s x).state = .live then .stale else .gone }
       else some card) := by
  have marked : ((entryCommitted s x).face f).cards[i] = cardNotice x.number (newEntry s x).state (s.face f).cards[i] := by
    rw [entryCommitted_face, commitNotice_face, notice_eq]
    exact vmap_getElem _ _ i
  rw [marked, cardNotice_eq]
  cases (s.face f).cards[i] with
  | none => rfl
  | some card => exact apply_ite some _ _ _

/-! ### The route and the content of the entry -/

theorem releaseOld_put {op : Op} (takes : op = .put ∨ op = .patch) (image : Mem) (old : Option Chain) (r : RouteStore) :
    releaseOld op image old r = if imgRouteAction image = some .keep then r else (old.map r.release).getD r := by
  rcases takes with rfl | rfl <;> cases old <;> simp [releaseOld]

theorem newRoute_put {op : Op} (takes : op = .put ∨ op = .patch) (image : Mem) (old : Option Chain) (staged : Chain) :
    newRoute op image old staged =
      if imgRouteAction image = some .new then some staged else if imgRouteAction image = some .keep then old else none := by
  rw [newRoute_eq]
  rcases takes with rfl | rfl <;> simp [takesStaged, keepsRoute]

theorem newImage_put {op : Op} (takes : op = .put ∨ op = .patch) (staged old : Mem) : newImage op staged old = staged := by
  rcases takes with rfl | rfl <;> rfl

/-- What the commit of an entry transaction leaves of the content, the route and the blocks (R5, R7, R14). -/
structure CommitWrites (s : State) (x : Txn) (e : Entry) (r : RouteStore) : Prop where
  put : x.op = .put ∨ x.op = .patch → e.image = s.staged ∧
    (imgRouteAction s.staged = some .new → e.route = some s.update.chain) ∧
    (imgRouteAction s.staged = some .none → e.route = none) ∧
    (imgRouteAction s.staged = some .keep → e.route = (s.entry x.number).route ∧ r = s.routes) ∧
    (imgRouteAction s.staged ≠ some .keep → r = ((s.entry x.number).route.map s.routes.release).getD s.routes)
  shown : x.op = .hide ∨ x.op = .show →
    e.image = (s.entry x.number).image ∧ e.route = (s.entry x.number).route ∧ r = s.routes
  remove : x.op = .remove → e.image = [] ∧ e.route = none ∧ r = ((s.entry x.number).route.map s.routes.release).getD s.routes

theorem commitWrites (s : State) (x : Txn) : CommitWrites s x (newEntry s x) (entryStored s x).routes := by
  have routes : (entryStored s x).routes = releaseOld x.op s.staged (s.entry x.number).route s.routes := rfl
  rw [routes]
  refine ⟨fun takes => ?_, fun op => ?_, fun op => ?_⟩
  · rw [releaseOld_put takes, newEntry, newImage_put takes, newRoute_put takes]
    refine ⟨rfl, fun new => if_pos new, fun none => by simp [none], fun keep => by simp [keep], fun drops => if_neg drops⟩
  · rcases op with op | op <;> simp [newEntry, newImage, newRoute, releaseOld, op]
  · cases old : (s.entry x.number).route <;> simp [newEntry, newImage, newRoute, releaseOld, op]

theorem stateAfter_eq (op : Op) (old : EntryState) : stateAfter op old =
    (match op with
     | .put | .show => EntryState.live
     | .hide => EntryState.hidden
     | .remove => EntryState.free
     | _ => old) := by cases op <;> rfl

/-- A CLOSE that commits an entry gives EC its notice in the committed state (R34, R35). -/
theorem exec_closeFrame_entry {s : State} {feed : Feed} {tr : Trunk} {fr : Frame} {x : Txn} (heard : s.heard feed = (tr, some fr))
    (kind : fr.kind = 0x04) (passes : ClosePasses s fr.data x) (target : x.kind = .entry) :
    exec (.closeFrame feed) s = .next (((entryCommitted s.committing x).modTrunk
      (fun _ => tr.answered fr.address (.ack x.tag .committing))).noticeEntry x.number) := by
  have mine : (fr.kind == 0x04) = true := by simp [kind]
  have heardPasses : ClosePasses { s with trunk := tr } fr.data x :=
    ⟨passes.staging, passes.txn, passes.length, passes.check, passes.format⟩
  rw [exec_closeFrame, trunkFrame_answers heard mine (close_commits heardPasses (by simp [target]))]
  have starts : State.startCommit { s with trunk := tr } x =
      (entryCommitted (State.committing { s with trunk := tr }) x).noticeEntry x.number := by
    simp only [State.startCommit, target]
    exact entryCommit_eq _ x
  rw [starts, ← noticeEntry_modTrunk]
  rfl

/-- Settles O18: the committed state of the entry, read field by field. -/
theorem closeCommitsEntry : Obligations.CloseCommitsEntry := by
  refine ⟨imgRouteAction_eq, fun s feed tr fr x heard kind staging txn target length check format => ?_⟩
  have commits := exec_closeFrame_entry heard kind ⟨staging, txn, length, check, format⟩ target
  obtain ⟨put, shows, remove⟩ := commitWrites s.committing x
  have own : (entryCommitted s.committing x).entry x.number = newEntry s.committing x :=
    (entryCommitted_entry s.committing x x.number).trans (if_pos rfl)
  refine ⟨_, commits, ?_, fun n other => ?_, ?_⟩
  · rw [modTrunk_entry, own]
    rfl
  · rw [modTrunk_entry, entryCommitted_entry, if_neg other.symm]
    rfl
  · rw [modTrunk_entry, own]
    refine ⟨rfl, stateAfter_eq x.op _, put, shows, remove, fun f => ⟨?_, entryCommitted_card s.committing x f⟩⟩
    rintro c rfl
    exact entryCommitted_face s.committing x f

end Sys2Proof.Machine.Stores
end

section
/-! PROOFS. PIXEL_GROUP_WRITE (R18, R113, R123, R126, R179): the next group of a plot, and how a text field and a message become one. -/

namespace Sys2Proof.Machine.DrawEngine

open Sys2Proof Sys2Proof.Machine

variable {s : State} {count : Nat} {p : Plot} {rest : List Job}

/-! ### The command -/

theorem exec_pixelGroupWrite (held : s.engine.glyphHeld = false) (work : s.engine.jobs ≠ []) :
    exec (.pixelGroupWrite count) s = .next (s.pixelGroup count) := by
  show execPixelGroupWrite count s = _
  simp [execPixelGroupWrite, held, work]

/-- What follows a group goes by what the group leaves (R113). -/
theorem pixelGroup_congr {u v : State} (same : u.writeGroup count = v.writeGroup count) : u.pixelGroup count = v.pixelGroup count := by
  unfold State.pixelGroup
  rw [same]

theorem pixelGroup_of_work (work : (s.writeGroup count).engine.jobs ≠ []) : s.pixelGroup count = s.writeGroup count := by
  simp [State.pixelGroup, work]

theorem pixelGroup_of_free (segment : (s.writeGroup count).engine.segment = none) : s.pixelGroup count = s.writeGroup count := by
  simp only [State.pixelGroup, segment]
  exact ite_id ..

theorem pixelGroup_of_last {g : Segment} (last : (s.writeGroup count).engine.jobs = [])
    (segment : (s.writeGroup count).engine.segment = some g) : s.pixelGroup count = (s.writeGroup count).workDone g := by
  simp [State.pixelGroup, last, segment]

/-! ### The next group of a plot -/

theorem writeGroup_of_plot (jobs : s.nextPlot (s.startMessage s.engine.jobs) = some (.plot p :: rest)) :
    s.writeGroup count = s.writePlot p rest count := by
  simp only [State.writeGroup, jobs]

theorem nextPlot_plot (jobs : s.engine.jobs = .plot p :: rest) :
    s.nextPlot (s.startMessage s.engine.jobs) = some (.plot p :: rest) := by
  rw [jobs]
  rfl

/-- The state in which a group of a plot is written, its work not yet moved on. -/
def plotted (s : State) (p : Plot) (count : Nat) : State := { s with planes := p.writeGroup (s.face p.face).image count s.planes }

theorem writePlot_of_more (more : p.passed + p.groupLength count < p.size) :
    s.writePlot p rest count = (plotted s p count).setJobs (.plot (p.advance count) :: rest) :=
  congrArg (State.setJobs _) (if_neg (Nat.not_le.mpr more))

theorem writePlot_of_last (last : p.size ≤ p.passed + p.groupLength count) :
    s.writePlot p rest count = (plotted s p count).setJobs rest := congrArg (State.setJobs _) (if_pos last)

/-! ### What follows the last group -/

section

variable {g : Segment}

theorem workDone_finishes (segment : s.engine.segment = some g) (stage : g.stage = .drawing ∨ g.stage = .routing) :
    s.workDone g = { s with engine := { s.engine with segment := some { g with stage := .finished } } } := by
  rcases stage with stage | stage <;> simp [State.workDone, stage, State.setStage, State.modSegment, segment]

theorem workDone_clears {slot : Fin 12} (segment : s.engine.segment = some g) (stage : g.stage = .clearing slot) :
    s.workDone g = State.modFace { s with engine := { s.engine with segment := some { g with stage := .finished } } } g.face
      (fun c => { c with cards := c.cards.set slot none }) := by
  simp [State.workDone, stage, State.setStage, State.modSegment, State.modFace, FaceContext.setCard, segment]

theorem workDone_erases (stage : g.stage = .erasing) : s.workDone g = s := by
  simp only [State.workDone, stage]

theorem workDone_expands {l : Level} {ls : List Level} (stage : g.stage = .expanding) (stack : (s.face g.face).queue.stack = l :: ls) :
    s.workDone g = s.modFace g.face (fun c => { c with queue := { c.queue with stack := { l with cell := l.cell + 1 } :: ls } }) := by
  simp only [State.workDone, stage, State.nextCell, stack]
  rfl

end

/-! ### Text fields and messages -/

theorem later_eq (t : TextRun) (rest : List Job) {code edge : Nat} (head : t.rest.head? = some (code, edge)) :
    t.later ++ rest = if t.rest.tail = [] then rest else .text { t with rest := t.rest.tail } :: rest := by
  obtain ⟨tail, run⟩ := List.head?_eq_some_iff.mp head
  cases tail <;> simp [TextRun.later, run]

/-- A text field whose next glyph is not held is its plot, with the field's rest behind it (R123). -/
theorem nextPlot_text {t : TextRun} {code edge : Nat} (head : t.rest.head? = some (code, edge)) :
    s.nextPlot (.text t :: rest) = (s.glyphRequest code).map (fun cell => .plot (t.glyphPlot cell edge) ::
      if t.rest.tail = [] then rest else .text { t with rest := t.rest.tail } :: rest) := by
  rw [← later_eq t rest head]
  obtain ⟨tail, run⟩ := List.head?_eq_some_iff.mp head
  simp only [State.nextPlot, run]
  cases s.glyphRequest code <;> rfl

/-- A held glyph request writes nothing (R18, R113). -/
theorem writeGroup_holds (held : s.nextPlot (s.startMessage s.engine.jobs) = none) : s.writeGroup count =
    { s with engine := { s.engine with jobs := s.startMessage s.engine.jobs, glyphHeld := true } } := by
  simp only [State.writeGroup, held]

/-- The work that stands after a message's start goes on as what the message started does (R179). -/
theorem writeGroup_started {jobs : List Job} (starts : s.startMessage s.engine.jobs = jobs)
    (started : State.startMessage (s.setJobs jobs) jobs = jobs) : (s.setJobs jobs).writeGroup count = s.writeGroup count := by
  have next : (s.setJobs jobs).nextPlot jobs = s.nextPlot jobs := rfl
  have work : (s.setJobs jobs).engine.jobs = jobs := rfl
  unfold State.writeGroup
  rw [work, started, starts, next]
  split <;> rfl

theorem languageLayout_eq {s : State} {l : Fin 4} {rtl : Bool} {ellipsis : Option Nat}
    (layout : (rtl, ellipsis) = (match s.languages[l] with
                                 | some i => (decide (i.num 0 = 1), if i.num16 2 = 0xFFFF then none else some (i.num16 2))
                                 | none => (false, none))) : s.languageLayout l = (rtl, ellipsis) := by
  rw [layout]
  unfold State.languageLayout
  cases s.languages[l] <;> rfl

/-- A message with a code starts as its text field (R179). -/
theorem messageJob_eq {f : Face} {l : Fin 4} {codes : List Nat} {rtl : Bool} {ellipsis : Option Nat} (some : codes ≠ [])
    (layout : s.languageLayout l = (rtl, ellipsis)) :
    s.messageJob f l codes = [.text ⟨f, .replace, 2, 2, 96, layoutText rtl ellipsis 24 1032 48 codes⟩] := by
  have positions : layoutText rtl ellipsis 24 1032 48 codes ≠ [] := layoutText_ne_nil rtl ellipsis 24 1032 48 codes some (by decide)
  obtain ⟨first, later, run⟩ := List.exists_cons_of_ne_nil positions
  have size : glyphSize 2 = 48 := rfl
  simp only [State.messageJob, State.textJob, layout, size, run]

/-! ### Glyph requests -/

theorem glyphRequest_of_copy {code : Nat} (copying : s.glyphs.copying = some (code / 64)) : s.glyphRequest code = none := by
  simp [State.glyphRequest, copying]

section

variable {code : Nat} (still : s.glyphs.copying ≠ some (code / 64))
include still

theorem glyphRequest_of_page {m : Mem} (page : s.glyphPage (code / 64) = some m) :
    s.glyphRequest code = some (m.readBytes (72 * (code % 64)) 72) := by
  simp [State.glyphRequest, still, page, Config.glyphBytes]

variable (blank : s.glyphPage (code / 64) = none)
include blank

theorem glyphRequest_of_copy_zero (copying : s.glyphs.copying = some 0) : s.glyphRequest code = none := by
  rw [copying] at still
  simp [State.glyphRequest, still, blank, copying]

theorem glyphRequest_of_zero (free : s.glyphs.copying ≠ some 0) {m : Mem} (page : s.glyphPage 0 = some m) :
    s.glyphRequest code = some (m.readBytes 0 72) := by
  simp [State.glyphRequest, still, blank, free, page, Config.glyphBytes]

theorem glyphRequest_of_blank (free : s.glyphs.copying ≠ some 0) (page : s.glyphPage 0 = none) :
    s.glyphRequest code = some (List.replicate 72 0) := by
  simp [State.glyphRequest, still, blank, free, page, Config.glyphBytes]

end

/-! ### Every group -/

theorem exec_heldText {t : TextRun} {code edge : Nat} (held : s.engine.glyphHeld = false) (jobs : s.engine.jobs = .text t :: rest)
    (head : t.rest.head? = some (code, edge)) (request : s.glyphRequest code = none) :
    exec (.pixelGroupWrite count) s = .next { s with engine := { s.engine with glyphHeld := true } } := by
  have starts : s.startMessage s.engine.jobs = s.engine.jobs := by rw [jobs]; rfl
  have waits : s.nextPlot (s.startMessage s.engine.jobs) = none := by rw [starts, jobs, nextPlot_text head, request]; rfl
  have group := writeGroup_holds (count := count) waits
  rw [starts] at group
  have work : (s.writeGroup count).engine.jobs ≠ [] := by
    rw [group]
    show s.engine.jobs ≠ []
    simp [jobs]
  rw [exec_pixelGroupWrite held (by simp [jobs]), pixelGroup_of_work work, group]

theorem exec_text {t : TextRun} {code edge : Nat} {cell : Bytes} (held : s.engine.glyphHeld = false)
    (jobs : s.engine.jobs = .text t :: rest) (head : t.rest.head? = some (code, edge)) (request : s.glyphRequest code = some cell) :
    exec (.pixelGroupWrite count) s = exec (.pixelGroupWrite count) { s with engine := { s.engine with
      jobs := .plot (t.glyphPlot cell edge) :: if t.rest.tail = [] then rest else .text { t with rest := t.rest.tail } :: rest } } := by
  have starts : s.startMessage s.engine.jobs = s.engine.jobs := by rw [jobs]; rfl
  have plots := nextPlot_text (s := s) (rest := rest) head
  rw [← jobs, ← starts, request, Option.map_some] at plots
  rw [exec_pixelGroupWrite held (by simp [jobs]), exec_pixelGroupWrite (by exact held) (by nofun)]
  refine congrArg _ (pixelGroup_congr ?_)
  rw [writeGroup_of_plot plots, writeGroup_of_plot (nextPlot_plot rfl)]
  rfl

theorem exec_message {f : Face} {l : Fin 4} {codes : List Nat} {rtl : Bool} {ellipsis : Option Nat}
    (held : s.engine.glyphHeld = false) (jobs : s.engine.jobs = .message f l codes :: rest) (some : codes ≠ [])
    (layout : s.languageLayout l = (rtl, ellipsis)) :
    exec (.pixelGroupWrite count) s = exec (.pixelGroupWrite count) { s with engine := { s.engine with
      jobs := .text ⟨f, .replace, 2, 2, 96, layoutText rtl ellipsis 24 1032 48 codes⟩ :: rest } } := by
  have starts : s.startMessage s.engine.jobs = .text ⟨f, .replace, 2, 2, 96, layoutText rtl ellipsis 24 1032 48 codes⟩ :: rest := by
    rw [jobs]
    exact congrArg (· ++ rest) (messageJob_eq some layout)
  rw [exec_pixelGroupWrite held (by simp [jobs]), exec_pixelGroupWrite (by exact held) (by nofun)]
  exact congrArg _ (pixelGroup_congr (writeGroup_started starts rfl).symm)

/-- Settles O41: the group by `writePlot`, what follows its last one by `workDone`, and text and messages by the plot they come to. -/
theorem pixelGroupWritesAdvance : Obligations.PixelGroupWritesAdvance := by
  rintro s count n p rest t held jobs rfl rfl
  have command : exec (.pixelGroupWrite count) s = .next (s.pixelGroup count) := exec_pixelGroupWrite held (by simp [jobs])
  have group := writeGroup_of_plot (count := count) (nextPlot_plot jobs)
  rw [command]
  refine ⟨fun more => ?_, fun last => ⟨fun idle => ?_, fun g none segment => ?_⟩, ?_, ?_, ?_⟩
  · have written := group.trans (writePlot_of_more more)
    rw [pixelGroup_of_work (by rw [written]; nofun), written]
    rfl
  · have written := group.trans (writePlot_of_last last)
    have ends : s.pixelGroup count = s.writeGroup count := by
      rcases idle with some | free
      · exact pixelGroup_of_work (by rw [written]; exact some)
      · exact pixelGroup_of_free (by rw [written]; exact free)
    rw [ends, written]
    rfl
  · subst none
    have written := group.trans (writePlot_of_last last)
    have ends : s.pixelGroup count = ((plotted s p count).setJobs []).workDone g := by
      rw [pixelGroup_of_last (by rw [written]; rfl) (by rw [written]; exact segment), written]
    rw [ends]
    refine ⟨fun stage => ?_, fun slot stage => ?_, fun stage => ?_, fun l ls stage stack => ?_⟩
    · rw [workDone_finishes (by exact segment) stage]
      rfl
    · rw [workDone_clears (by exact segment) stage]
      rfl
    · rw [workDone_erases stage]
      rfl
    · rw [workDone_expands stage (by exact stack)]
      rfl
  · rintro u field code edge form head
    have held : u.engine.glyphHeld = false := by rw [form]; exact held
    have jobs : u.engine.jobs = .text field :: rest := by rw [form]
    refine ⟨exec_heldText held jobs head, fun glyph later request behind => ?_⟩
    rw [behind]
    exact exec_text held jobs head request
  · rintro u f l codes rtl ellipsis form some layout
    have held : u.engine.glyphHeld = false := by rw [form]; exact held
    have jobs : u.engine.jobs = .message f l codes :: rest := by rw [form]
    have layout : u.languageLayout l = (rtl, ellipsis) := by rw [form]; exact languageLayout_eq layout
    exact exec_message held jobs some layout
  · rintro code page rfl
    exact ⟨glyphRequest_of_copy, fun still => ⟨fun m => glyphRequest_of_page still, fun blank => ⟨glyphRequest_of_copy_zero still blank,
      fun free => ⟨fun m => glyphRequest_of_zero still blank free, glyphRequest_of_blank still blank free⟩⟩⟩⟩

end Sys2Proof.Machine.DrawEngine
end

section
/-! PROOFS. The ends of the copies (R18, R36, R37, R40, R97): the store's new content, the commit's end, and what waited for it. -/

namespace Sys2Proof.Machine.Stores

open Sys2Proof Sys2Proof.Machine Sys2Proof.Machine.UpdateTransactions Sys2Proof.Machine.DrawEngine

variable {s : State}

/-! ### The held glyph request -/

theorem answerGlyph_of_free (free : s.engine.glyphHeld = false) : s.answerGlyph = s := by
  simp [State.answerGlyph, free]

theorem answerGlyph_of_plot {jobs : List Job} (held : s.engine.glyphHeld = true) (next : s.nextPlot s.engine.jobs = some jobs) :
    s.answerGlyph = { s with engine := { s.engine with jobs := jobs, glyphHeld := false } } := by
  simp only [State.answerGlyph, held, next, if_true]

/-- An answer changes the engine alone (R18). -/
theorem answerGlyph_outside (s : State) : s.answerGlyph = { s with engine := s.answerGlyph.engine } := by
  cases held : s.engine.glyphHeld with
  | false => rw [answerGlyph_of_free held]
  | true =>
    cases next : s.nextPlot s.engine.jobs with
    | none => rw [show s.answerGlyph = s by simp only [State.answerGlyph, held, next, if_true]]
    | some jobs => rw [answerGlyph_of_plot held next]

/-! ### The page copy -/

theorem exec_glyphCopyDone {p : Nat} (copying : s.glyphs.copying = some p) : exec .glyphCopyDone s = .next (s.glyphCopied p) := by
  show execGlyphCopyDone s = _
  simp only [execGlyphCopyDone, copying]

theorem staged_of_image {i : Image} (image : s.update.image = some i) : s.staged = i.bytes := by
  simp only [State.staged, image]

/-- The page holds the image, and the commit is done (R36, R40). -/
def pageCopied (s : State) (p : Nat) (x : Txn) (i : Image) : State :=
  { s with glyphs := ⟨Sparse.write none s.glyphs.pages p (some i.bytes), none⟩, update := s.update.done x.tag }

theorem glyphCopied_eq {x : Txn} {i : Image} (p : Nat) (txn : s.update.txn = some x) (image : s.update.image = some i) :
    s.glyphCopied p = ((pageCopied s p x i).raiseAll .glyphsChanged).answerGlyph := by
  unfold State.glyphCopied
  rw [staged_of_image image]
  exact congrArg (fun u : State => (u.raiseAll .glyphsChanged).answerGlyph) (commitDone_of_txn (by exact txn))

theorem pageCopied_page (s : State) (p k : Nat) (x : Txn) (i : Image) :
    (pageCopied s p x i).glyphPage k = if k = p then some i.bytes else s.glyphPage k := by
  refine (setGlyphPage_glyphPage s p k (some i.bytes)).trans ?_
  simp only [eq_comm]

/-- A text field whose request waited for the copy takes its last glyph from the new content (R18, R123). -/
theorem answered_plot {p : Nat} {x : Txn} {i : Image} {field : TextRun} {rest : List Job} {code edge : Nat}
    (held : s.engine.glyphHeld = true) (jobs : s.engine.jobs = .text field :: rest) (run : field.rest = [(code, edge)])
    (page : code / 64 = p) : ((pageCopied s p x i).raiseAll .glyphsChanged).answerGlyph.engine = { s.engine with
      glyphHeld := false
      jobs := .plot (field.glyphPlot (i.bytes.readBytes (72 * (code % 64)) 72) edge) :: rest } := by
  have request : State.glyphRequest ((pageCopied s p x i).raiseAll .glyphsChanged) code =
      some (i.bytes.readBytes (72 * (code % 64)) 72) := by
    refine glyphRequest_of_page (by show none ≠ some _; nofun) ?_
    exact (pageCopied_page s p (code / 64) x i).trans (if_pos page)
  have next : State.nextPlot ((pageCopied s p x i).raiseAll .glyphsChanged) s.engine.jobs =
      some (.plot (field.glyphPlot (i.bytes.readBytes (72 * (code % 64)) 72) edge) :: rest) := by
    rw [jobs, nextPlot_text (by rw [run]; rfl), request]
    simp [run]
  rw [answerGlyph_of_plot (by exact held) next]
  rfl

/-! ### The template copy -/

theorem exec_templateCopyDone {k : Nat} (copying : s.templates.copying = some k) :
    exec .templateCopyDone s = .next (s.templateCopied k).resumePush := by
  show execTemplateCopyDone s = _
  simp only [execTemplateCopyDone, copying]

/-- The template holds the image, and the commit is done (R37, R40). -/
def cellsCopied (s : State) (k : Nat) (x : Txn) (i : Image) : State :=
  { s with
    templates := ⟨Sparse.write Template.empty s.templates.table k ⟨some i.bytes, (s.template k).use⟩, none, s.templates.entered⟩
    update := s.update.done x.tag }

theorem templateCopied_eq {x : Txn} {i : Image} (k : Nat) (txn : s.update.txn = some x) (image : s.update.image = some i) :
    s.templateCopied k = (cellsCopied s k x i).raiseAll .templateChanged := by
  unfold State.templateCopied
  rw [staged_of_image image]
  exact congrArg (fun u : State => u.raiseAll .templateChanged) (commitDone_of_txn (by exact txn))

theorem cellsCopied_template (s : State) (k j : Nat) (x : Txn) (i : Image) :
    (cellsCopied s k x i).template j = ⟨if j = k then some i.bytes else (s.template j).cells, (s.template j).use⟩ := by
  refine (setTemplate_template s k j ⟨some i.bytes, (s.template k).use⟩).trans ?_
  by_cases own : k = j
  · subst own; simp
  · simp [own, Ne.symm own]

/-! ### A push that waited -/

theorem resumePush_of_still (still : ∀ g, s.engine.segment = some g → ∀ j x y ret, g.stage ≠ .pushing j x y ret) :
    s.resumePush = s := by
  unfold State.resumePush
  split
  · next g segment =>
    split
    · next j x y ret stage => exact absurd stage (still g segment j x y ret)
    · rfl
  · rfl

theorem resumePush_of_pushing {g : Segment} {k x y : Nat} {ret : Option (Fin 16)} (segment : s.engine.segment = some g)
    (stage : g.stage = .pushing k x y ret) (free : s.templates.copying ≠ some k) : s.resumePush = s.pushLevel g.face k x y ret := by
  simp only [State.resumePush, segment, stage, free, if_false]

/-- A resumed push writes the stack of its face, the template's use and the stage alone (R97). -/
structure Pushed (s t : State) : Prop where
  outside : t = { s with templates := t.templates, faces := t.faces, engine := t.engine }
  copying : t.templates.copying = s.templates.copying
  cells : ∀ j, (t.template j).cells = (s.template j).cells

theorem Pushed.refl (s : State) : Pushed s s := ⟨rfl, rfl, fun _ => rfl⟩

theorem pushLevel_template (s : State) (f : Face) (k x y j : Nat) (ret : Option (Fin 16)) : (s.pushLevel f k x y ret).template j =
    ⟨(s.template j).cells, if j = k then (s.template j).use + 1 else (s.template j).use⟩ := by
  refine (setTemplate_template s k j { s.template k with use := (s.template k).use + 1 }).trans ?_
  by_cases own : k = j
  · subst own; simp
  · simp [own, Ne.symm own]

theorem pushLevel_face (s : State) (f h : Face) (k x y : Nat) (ret : Option (Fin 16)) : (s.pushLevel f k x y ret).face h =
    if f = h then { s.face h with queue := { (s.face h).queue with
      stack := ⟨k, 0, ret, x, y, Config.levelBudget⟩ :: (s.face f).queue.stack } } else s.face h :=
  modFace_face s f h (fun c => { c with queue := { c.queue with
    stack := ⟨k, 0, ret, x, y, Config.levelBudget⟩ :: (s.face f).queue.stack } })

theorem pushLevel_pushed (s : State) (f : Face) (k x y : Nat) (ret : Option (Fin 16)) : Pushed s (s.pushLevel f k x y ret) :=
  ⟨rfl, rfl, fun j => by rw [pushLevel_template]⟩

theorem resumePush_pushed (s : State) : Pushed s s.resumePush := by
  unfold State.resumePush
  split
  · split
    · split
      · exact .refl s
      · exact pushLevel_pushed s _ _ _ _ _
    · exact .refl s
  · exact .refl s

/-! ### Both copies -/

/-- Settles O47: each copy leaves its store written and its commit done (`pageCopied`, `cellsCopied`); then what waited goes on. -/
theorem copiesEndTheirCommits : Obligations.CopiesEndTheirCommits := by
  rintro s x i done txn image rfl
  refine ⟨fun p copying => ⟨_, exec_glyphCopyDone copying, ?_⟩, fun k copying => ⟨_, exec_templateCopyDone copying, ?_⟩⟩
  · rw [glyphCopied_eq p txn image]
    have outside := answerGlyph_outside ((pageCopied s p x i).raiseAll .glyphsChanged)
    refine ⟨?_, fun k => ?_, ?_, fun f => ?_, fun free => ?_, fun field rest code edge held jobs run page => ?_⟩
    · rw [outside]; rfl
    · rw [outside]; exact pageCopied_page s p k x i
    · rw [outside]; rfl
    · rw [outside]; exact raiseAll_face (pageCopied s p x i) .glyphsChanged f
    · rw [answerGlyph_of_free (by exact free)]; rfl
    · exact answered_plot held jobs run page
  · rw [templateCopied_eq k txn image]
    have pushed := resumePush_pushed ((cellsCopied s k x i).raiseAll .templateChanged)
    have template (j : Nat) := cellsCopied_template s k j x i
    have use (j : Nat) : ((cellsCopied s k x i).template j).use = (s.template j).use := by rw [template]
    have latched (f : Face) := raiseAll_face (cellsCopied s k x i) .templateChanged f
    refine ⟨?_, pushed.copying, fun j => ?_, fun still => ?_, fun g px py ret segment stage => ?_⟩
    · rw [pushed.outside]; rfl
    · rw [pushed.cells]
      exact congrArg Template.cells (template j)
    · rw [resumePush_of_still (by exact still)]
      exact ⟨rfl, use, latched⟩
    · rw [resumePush_of_pushing (by exact segment) stage (by nofun)]
      refine ⟨?_, ?_, fun j => ?_, List.mem_insert_self, fun f other => ?_⟩
      · exact congrArg (fun v => ({ s.engine with segment := v.map (fun g => { g with stage := Stage.expanding }) } : Engine)) segment
      · rw [pushLevel_face, if_pos rfl, latched]
        rfl
      · rw [pushLevel_template, ← use]
        rfl
      · rw [pushLevel_face, if_neg other.symm]
        exact latched f

end Sys2Proof.Machine.Stores
end
